-- ==== Sys2Proof/Word.lean ====
section
/-! DEFINITION. The words the manual computes with (R42: registers are 32 bits wide) and the plainest facts about them. -/

namespace Sys2Proof

/-- A register or a 32-bit quantity that software sees as a word (R42). -/
abbrev Word := BitVec 32

/-- One byte of DRAM, of a frame or of host memory. -/
abbrev Byte := BitVec 8

/-- A frame epoch (R12): an unsigned 32-bit count of frame periods. -/
abbrev Epoch := BitVec 32

/-- A frame on a network or on a serial line, byte 0 first. -/
abbrev Bytes := List (BitVec 8)

end Sys2Proof
end

