-- ==== Sys2Proof/Syntax.lean ====
section
/-! DEFINITION. The commands of the KZ9160: one constructor of `Instr` per row of spec/opcode_table.json, and the types of their
operands. A command is a register write, a descriptor, a received frame, a serial character, an edge on a pin, or the moment at
which something the chip times falls due. -/

namespace Sys2Proof

/-- R65: who sends a register write. Writes of different initiators reach a block one at a time, in the order of the queue. -/
inductive Initiator | host | core | security | partner
deriving DecidableEq, Repr

/-- Which copy of a configuration word an upset strikes (R55: the parity bit travels with the word). -/
inductive UpsetCopy | live | shadow | staging
deriving DecidableEq, Repr

/-- An upset of one bit of a configuration word between two parity sweeps; bit 32 is the parity bit itself. -/
structure Upset where
  copy : UpsetCopy
  offset : Nat
  bitNo : Nat
deriving DecidableEq, Repr

/-- A TS80 as a message carries it, with its nanoseconds unchecked (R9 judges them). -/
structure Ts where
  sec : Nat
  ns : Nat
deriving DecidableEq, Repr

/-- An edge of the 1PPS input (R88): its direction, and the cycles of CLK_ENGINE for which the level that it begins held. -/
structure PpsEdge where
  rising : Bool
  held : Nat
deriving DecidableEq, Repr

/-- R322: a serial line about one bit: its level in consecutive CLK_PERI cycles, before the glitch filter, true for mark; the last cycle
is the one after the bit's sampling point, and the line stood at the first level before them. -/
abbrev Samples := List Bool

/-- R433: the level that a ball has taken, and the CLK_PERI cycles for which it has held it. -/
structure BallEdge where
  level : Bool
  held : Nat
deriving DecidableEq, Repr

/-- The PTP messages of R80 besides Sync, with the timestamp that IEEE 1588 gives each. Corrections are in units of 2⁻¹⁶ ns, as IEEE 1588 carries them. -/
inductive PtpMsg
  | followUp (seq : Nat) (t1 : Ts) (correction : Int)
  | delayReq (seq clock : Nat) (origin : Ts)
  | delayResp (seq : Nat) (t4 : Ts) (correction : Int)
  | pdelayReq (seq clock : Nat) (origin : Ts)
  | pdelayResp (seq : Nat) (t2 : Ts) (correction : Int) (twoStep : Bool)
  | pdelayRespFollowUp (seq : Nat) (t3 : Ts) (correction : Int)
  | announce (localOffset : Option Int) (origin : Ts)
deriving DecidableEq, Repr

/-- The header fields an RTP receiver matches (R104), with the port and the arrival phase within the FRC tick. -/
structure RtpHdr where
  port : Nat
  dstIp : Word
  srcIp : Word
  udp : Nat
  payloadType : Nat
deriving DecidableEq, Repr

/-- One sample row data segment of an ST 2110-20 packet: row number, offset in pixels, the length its header states in bytes,
and the bytes the packet carries for it. -/
structure Srd where
  row : Nat
  offset : Nat
  length : Nat
  data : Bytes
deriving DecidableEq, Repr

/-- R135: how an AUX transaction ends. -/
inductive AuxResult | ack | nack | defer | timeout
deriving DecidableEq, Repr

/-- R37: what may lose lock: PLL_MAIN, the PHY clock, the PCIe PLL, a lane's SerDes PLL, its receive clock recovery, a DisplayPort PLL. -/
inductive ClockUnit
  | main | phy | pcie
  | lane (l : Nat)
  | recovery (l : Nat)
  | displayPort (output : Nat)
deriving DecidableEq, Repr

/-- R543, R544, R163: what an ECC check finds. -/
inductive EccResult | clean | corrected | uncorrectable
deriving DecidableEq, Repr

/-- R533, R30: one thing that the control firmware restores from the configuration store: a register's value, at a BAR0 offset, or bytes of
the store, at a flash offset, that go to DRAM. -/
inductive Restore
  | reg (offset : Nat) (value : Word)
  | table (address source length : Nat)
deriving DecidableEq, Repr

/-- R533–R537: what a boot finds: whether the PUF regenerates and the device secret unwraps, and the corrected bit-error rate; whether
the security firmware verifies; whether the images in slots A and B pass their digests; whether the check read passes with the
stored training, and what a full training finds; the engines that fail the known-answer test; the class 0 coefficients; what the control
firmware restores; the last stage over its limit, 0 for none; and the milliseconds since the supplies were good. -/
structure BootReport where
  pufOk : Bool := true
  ber : Nat := 0
  firmwareOk : Bool := true
  slotAOk : Bool := true
  slotBOk : Bool := true
  trainOk : Bool := true
  train : List (Nat × Word) := []
  katFailed : List Nat := []
  delays : List (Nat × Word) := []
  restored : List Restore := []
  late : Nat := 0
  ms : Nat := 0
deriving DecidableEq, Repr

/-- R516: where a request of the update protocol came from. -/
structure Peer where
  mac : Bytes
  ip : Nat
  port : Nat
deriving DecidableEq, Repr

/-- How a frame came in on a MAC (R369, R374, R378): its FCS is good; it held a code error; a fragment of it had an unexpected SMD
or count; its reassembly failed; it met a full receive buffer; its fragments after the first; and, for flow control, how long
after its last bit the frame being sent ends, in nanoseconds (R376). -/
structure RxInfo where
  fcs : Bool := true
  code : Bool := false
  smd : Bool := false
  assembly : Bool := false
  full : Bool := false
  frags : Nat := 0
  wire : Nat := 0
deriving DecidableEq, Repr

/-- What the physical layer reports with a link that comes up (MACn_LINK). -/
structure LinkReport where
  speed : Nat
  fec : Nat
  anDone : Bool
  block : Bool
  pauseAdv : Nat
deriving DecidableEq, Repr

/-- One command: one row of spec/opcode_table.json each. -/
inductive Instr
  -- Register model (02)
  | registerWrite (init : Initiator) (offset : Nat) (value : Word) (be : Nat)
  | unmappedAccess (offset : Nat) (write : Bool)
  | postedWriteComplete (key : Nat)
  | updateNow (groups : BitVec 16)
  | updateAtEpoch (groups : BitVec 16)
  | updateAtHeel (groups : BitVec 16)
  | updateReservedWhen (groups : BitVec 16)
  | groupApplyImmediate
  | paritySweep (upsets : List Upset)
  | epochBoundary
  | heelTimeReached
  -- Show time (03)
  | timeMeasWrite (e : Word)
  | ptpSyncRx (port phase seq domain : Nat) (twoStep : Bool) (t1 : Ts) (correction : Int)
  | ptpMessageRx (port phase domain : Nat) (msg : PtpMsg)
  | ptpSyncTx (port : Nat)
  | ppsCapture (edge : PpsEdge)
  | ppsMissing
  | ref10mMeasure
  | ref10mMissing
  | holdoverTimeout
  | timeRateWrite (rate : BitVec 40)
  | timeStepWrite (step : Word)
  | timeSetWrite (ns secLo secHi : Word)
  | framePeriodWrite (num den : Word)
  | epochAdjWrite (value : Word)
  | ltcFrameRx (tc ub : Word) (ago : Nat)
  | ltcLoss
  | ltcOutFrame
  | tsqPop
  | tsqLostPop
  | hoTargetPush (pin : Nat) (ns secLo secHi : Word)
  | heelOutEdge (pin : Nat)
  | delayReqSend (port : Nat)
  | heelOutPulseEnd (pin : Nat)
  -- Canvas ingest and raster (04)
  | videoPacketRx (rx : Nat) (hdr : RtpHdr) (seq : Word) (ts : Word) (marker : Bool) (srds : List Srd)
  | audioPacketRx (rx : Nat) (hdr : RtpHdr) (seq : BitVec 16) (ts : Word) (payload : Bytes)
  | pathTimeout (rx : Nat) (audio pathB : Bool)
  | audioGap (rx : Nat)
  | audioLagSecond
  | rasterFetchDone (line : Nat)
  | rasterPixelDue
  | rasterHoldRelease
  | previewHpd (output : Nat) (trained : Bool)
  | previewHpdDrop (output : Nat)
  | previewPixelDue (output : Nat) (fetched : Bool)
  | pvAuxCmd (output : Nat) (value : Word)
  | auxDone (output : Nat) (result : AuxResult) (data : Bytes)
  -- Render engines and Kennel (05)
  | graphCopyDone
  | grainReady (node : Nat)
  | grainTake (engine : Nat)
  | grainComplete (engine : Nat)
  | frameComplete
  | frameDeadline
  | engineWatchdog (engine : Nat)
  | localStoreError (engine : Nat) (corrected : Bool)
  | engineRestart (engine : Nat)
  | paramDataWrite (value : Word)
  -- Calibration (06)
  | calibGainsDone
  | calibCopy
  | calibCopyDone
  | calibCommit (atEpoch : Bool)
  | commitValidated
  | calibCancel
  | safeInWrite (zone : Nat) (value : Word)
  | scCoeffWrite (offset : Nat) (value : Word)
  | scApplyIfg (lane : Nat)
  -- Drive plans (07)
  | planDiagClear
  | planDiagClearDone
  | ledStatusAge (led : Nat)
  -- Vocon tile link (08)
  | voconSinkRecord
  | fragmentReady (tile : Nat) (epoch : Epoch) (idx : Nat)
  | planFragmentSend (port : Nat)
  | resendWindowClose
  | vcnKeyAgeLimit
  | helloRx (port : Nat) (frame : Bytes)
  | echoReportRx (port : Nat) (frame : Bytes)
  | echoLossRx (port : Nat) (frame : Bytes)
  | echoDetectRx (port : Nat) (frame : Bytes)
  | diagPingRx (port : Nat) (frame : Bytes)
  | diagTileRx (port : Nat) (frame : Bytes)
  -- HEEL and verification (09)
  | heelCopySend
  | verifySinkRecord
  | verifyClose
  -- Fixture output (10)
  | fixtureSinkRecord
  | sacnPacketSend
  | sacnGuardExpiry
  | sacnSyncSend
  | streamTerminatedSend
  | sacnInputRx (port : Nat) (packet : Bytes)
  | sacnInputSyncRx (port : Nat) (packet : Bytes)
  | sacnSourceLoss (input cid : Nat)
  | sacnSyncHoldExpiry (input cid : Nat)
  | eptAge (entry : Nat)
  | fixOvrDataWrite (value : Word)
  | dmxPacketStart (port : Nat)
  | dmxPacketRx (port brkNs mabNs : Nat) (framingError : Bool) (packet : Bytes)
  | dmxSourceLoss (port : Nat)
  | rdmGo (port : Nat)
  | rdmResponseRx (port ago : Nat) (collision : Bool) (response : Bytes)
  | rdmTimeout (port : Nat)
  -- Serial ports (11)
  | uartCharRx (port : Nat) (data : List Samples) (parity stop start : Samples) (ago : Nat)
  | uartBreakDetect (port : Nat)
  | uartBreakEnd (port cycles : Nat)
  | uartLineStuck (port : Nat)
  | uartStuckRearm (port : Nat)
  | uartRxTimeout (port : Nat)
  | uartDataRead (port : Nat)
  | uartDataWrite (port : Nat) (value : Word)
  | uartLsrRead (port : Nat)
  | uartTxEntryStart (port : Nat)
  | uartTxDone (port : Nat)
  | flushRx (port : Nat)
  | flushTx (port : Nat)
  | uartFalseStart (port : Nat)
  | lineRiseHeldCharacter (port : Nat)
  -- Sentence hub and Signal Map (12)
  | sentenceComplete (port : Nat)
  | hubTxqMove (port : Nat)
  | ruleCopyDone
  | sigmapPass (evaluated : Nat)
  -- Ethernet ports (13)
  | macFrameRx (port : Nat) (frame : Bytes) (info : RxInfo)
  | pauseRx (port quanta wire : Nat)
  | pfcRx (port : Nat) (enable : BitVec 8) (times : List Nat) (wire : Nat)
  | pauseExpiry (port : Nat)
  | leashLimit (port : Nat)
  | leashHoldEnd (port : Nat)
  | fcXoffSend (port held : Nat)
  | fcRefresh (port held : Nat)
  | fcXonSend (port held : Nat)
  | macTxFrame (port : Nat) (during : Bool) (dry : Option Nat)
  | deadlineDrop (port : Nat)
  | macLinkChange (port : Nat) (link : Option LinkReport)
  | preemptVerify (port : Nat) (answered : Bool)
  | wakeFrameRx (port : Nat) (frame : Bytes)
  | downshiftDown (port : Nat)
  | downshiftUp (port : Nat)
  | macsecSaWrite (port : Nat) (sc : Option Nat) (an : Nat) (value : Word)
  | macStatRead (port counter : Nat)
  -- Host interface and descriptor rings (14)
  | cmdTailWrite (ring : Nat) (value : BitVec 16)
  | cplHeadWrite (ring : Nat) (value : BitVec 16)
  | ringEnable (ring : Nat)
  | ringDisable (ring : Nat)
  | ringDrained (ring : Nat)
  | descriptorFetch (failed : Bool)
  | nop (ring : Nat)
  | paramWrite (ring : Nat)
  | dmaToDevice (ring : Nat)
  | dmaFromDevice (ring : Nat)
  | dmaComplete (ring index : Nat) (failed : Bool)
  | calibOp (ring : Nat)
  | updateOp (ring : Nat)
  | epochWait (ring : Nat)
  | txFrame (ring : Nat)
  | rxPost (ring : Nat)
  | pcieLinkLoss
  | functionLevelReset
  | pcieLinkUp (gen width bar4 : Nat) (msixEn funcMask : Bool)
  | bar4Access (offset : Nat) (write : Option Bytes) (count : Nat)
  -- Far bridge (15)
  | cfgrspRx (port : Nat) (frame : Bytes)
  | farWrite (ring : Nat)
  | farRead (ring : Nat)
  | farPieceTimeout (tag : Nat)
  | prefetchExpire (window : Nat)
  | farPoll
  | farPollTimeout (tile : Nat)
  -- Interrupt controller (16)
  | intcOffer (ie asleep : BitVec 4)
  | intcEntry (core : Nat)
  | intcEoi (core : Nat) (source : Word)
  | intcSrcWrite (source : Nat) (value : Word)
  | intcPendWrite (index : Nat) (value : Word)
  | intcModRelease (core : Nat)
  | intcCoreIdle (core : Nat)
  | msixMessage (vector : Nat)
  | msixModExpiry (vector : Nat)
  -- Brace redundancy (17)
  | braceStateSend
  | braceStateRx (frame : Bytes)
  | braceReleaseRx (frame : Bytes)
  | braceHandoverRx (frame : Bytes)
  | echoFwdRx (frame : Bytes)
  | farReqRx (frame : Bytes)
  | farRspRx (frame : Bytes)
  | braceSb3Edge
  | braceSb2Fall
  | partnerLost
  | seekTimeout
  | braceRelease
  | braceCmdRelease
  | braceCmdHandover
  | braceCmdRejoin
  | braceOp (ring : Nat)
  | katRun (passed : Bool)
  | confirmationTestDone (failed : List Nat)
  -- Sheaf (18)
  | classDigestDone (cls : Nat)
  | sheafSweep
  | sheafArm
  | sheafDisarm
  | sheafRecompute
  | sheafOpArm (ring : Nat)
  | sheafOpDisarm (ring : Nat)
  | sheafOpRecompute (ring : Nat)
  -- Security (19)
  | keyLoad (ring : Nat) (written : Bool)
  | keyUnwrap (ring : Nat) (written : Bool)
  | keyErase (ring : Nat)
  | keyInfo (ring : Nat)
  | tamperClear (ring : Nat)
  | debugClose (ring : Nat)
  | tamperDetect (source : Nat) (reading : Int)
  | secMaintWrite (minutes : Word)
  | maintEnd
  | trngHealthFail
  -- Check units (20)
  | checkFeed8 (init : Initiator) (unit : Nat) (value : Word)
  | checkFeed16 (init : Initiator) (unit : Nat) (value : Word)
  | checkFeed32 (init : Initiator) (unit : Nat) (value : Word)
  | checkInit (init : Initiator) (unit : Nat)
  | checkAppend (init : Initiator) (unit : Nat)
  | checkFrameEnd (unit : Nat)
  -- Firmware update (21)
  | updOpen (peer : Peer) (message : Bytes)
  | updBlock (peer : Peer) (message : Bytes)
  | updVerify (peer : Peer) (message : Bytes)
  | updVerifyDone
  | imageWriteDone (matching : Bool)
  | updActivate (peer : Peer) (message : Bytes)
  | updAbort (peer : Peer) (message : Bytes)
  | updStatusReq (peer : Peer) (message : Bytes)
  | updRecover (peer : Peer) (message : Bytes)
  | updOpVerify (ring : Nat)
  | updOpActivate (ring : Nat)
  | updOpConfirm (ring : Nat)
  | updOpReject (ring : Nat)
  | updOpAbort (ring : Nat)
  -- Power states, boot and background work (01, 22)
  | pllUnlock (unit : ClockUnit)
  | pllRelock (unit : ClockUnit)
  | sbyTrimMeasure (error : Int)
  | coreWatchdogReset (security : Bool)
  | boot (r : BootReport)
  | bootStageOverrun (stage : Nat)
  | dramScrub (found : EccResult)
  | dramUeShow (address : Nat)
  | sramScrub (found : List EccResult)
  | flashRefresh (offset correctedBits : Nat) (uncorrectable : Bool)
  | telemetrySample (temps : List Int) (volts : List Nat)
  | selfCalMeasure (results : List (Nat × Word))
  -- Pins (23)
  | gpioSet (high : Bool) (value : Word)
  | gpioClr (high : Bool) (value : Word)
  | pinInterruptEdge (pin : Nat) (edge : BallEdge)
  -- Power states (22) and timers of an update (21): the commands without operands stand last
  | updSessionTimeout
  | trialTimeout
  | pwrCmdShow
  | pwrCmdIdle
  | pwrCmdStandby
  | pwrCmdWarm
  | standbyEntryDone
  | wakePin
  | rtcAlarm
  | supply12vRise
  | supply12vFail
  | supply33vLoss
  | supply33vRise
  | pinReset
deriving DecidableEq, Repr

end Sys2Proof
end

