-- ==== Sys2Proof/Config.lean ====
section
/-! DEFINITION. What the manual leaves open, as constants without a body: the free values, and the functions of outside
standards (ciphers, signatures, hashes, key derivation) that the manual names and does not define. Nothing can evaluate them. -/

namespace Sys2Proof.Config

/-- The n-th free value of a run. -/
opaque freeValue : Nat → Nat

/-- SMPTE ST 2059-1 and ST 12-1 (R91): the BCD time address of local time of day (ns) at a fractional frame rate; the
flag says drop-frame. -/
opaque ltcTimeAddress : Nat → Bool → BitVec 32

/-- R240: the GCM-AES-256 tag (128 bits) of empty plaintext: key, 12-byte IV, additional authenticated data. -/
opaque gmac : Bytes → Bytes → Bytes → Nat

/-- R386–R388: GCM-AES-256: key, 12-byte IV, additional authenticated data, plaintext; the ciphertext with its 16-byte tag. -/
opaque gcmSeal : Bytes → Bytes → Bytes → Bytes → Bytes

/-- R386–R388: the plaintext of a ciphertext with its tag, when the tag verifies. -/
opaque gcmOpen : Bytes → Bytes → Bytes → Bytes → Option Bytes

/-- R470, R472: SHA-256 (FIPS 180-4), its first byte the most significant. -/
opaque sha256 : Bytes → Nat

/-- R493: AES-256 key unwrap (NIST SP 800-38F, KW): key-encryption key and blob; none when the integrity check fails. -/
opaque kwUnwrap : Bytes → Bytes → Option Bytes

/-- R486, R492: AES-256 key wrap: key-encryption key and what it wraps. -/
opaque kwWrap : Bytes → Bytes → Bytes

/-- R486: the PUF key that the start-up values and helper data of a number give, and the device secret of a number: 256 bits each. -/
opaque pufKey : Nat → Bytes
opaque deviceSecret : Nat → Bytes

/-- R486: the 256 bits derived from a device secret with label "PERSIST". -/
opaque persistKey : Nat → Bytes

/-- R545: WIN_FLASH_LIFE after that many erases. -/
opaque flashLife : Nat → Nat

/-- R486: the 512 bits derived from a device secret with label "FLASH". -/
opaque flashKey : Nat → Bytes

/-- R487: Nepelor's image-signing key digest in the security core's ROM. -/
opaque romSigner : Bytes

/-- R514, R520: SHA-384 (FIPS 180-4). -/
opaque sha384 : Bytes → Bytes

/-- R514, R520: whether an ECDSA P-384 signature is valid: public key, SHA-384 digest, signature. -/
opaque ecdsaOk : Bytes → Bytes → Bytes → Bool

end Sys2Proof.Config
end

