-- ==== Sys2Proof/Machine/RegAddr.lean ====
section
/-! DEFINITION. The names of the KZ9160's registers: for each register of the block tables of spec/ (R36, R70, R101, R131–R134,
R178, R179, R203, R230, R266, R287, R288, R314, R336, R364, R365, R390, R415, R429, R445, R467, R483, R503, R512, R527,
R548–R550, R566) its BAR0 offset, with the instance and index numbers as arguments. The names are the manual's own. -/

namespace Sys2Proof.Machine.R

abbrev CLOCK_CTRL : Nat := 0x1000
abbrev CLOCK_STATUS : Nat := 0x1004
abbrev CLOCK_LOCK : Nat := 0x1008
abbrev CLOCK_LANE_LOCK : Nat := 0x100C
abbrev CLOCK_SBY_TRIM : Nat := 0x1010
abbrev CLOCK_UNLOCK_CNT : Nat := 0x1014
abbrev GLOBAL_ID : Nat := 0x0
abbrev GLOBAL_REV : Nat := 0x4
abbrev GLOBAL_COMPAT : Nat := 0x8
abbrev GLOBAL_CTRL : Nat := 0xC
abbrev GLOBAL_UPDATE : Nat := 0x10
abbrev GLOBAL_UPD_PEND : Nat := 0x14
abbrev GLOBAL_UPD_FAIL : Nat := 0x18
abbrev GLOBAL_STATUS : Nat := 0x1C
abbrev GLOBAL_PARITY_CTRL : Nat := 0x20
abbrev GLOBAL_PARITY_ADDR : Nat := 0x24
abbrev GLOBAL_PARITY_CNT : Nat := 0x28
abbrev GLOBAL_UNMAPPED_ADDR : Nat := 0x2C
abbrev GLOBAL_WDROP_SUM : Nat := 0x30
abbrev GLOBAL_LOCKERR_SUM : Nat := 0x34
abbrev GLOBAL_SCRATCH : Nat := 0x38
abbrev TIME_CTRL : Nat := 0x20000
abbrev TIME_STATUS : Nat := 0x20004
abbrev TIME_SERVO_STATE : Nat := 0x20008
abbrev TIME_FRC_LO : Nat := 0x20010
abbrev TIME_FRC_HI : Nat := 0x20014
abbrev TIME_NOW_NS : Nat := 0x20018
abbrev TIME_NOW_SEC_LO : Nat := 0x2001C
abbrev TIME_NOW_SEC_HI : Nat := 0x20020
abbrev TIME_NOW_FRAC : Nat := 0x20024
abbrev TIME_RATE_LO : Nat := 0x20030
abbrev TIME_RATE_HI : Nat := 0x20034
abbrev TIME_RATE_LIMIT : Nat := 0x20038
abbrev TIME_KP : Nat := 0x20040
abbrev TIME_KI : Nat := 0x20044
abbrev TIME_LOCK_CFG : Nat := 0x20048
abbrev TIME_STEP_LIMIT : Nat := 0x2004C
abbrev TIME_OUTLIER : Nat := 0x20050
abbrev TIME_HOLDOVER_MS : Nat := 0x20054
abbrev TIME_MEAS : Nat := 0x20058
abbrev TIME_LAST_ERR : Nat := 0x2005C
abbrev TIME_STEP : Nat := 0x20060
abbrev TIME_SET_NS : Nat := 0x20064
abbrev TIME_SET_SEC_LO : Nat := 0x20068
abbrev TIME_SET_SEC_HI : Nat := 0x2006C
abbrev TIME_PTP_CTRL : Nat := 0x20070
abbrev TIME_PTP_MPD : Nat := 0x20074
abbrev TIME_UTC_OFFSET : Nat := 0x20078
abbrev TIME_PTP_MASTER_LO : Nat := 0x2007C
abbrev TIME_PTP_MASTER_HI : Nat := 0x20080
abbrev TIME_FRAME_DEN : Nat := 0x20084
abbrev TIME_FRAME_NUM : Nat := 0x20088
abbrev TIME_EPOCH : Nat := 0x2008C
abbrev TIME_EPOCH_ADJ : Nat := 0x20090
abbrev TIME_NEXT_BND_NS : Nat := 0x20094
abbrev TIME_NEXT_BND_SEC_LO : Nat := 0x20098
abbrev TIME_NEXT_BND_SEC_HI : Nat := 0x2009C
abbrev TIME_EPOCH_SKIP_CNT : Nat := 0x200A0
abbrev TIME_STEP_CNT : Nat := 0x200A4
abbrev TIME_OUTLIER_CNT : Nat := 0x200A8
abbrev TIME_PPS_CTRL : Nat := 0x200B0
abbrev TIME_PPS_CAP_NS : Nat := 0x200B4
abbrev TIME_PPS_CAP_SEC_LO : Nat := 0x200B8
abbrev TIME_PPS_CAP_SEC_HI : Nat := 0x200BC
abbrev TIME_REF10M_CTRL : Nat := 0x200C0
abbrev TIME_REF10M_PHASE : Nat := 0x200C4
abbrev TIME_LTCI_CTRL : Nat := 0x200D0
abbrev TIME_LTCI_TC : Nat := 0x200D4
abbrev TIME_LTCI_UB : Nat := 0x200D8
abbrev TIME_LTCI_TS_NS : Nat := 0x200DC
abbrev TIME_LTCI_TS_SEC_LO : Nat := 0x200E0
abbrev TIME_LTCI_TS_SEC_HI : Nat := 0x200E4
abbrev TIME_LTCO_CTRL : Nat := 0x200F0
abbrev TIME_LTCO_TZ : Nat := 0x200F4
abbrev TIME_LTCO_UB : Nat := 0x200F8
abbrev TIME_TSQ_SEL : Nat := 0x20100
abbrev TIME_TSQ_CMD : Nat := 0x20104
abbrev TIME_TSQ_STAT : Nat := 0x20108
abbrev TIME_TSQ_ID : Nat := 0x2010C
abbrev TIME_TSQ_FRAC : Nat := 0x20110
abbrev TIME_TSQ_NS : Nat := 0x20114
abbrev TIME_TSQ_SEC_LO : Nat := 0x20118
abbrev TIME_TSQ_SEC_HI : Nat := 0x2011C
abbrev TIME_TSQ_LOST_ID : Nat := 0x20120
abbrev TIME_TSQ_LOSTCNT : Nat := 0x20124
abbrev TIME_TSQ_RSV : Nat := 0x20128
abbrev TIME_PORTn_TXDLY (n : Nat) : Nat := 0x20200 + 0x8 * n
abbrev TIME_PORTn_RXDLY (n : Nat) : Nat := 0x20204 + 0x8 * n
abbrev TIME_HOn_CTRL (n : Nat) : Nat := 0x20400 + 0x20 * n
abbrev TIME_HOn_WIDTH (n : Nat) : Nat := 0x20404 + 0x20 * n
abbrev TIME_HOn_DLY (n : Nat) : Nat := 0x20408 + 0x20 * n
abbrev TIME_HOn_PERIOD (n : Nat) : Nat := 0x2040C + 0x20 * n
abbrev TIME_HOn_T_NS (n : Nat) : Nat := 0x20410 + 0x20 * n
abbrev TIME_HOn_T_SEC_LO (n : Nat) : Nat := 0x20414 + 0x20 * n
abbrev TIME_HOn_T_SEC_HI (n : Nat) : Nat := 0x20418 + 0x20 * n
abbrev TIME_HOn_STAT (n : Nat) : Nat := 0x2041C + 0x20 * n
abbrev INGn_V_CTRL (n : Nat) : Nat := 0x60000 + 0x400 * n
abbrev INGn_V_PORT (n : Nat) : Nat := 0x60004 + 0x400 * n
abbrev INGn_V_DST_IP (n : Nat) : Nat := 0x60008 + 0x400 * n
abbrev INGn_V_SRC_IP (n : Nat) : Nat := 0x6000C + 0x400 * n
abbrev INGn_V_UDP (n : Nat) : Nat := 0x60010 + 0x400 * n
abbrev INGn_V_SIZE (n : Nat) : Nat := 0x60014 + 0x400 * n
abbrev INGn_V_CROP_XY (n : Nat) : Nat := 0x60018 + 0x400 * n
abbrev INGn_V_CROP_WH (n : Nat) : Nat := 0x6001C + 0x400 * n
abbrev INGn_V_DST (n : Nat) : Nat := 0x60020 + 0x400 * n
abbrev INGn_V_RTP_OFFSET (n : Nat) : Nat := 0x60024 + 0x400 * n
abbrev INGn_V_TS_TOL (n : Nat) : Nat := 0x60028 + 0x400 * n
abbrev INGn_V_PATH_TMO (n : Nat) : Nat := 0x6002C + 0x400 * n
abbrev INGn_STATUS (n : Nat) : Nat := 0x60030 + 0x400 * n
abbrev INGn_V_FRAMES (n : Nat) : Nat := 0x60034 + 0x400 * n
abbrev INGn_V_INCOMPLETE_CNT (n : Nat) : Nat := 0x60038 + 0x400 * n
abbrev INGn_V_MALFORMED_CNT (n : Nat) : Nat := 0x6003C + 0x400 * n
abbrev INGn_V_LATE_CNT (n : Nat) : Nat := 0x60040 + 0x400 * n
abbrev INGn_V_EARLY_CNT (n : Nat) : Nat := 0x60044 + 0x400 * n
abbrev INGn_V_TSMISS_CNT (n : Nat) : Nat := 0x60048 + 0x400 * n
abbrev INGn_V_PATHA_CNT (n : Nat) : Nat := 0x6004C + 0x400 * n
abbrev INGn_V_PATHB_CNT (n : Nat) : Nat := 0x60050 + 0x400 * n
abbrev INGn_V_DUP_CNT (n : Nat) : Nat := 0x60054 + 0x400 * n
abbrev INGn_V_LAST_EPOCH (n : Nat) : Nat := 0x60058 + 0x400 * n
abbrev INGn_A_CTRL (n : Nat) : Nat := 0x60100 + 0x400 * n
abbrev INGn_A_PORT (n : Nat) : Nat := 0x60104 + 0x400 * n
abbrev INGn_A_DST_IP (n : Nat) : Nat := 0x60108 + 0x400 * n
abbrev INGn_A_SRC_IP (n : Nat) : Nat := 0x6010C + 0x400 * n
abbrev INGn_A_UDP (n : Nat) : Nat := 0x60110 + 0x400 * n
abbrev INGn_A_ENV_CFG (n : Nat) : Nat := 0x60114 + 0x400 * n
abbrev INGn_A_ENV (n : Nat) : Nat := 0x60118 + 0x400 * n
abbrev INGn_A_LAG_MIN (n : Nat) : Nat := 0x6011C + 0x400 * n
abbrev INGn_A_LAG_MAX (n : Nat) : Nat := 0x60120 + 0x400 * n
abbrev INGn_A_PKT_CNT (n : Nat) : Nat := 0x60124 + 0x400 * n
abbrev INGn_A_GAP_CNT (n : Nat) : Nat := 0x60128 + 0x400 * n
abbrev INGn_A_MALFORMED_CNT (n : Nat) : Nat := 0x6012C + 0x400 * n
abbrev CANVAS_CTRL : Nat := 0x68000
abbrev CANVAS_SIZE : Nat := 0x68004
abbrev CANVAS_BASE_LO : Nat := 0x68008
abbrev CANVAS_BASE_HI : Nat := 0x6800C
abbrev CANVAS_LINE_STRIDE : Nat := 0x68010
abbrev CANVAS_SLOT_STRIDE : Nat := 0x68014
abbrev CANVAS_FILL01 : Nat := 0x68018
abbrev CANVAS_FILL23 : Nat := 0x6801C
abbrev INGEST_STATUS : Nat := 0x68020
abbrev INGEST_COMMIT_EPOCH : Nat := 0x68024
abbrev CANVAS_SRCs (s : Nat) : Nat := 0x68040 + 0x4 * s
abbrev RASTER_CTRL : Nat := 0x70000
abbrev RASTER_HTIM_A : Nat := 0x70004
abbrev RASTER_HTIM_B : Nat := 0x70008
abbrev RASTER_VTIM_A : Nat := 0x7000C
abbrev RASTER_VTIM_B : Nat := 0x70010
abbrev RASTER_PIXRATE : Nat := 0x70014
abbrev RASTER_STATUS : Nat := 0x70018
abbrev RASTER_UNDERRUN_CNT : Nat := 0x7001C
abbrev RASTER_HOLD_CYC : Nat := 0x70020
abbrev RASTER_ABANDON_CNT : Nat := 0x70024
abbrev RASTER_SHORT_CNT : Nat := 0x70028
abbrev RASTER_POS : Nat := 0x7002C
abbrev RASTER_ACTIVE_END : Nat := 0x70030
abbrev PVn_CTRL (n : Nat) : Nat := 0x70100 + 0x80 * n
abbrev PVn_VIEW (n : Nat) : Nat := 0x70104 + 0x80 * n
abbrev PVn_HTIM_A (n : Nat) : Nat := 0x70108 + 0x80 * n
abbrev PVn_HTIM_B (n : Nat) : Nat := 0x7010C + 0x80 * n
abbrev PVn_VTIM_A (n : Nat) : Nat := 0x70110 + 0x80 * n
abbrev PVn_VTIM_B (n : Nat) : Nat := 0x70114 + 0x80 * n
abbrev PVn_PIXCLK (n : Nat) : Nat := 0x70118 + 0x80 * n
abbrev PVn_LINK (n : Nat) : Nat := 0x7011C + 0x80 * n
abbrev PVn_UNDERRUN_CNT (n : Nat) : Nat := 0x70120 + 0x80 * n
abbrev PVn_AUX_CMD (n : Nat) : Nat := 0x70124 + 0x80 * n
abbrev PVn_AUX_DATAi (n i : Nat) : Nat := 0x70128 + 0x80 * n + 0x4 * i
abbrev KNL_CTRL : Nat := 0x40000
abbrev KNL_STATUS : Nat := 0x40004
abbrev KNL_GRAPH_BASE_LO : Nat := 0x40008
abbrev KNL_GRAPH_BASE_HI : Nat := 0x4000C
abbrev KNL_GRAPH_LEN : Nat := 0x40010
abbrev KNL_FIFO_AREA : Nat := 0x40014
abbrev KNL_GRAPH_ERR : Nat := 0x40018
abbrev KNL_GRAPH_GEN : Nat := 0x4001C
abbrev KNL_FRAME_EPOCH : Nat := 0x40020
abbrev KNL_FRAME_DONE_CNT : Nat := 0x40024
abbrev KNL_FRAME_DROP_CNT : Nat := 0x40028
abbrev KNL_LAST_DROP_EPOCH : Nat := 0x4002C
abbrev KNL_DONE_TIME : Nat := 0x40030
abbrev KNL_INFLIGHT : Nat := 0x40034
abbrev KNL_MISMATCH_CNT : Nat := 0x40038
abbrev KNL_CLIP_CNT : Nat := 0x4003C
abbrev KNL_READYp (p : Nat) : Nat := 0x40040 + 0x4 * p
abbrev KNL_WAITMAXp (p : Nat) : Nat := 0x40050 + 0x4 * p
abbrev KNL_WAITSUMp (p : Nat) : Nat := 0x40060 + 0x4 * p
abbrev KNL_DISPp (p : Nat) : Nat := 0x40070 + 0x4 * p
abbrev KNL_PARAM_IDX : Nat := 0x40090
abbrev KNL_PARAM_DATA : Nat := 0x40094
abbrev KNL_FIFOf_LEVEL (f : Nat) : Nat := 0x41000 + 0x10 * f
abbrev KNL_FIFOf_HWM (f : Nat) : Nat := 0x41004 + 0x10 * f
abbrev KNL_FIFOf_FULL_CYC (f : Nat) : Nat := 0x41008 + 0x10 * f
abbrev KNL_FIFOf_STALL_CYC (f : Nat) : Nat := 0x4100C + 0x10 * f
abbrev KNL_FLOWq_STAT (q : Nat) : Nat := 0x42000 + 0x10 * q
abbrev KNL_FLOWq_HOLD_CYC (q : Nat) : Nat := 0x42004 + 0x10 * q
abbrev KNL_FLOWq_MAXOUT (q : Nat) : Nat := 0x42008 + 0x10 * q
abbrev REn_CTRL (n : Nat) : Nat := 0x50000 + 0x1000 * n
abbrev REn_STATUS (n : Nat) : Nat := 0x50004 + 0x1000 * n
abbrev REn_WDOG_LIMIT (n : Nat) : Nat := 0x50008 + 0x1000 * n
abbrev REn_STATE (n : Nat) : Nat := 0x5000C + 0x1000 * n
abbrev REn_BUSY_CYC (n : Nat) : Nat := 0x50010 + 0x1000 * n
abbrev REn_SLEEP_CYC (n : Nat) : Nat := 0x50014 + 0x1000 * n
abbrev REn_STALL_CYC (n : Nat) : Nat := 0x50018 + 0x1000 * n
abbrev REn_GRAINS (n : Nat) : Nat := 0x5001C + 0x1000 * n
abbrev REn_AFF_HITS (n : Nat) : Nat := 0x50020 + 0x1000 * n
abbrev REn_LOAD (n : Nat) : Nat := 0x50024 + 0x1000 * n
abbrev REn_LS_CE_CNT (n : Nat) : Nat := 0x50028 + 0x1000 * n
abbrev REn_UCODE_VER (n : Nat) : Nat := 0x5002C + 0x1000 * n
abbrev CALIB_CTRL : Nat := 0x80000
abbrev CALIB_STATUS : Nat := 0x80004
abbrev CALIB_BANKA_LO : Nat := 0x80008
abbrev CALIB_BANKA_HI : Nat := 0x8000C
abbrev CALIB_BANKB_LO : Nat := 0x80010
abbrev CALIB_BANKB_HI : Nat := 0x80014
abbrev CALIB_BANK_SIZE : Nat := 0x80018
abbrev CALIB_LIVE : Nat := 0x8001C
abbrev CALIB_LIVE_GEN : Nat := 0x80020
abbrev CALIB_CMD : Nat := 0x80024
abbrev CALIB_COMMIT_EPOCH : Nat := 0x80028
abbrev CALIB_CMD_STAT : Nat := 0x8002C
abbrev CALIB_TC_AGE : Nat := 0x80030
abbrev CALIB_MISS_CNT : Nat := 0x80034
abbrev CALIB_PASS_CNT : Nat := 0x80038
abbrev CALIB_PROT_CNT : Nat := 0x8003C
abbrev CALIB_TEMP_STALE_CNT : Nat := 0x80040
abbrev CALIB_COMMIT_CNT : Nat := 0x80044
abbrev CALIB_ZSEL : Nat := 0x80048
abbrev CALIB_ZSUM_LO : Nat := 0x8004C
abbrev CALIB_ZSUM_HI : Nat := 0x80050
abbrev CALIB_TSEL : Nat := 0x80054
abbrev CALIB_TEMP : Nat := 0x80058
abbrev CALIB_TGAIN01 : Nat := 0x8005C
abbrev CALIB_TGAIN2 : Nat := 0x80060
abbrev CALIB_SC_CTRL : Nat := 0x80080
abbrev CALIB_SC_PEND : Nat := 0x80084
abbrev CALIB_SAFE_INz (z : Nat) : Nat := 0x80400 + 0x4 * z
abbrev CALIB_PGAINz (z : Nat) : Nat := 0x80800 + 0x4 * z
abbrev CALIB_SGAINz (z : Nat) : Nat := 0x80C00 + 0x4 * z
abbrev PLAN_CTRL : Nat := 0x90000
abbrev PLAN_STATUS : Nat := 0x90004
abbrev PLAN_SNIFF_EVERY : Nat := 0x90008
abbrev PLAN_DET_MIN : Nat := 0x9000C
abbrev PLAN_DIAG_MAXAGE : Nat := 0x90010
abbrev PLAN_LEDTAB_LO : Nat := 0x90014
abbrev PLAN_LEDTAB_HI : Nat := 0x90018
abbrev PLAN_MASK_LO : Nat := 0x9001C
abbrev PLAN_MASK_HI : Nat := 0x90020
abbrev PLAN_LED_COUNT : Nat := 0x90024
abbrev PLAN_DIAG_CMD : Nat := 0x90028
abbrev PLAN_DIAG_STAT : Nat := 0x9002C
abbrev PLAN_LAYOUT_ERR : Nat := 0x90030
abbrev PLAN_TSUB_SEL : Nat := 0x90034
abbrev PLAN_TSUB : Nat := 0x90038
abbrev PLAN_TSUB_LIMIT : Nat := 0x9003C
abbrev PLAN_PARTIAL_CNT : Nat := 0x90040
abbrev PLAN_NOTILE_CNT : Nat := 0x90044
abbrev PLAN_OVERSIZE_CNT : Nat := 0x90048
abbrev PLAN_CLAMP_CNT : Nat := 0x9004C
abbrev PLAN_FIT_CNT : Nat := 0x90050
abbrev PLAN_REPORT_CNT : Nat := 0x90054
abbrev PLAN_REPORT_DROP_CNT : Nat := 0x90058
abbrev PLAN_AGED_CNT : Nat := 0x9005C
abbrev PLAN_LED_FAULT : Nat := 0x90060
abbrev PLAN_LED_UNMEAS : Nat := 0x90064
abbrev PLAN_LAST_FAULT_IDX : Nat := 0x90068
abbrev VCN_CTRL : Nat := 0xA0000
abbrev VCN_STATUS : Nat := 0xA0004
abbrev VCN_ETHERTYPE : Nat := 0xA0008
abbrev VCN_VLAN : Nat := 0xA000C
abbrev VCN_DEV_ID : Nat := 0xA0010
abbrev VCN_PORTS : Nat := 0xA0014
abbrev VCN_FRAG_MAX : Nat := 0xA0018
abbrev VCN_PLAN_GUARD : Nat := 0xA001C
abbrev VCN_RESEND_MAX : Nat := 0xA0020
abbrev VCN_ROUTE_LO : Nat := 0xA0024
abbrev VCN_ROUTE_HI : Nat := 0xA0028
abbrev VCN_STAGE_LO : Nat := 0xA002C
abbrev VCN_STAGE_HI : Nat := 0xA0030
abbrev VCN_STAGE_HALF : Nat := 0xA0034
abbrev VCN_SRC_IP : Nat := 0xA0038
abbrev VCN_UDP : Nat := 0xA003C
abbrev VCN_GROUP_IP : Nat := 0xA0040
abbrev VCN_TTL : Nat := 0xA0044
abbrev VCN_AUTH_SLOT : Nat := 0xA0048
abbrev VCN_KEY_EPOCH0 : Nat := 0xA004C
abbrev VCN_LOG_LO : Nat := 0xA0050
abbrev VCN_LOG_HI : Nat := 0xA0054
abbrev VCN_LOG_HEAD : Nat := 0xA0058
abbrev VCN_LOG_TAIL : Nat := 0xA005C
abbrev VCN_HELLO_PERIOD : Nat := 0xA0060
abbrev VCN_CONFLICT_HOLD : Nat := 0xA0064
abbrev VCN_KEY_STATE : Nat := 0xA0068
abbrev VCN_TX_FRAG_CNT : Nat := 0xA0080
abbrev VCN_TX_RESEND_CNT : Nat := 0xA0084
abbrev VCN_RESEND_DENIED_CNT : Nat := 0xA0088
abbrev VCN_PLAN_UNSENT_CNT : Nat := 0xA008C
abbrev VCN_VOID_CNT : Nat := 0xA0090
abbrev VCN_SINK_BAD_CNT : Nat := 0xA0094
abbrev VCN_SINK_DUP_CNT : Nat := 0xA0098
abbrev VCN_ROUTE_ERR_CNT : Nat := 0xA009C
abbrev VCN_RX_ECHO_CNT : Nat := 0xA00A0
abbrev VCN_RX_MALFORMED_CNT : Nat := 0xA00A4
abbrev VCN_RX_CRC_CNT : Nat := 0xA00A8
abbrev VCN_RX_AUTH_CNT : Nat := 0xA00AC
abbrev VCN_RX_UNKNOWN_CNT : Nat := 0xA00B0
abbrev VCN_ID_CONFLICT_CNT : Nat := 0xA00B4
abbrev VCN_PORT_MOVED_CNT : Nat := 0xA00B8
abbrev HEEL_CTRL : Nat := 0xB0000
abbrev HEEL_STATUS : Nat := 0xB0004
abbrev HEEL_LATCH_OFFSET : Nat := 0xB0008
abbrev HEEL_LEAD : Nat := 0xB000C
abbrev HEEL_GAP : Nat := 0xB0010
abbrev HEEL_EPOCH : Nat := 0xB0014
abbrev HEEL_T_NS : Nat := 0xB0018
abbrev HEEL_T_SEC_LO : Nat := 0xB001C
abbrev HEEL_T_SEC_HI : Nat := 0xB0020
abbrev HEEL_FLAGS : Nat := 0xB0024
abbrev HEEL_SENT_CNT : Nat := 0xB0028
abbrev HEEL_COPY_CNT : Nat := 0xB002C
abbrev HEEL_MISSED_CNT : Nat := 0xB0030
abbrev HEEL_SKIP_CNT : Nat := 0xB0034
abbrev HEEL_VOID_CNT : Nat := 0xB0038
abbrev VER_CTRL : Nat := 0x71000
abbrev VER_STATUS : Nat := 0x71004
abbrev VER_WIN_LO : Nat := 0x71008
abbrev VER_WIN_HI : Nat := 0x7100C
abbrev VER_WIN_COUNT : Nat := 0x71010
abbrev VER_WAIT : Nat := 0x71014
abbrev VER_DONE_EPOCH : Nat := 0x71018
abbrev VER_EPOCH_RESULT : Nat := 0x7101C
abbrev VER_MATCH_CNT : Nat := 0x71020
abbrev VER_MISMATCH_CNT : Nat := 0x71024
abbrev VER_MISSING_CNT : Nat := 0x71028
abbrev VER_KEPT_CNT : Nat := 0x7102C
abbrev VER_STALE_CNT : Nat := 0x71030
abbrev VER_UNCOMPUTED_CNT : Nat := 0x71034
abbrev VER_FOREIGN_CNT : Nat := 0x71038
abbrev VER_LAST_WIN : Nat := 0x7103C
abbrev VER_LAST_EPOCH : Nat := 0x71040
abbrev VER_LAST_EXP : Nat := 0x71044
abbrev VER_LAST_GOT : Nat := 0x71048
abbrev VER_MISMATCHw (w : Nat) : Nat := 0x71800 + 0x4 * w
abbrev VER_MISSINGw (w : Nat) : Nat := 0x71A00 + 0x4 * w
abbrev FIX_CTRL : Nat := 0xC0000
abbrev FIX_STATUS : Nat := 0xC0004
abbrev FIX_EPT_LO : Nat := 0xC0008
abbrev FIX_EPT_HI : Nat := 0xC000C
abbrev FIX_OUT_LO : Nat := 0xC0010
abbrev FIX_OUT_HI : Nat := 0xC0014
abbrev FIX_OUT_COUNT : Nat := 0xC0018
abbrev FIX_IN_LO : Nat := 0xC001C
abbrev FIX_IN_HI : Nat := 0xC0020
abbrev FIX_IN_COUNT : Nat := 0xC0024
abbrev FIX_SLOT_LO : Nat := 0xC0028
abbrev FIX_SLOT_HI : Nat := 0xC002C
abbrev FIX_RDM_LO : Nat := 0xC0030
abbrev FIX_RDM_HI : Nat := 0xC0034
abbrev FIX_SYNC : Nat := 0xC0038
abbrev FIX_SYNC_ADJ : Nat := 0xC003C
abbrev FIX_SACN_GUARD : Nat := 0xC0040
abbrev FIX_IN_PORTS_LO : Nat := 0xC0044
abbrev FIX_IN_PORTS_HI : Nat := 0xC0048
abbrev FIX_SRC_IP : Nat := 0xC004C
abbrev FIX_EPT_SILENT : Nat := 0xC0050
abbrev FIX_OVR_ADDR : Nat := 0xC0054
abbrev FIX_OVR_DATA : Nat := 0xC0058
abbrev FIX_RDM_GO_LO : Nat := 0xC005C
abbrev FIX_RDM_GO_HI : Nat := 0xC0060
abbrev FIX_RDM_DONE_LO : Nat := 0xC0064
abbrev FIX_RDM_DONE_HI : Nat := 0xC0068
abbrev FIX_SACN_TX_CNT : Nat := 0xC0080
abbrev FIX_SACN_LATE_CNT : Nat := 0xC0084
abbrev FIX_SYNC_TX_CNT : Nat := 0xC0088
abbrev FIX_SINK_BAD_CNT : Nat := 0xC008C
abbrev FIX_GRAPH_MISS_CNT : Nat := 0xC0090
abbrev FIX_IN_RX_CNT : Nat := 0xC0094
abbrev FIX_IN_BAD_CNT : Nat := 0xC0098
abbrev FIX_IN_SEQ_CNT : Nat := 0xC009C
abbrev FIX_IN_FULL_CNT : Nat := 0xC00A0
abbrev FIX_OVR_DROP_CNT : Nat := 0xC00A4
abbrev FIX_DMX_OWNER_CNT : Nat := 0xC00A8
abbrev FIX_EPT_SILENT_CNT : Nat := 0xC00AC
abbrev FIX_CIDw (w : Nat) : Nat := 0xC0100 + 0x4 * w
abbrev FIX_NAMEw (w : Nat) : Nat := 0xC0110 + 0x4 * w
abbrev FIX_DMXp_CFG (p : Nat) : Nat := 0xC0400 + 0x10 * p
abbrev FIX_DMXp_TIM (p : Nat) : Nat := 0xC0404 + 0x10 * p
abbrev FIX_DMXp_PKT_CNT (p : Nat) : Nat := 0xC0408 + 0x10 * p
abbrev FIX_DMXp_ERR_CNT (p : Nat) : Nat := 0xC040C + 0x10 * p
abbrev UARTn_CTRL (n : Nat) : Nat := 0x180000 + 0x400 * n
abbrev UARTn_FMT (n : Nat) : Nat := 0x180004 + 0x400 * n
abbrev UARTn_BAUD (n : Nat) : Nat := 0x180008 + 0x400 * n
abbrev UARTn_DE (n : Nat) : Nat := 0x18000C + 0x400 * n
abbrev UARTn_FIFO_CTRL (n : Nat) : Nat := 0x180010 + 0x400 * n
abbrev UARTn_DATA (n : Nat) : Nat := 0x180014 + 0x400 * n
abbrev UARTn_LSR (n : Nat) : Nat := 0x180018 + 0x400 * n
abbrev UARTn_STATUS (n : Nat) : Nat := 0x18001C + 0x400 * n
abbrev UARTn_LEVEL (n : Nat) : Nat := 0x180020 + 0x400 * n
abbrev UARTn_BRK_MAX (n : Nat) : Nat := 0x180024 + 0x400 * n
abbrev UARTn_BRK_LEN (n : Nat) : Nat := 0x180028 + 0x400 * n
abbrev UARTn_RXTRIM (n : Nat) : Nat := 0x18002C + 0x400 * n
abbrev UARTn_TXBRK (n : Nat) : Nat := 0x180030 + 0x400 * n
abbrev UARTn_RX_CNT (n : Nat) : Nat := 0x180040 + 0x400 * n
abbrev UARTn_FE_CNT (n : Nat) : Nat := 0x180044 + 0x400 * n
abbrev UARTn_PE_CNT (n : Nat) : Nat := 0x180048 + 0x400 * n
abbrev UARTn_OVR_CNT (n : Nat) : Nat := 0x18004C + 0x400 * n
abbrev UARTn_NOISE_CNT (n : Nat) : Nat := 0x180050 + 0x400 * n
abbrev UARTn_BRK_CNT (n : Nat) : Nat := 0x180054 + 0x400 * n
abbrev UARTn_FSTART_CNT (n : Nat) : Nat := 0x180058 + 0x400 * n
abbrev UARTn_TX_CNT (n : Nat) : Nat := 0x18005C + 0x400 * n
abbrev HUB_CTRL : Nat := 0x1A0000
abbrev HUB_STATUS : Nat := 0x1A0004
abbrev HUB_BUSY : Nat := 0x1A0008
abbrev HUB_RULE_LO : Nat := 0x1A000C
abbrev HUB_RULE_HI : Nat := 0x1A0010
abbrev HUB_RULE_COUNT : Nat := 0x1A0014
abbrev HUB_COMP_LO : Nat := 0x1A0018
abbrev HUB_COMP_HI : Nat := 0x1A001C
abbrev HUB_COMP_COUNT : Nat := 0x1A0020
abbrev HUB_STORE_LO : Nat := 0x1A0024
abbrev HUB_STORE_HI : Nat := 0x1A0028
abbrev HUB_LOG_LO : Nat := 0x1A002C
abbrev HUB_LOG_HI : Nat := 0x1A0030
abbrev HUB_LOG_HEAD : Nat := 0x1A0034
abbrev HUB_LOG_TAIL : Nat := 0x1A0038
abbrev HUB_450_SRC_IP : Nat := 0x1A003C
abbrev HUB_RULE_ERR : Nat := 0x1A0040
abbrev HUB_RX_CNT : Nat := 0x1A0080
abbrev HUB_ERRCHAR_CNT : Nat := 0x1A0084
abbrev HUB_MALFORMED_CNT : Nat := 0x1A0088
abbrev HUB_CKSUM_CNT : Nat := 0x1A008C
abbrev HUB_OVERLEN_CNT : Nat := 0x1A0090
abbrev HUB_LONG_CNT : Nat := 0x1A0094
abbrev HUB_NOMATCH_CNT : Nat := 0x1A0098
abbrev HUB_SEL_REJ_CNT : Nat := 0x1A009C
abbrev HUB_RATE_CNT : Nat := 0x1A00A0
abbrev HUB_OWNER_CNT : Nat := 0x1A00A4
abbrev HUB_TXQ_DROP_CNT : Nat := 0x1A00A8
abbrev HUB_450_TX_CNT : Nat := 0x1A00AC
abbrev HUB_COMP_TX_CNT : Nat := 0x1A00B0
abbrev HUB_PORTn_CFG (n : Nat) : Nat := 0x1A0100 + 0x4 * n
abbrev HUB_GRPg_CTRL (g : Nat) : Nat := 0x1A0200 + 0x10 * g
abbrev HUB_GRPg_IP (g : Nat) : Nat := 0x1A0204 + 0x10 * g
abbrev HUB_GRPg_SFI_HI (g : Nat) : Nat := 0x1A0208 + 0x10 * g
abbrev HUB_GRPg_SFI_LO (g : Nat) : Nat := 0x1A020C + 0x10 * g
abbrev HUB_SELs_TMO (s : Nat) : Nat := 0x1A0400 + 0x8 * s
abbrev HUB_SELs_STATE (s : Nat) : Nat := 0x1A0404 + 0x8 * s
abbrev SIGMAP_CTRL : Nat := 0x1B0000
abbrev SIGMAP_STATUS : Nat := 0x1B0004
abbrev SIGMAP_BASE_LO : Nat := 0x1B0008
abbrev SIGMAP_BASE_HI : Nat := 0x1B000C
abbrev SIGMAP_COUNT : Nat := 0x1B0010
abbrev SIGMAP_LEAD : Nat := 0x1B0014
abbrev SIGMAP_ERR : Nat := 0x1B0018
abbrev SIGMAP_PASS_TIME : Nat := 0x1B001C
abbrev SIGMAP_PASS_CNT : Nat := 0x1B0020
abbrev SIGMAP_LATE_CNT : Nat := 0x1B0024
abbrev SIGMAP_STALE_CNT : Nat := 0x1B0028
abbrev SIGMAP_CLAMP_CNT : Nat := 0x1B002C
abbrev SIGMAP_SEL : Nat := 0x1B0030
abbrev SIGMAP_LAST_X_LO : Nat := 0x1B0034
abbrev SIGMAP_LAST_X_HI : Nat := 0x1B0038
abbrev SIGMAP_LAST_V : Nat := 0x1B003C
abbrev SIGMAP_LAST_STATE : Nat := 0x1B0040
abbrev MACn_CTRL (n : Nat) : Nat := 0x100000 + 0x2000 * n
abbrev MACn_STATUS (n : Nat) : Nat := 0x100004 + 0x2000 * n
abbrev MACn_LINK (n : Nat) : Nat := 0x100008 + 0x2000 * n
abbrev MACn_ADDR_LO (n : Nat) : Nat := 0x10000C + 0x2000 * n
abbrev MACn_ADDR_HI (n : Nat) : Nat := 0x100010 + 0x2000 * n
abbrev MACn_MAX_FRAME (n : Nat) : Nat := 0x100014 + 0x2000 * n
abbrev MACn_MCAST_HASHh (n h : Nat) : Nat := 0x100018 + 0x2000 * n + 0x4 * h
abbrev MACn_TX_THRESH (n : Nat) : Nat := 0x100040 + 0x2000 * n
abbrev MACn_FC_CTRL (n : Nat) : Nat := 0x100044 + 0x2000 * n
abbrev MACn_FC_THRESH (n : Nat) : Nat := 0x100048 + 0x2000 * n
abbrev MACn_FC_STATE (n : Nat) : Nat := 0x10004C + 0x2000 * n
abbrev MACn_LEASH_LIMIT (n : Nat) : Nat := 0x100050 + 0x2000 * n
abbrev MACn_LEASH_HOLD (n : Nat) : Nat := 0x100054 + 0x2000 * n
abbrev MACn_LEASH_CNT (n : Nat) : Nat := 0x100058 + 0x2000 * n
abbrev MACn_LEASH_IGN_CNT (n : Nat) : Nat := 0x10005C + 0x2000 * n
abbrev MACn_TX_LINK_DROP (n : Nat) : Nat := 0x100060 + 0x2000 * n
abbrev MACn_PREEMPT (n : Nat) : Nat := 0x100080 + 0x2000 * n
abbrev MACn_PREEMPT_STAT (n : Nat) : Nat := 0x100084 + 0x2000 * n
abbrev MACn_LP (n : Nat) : Nat := 0x1000C0 + 0x2000 * n
abbrev MACn_DS_CFG (n : Nat) : Nat := 0x1000C4 + 0x2000 * n
abbrev MACn_TXEQ (n : Nat) : Nat := 0x100100 + 0x2000 * n
abbrev MACn_RXEQ0 (n : Nat) : Nat := 0x100104 + 0x2000 * n
abbrev MACn_RXEQ1 (n : Nat) : Nat := 0x100108 + 0x2000 * n
abbrev MACn_STATk (n k : Nat) : Nat := 0x100400 + 0x2000 * n + 0x4 * k
abbrev MACn_STAT_HALF_LO (n : Nat) : Nat := 0x100500 + 0x2000 * n
abbrev MACn_STAT_HALF_HI (n : Nat) : Nat := 0x100504 + 0x2000 * n
abbrev MACn_STAT_WRAP_LO (n : Nat) : Nat := 0x100508 + 0x2000 * n
abbrev MACn_STAT_WRAP_HI (n : Nat) : Nat := 0x10050C + 0x2000 * n
abbrev MACn_MS_CTRL (n : Nat) : Nat := 0x100800 + 0x2000 * n
abbrev MACn_MS_REPLAY_WIN (n : Nat) : Nat := 0x100804 + 0x2000 * n
abbrev MACn_MS_SCI_HI (n : Nat) : Nat := 0x100808 + 0x2000 * n
abbrev MACn_MS_SCI_LO (n : Nat) : Nat := 0x10080C + 0x2000 * n
abbrev MACn_MS_PN_THRESH (n : Nat) : Nat := 0x100810 + 0x2000 * n
abbrev MACn_TXSAa_CTRL (n a : Nat) : Nat := 0x100820 + 0x2000 * n + 0x10 * a
abbrev MACn_TXSAa_NEXT_PN (n a : Nat) : Nat := 0x100824 + 0x2000 * n + 0x10 * a
abbrev MACn_RXSCc_SCI_HI (n c : Nat) : Nat := 0x100900 + 0x2000 * n + 0x40 * c
abbrev MACn_RXSCc_SCI_LO (n c : Nat) : Nat := 0x100904 + 0x2000 * n + 0x40 * c
abbrev MACn_RXSCc_CTRL (n c : Nat) : Nat := 0x100908 + 0x2000 * n + 0x40 * c
abbrev MACn_RXSCc_SAa_CTRL (n c a : Nat) : Nat := 0x100910 + 0x2000 * n + 0x40 * c + 0x8 * a
abbrev MACn_RXSCc_SAa_NEXT_PN (n c a : Nat) : Nat := 0x100914 + 0x2000 * n + 0x40 * c + 0x8 * a
abbrev HOST_CTRL : Nat := 0x30000
abbrev HOST_STATUS : Nat := 0x30004
abbrev HOST_LINK : Nat := 0x30008
abbrev HOST_BAR4_WIN_LO : Nat := 0x3000C
abbrev HOST_BAR4_WIN_HI : Nat := 0x30010
abbrev HOST_FWREGION_CNT : Nat := 0x30014
abbrev HOST_RX_NOBUF_CNT : Nat := 0x30018
abbrev HOST_PORTp_RXRING (p : Nat) : Nat := 0x30040 + 0x4 * p
abbrev HOST_RINGr_CMD_LO (r : Nat) : Nat := 0x30400 + 0x20 * r
abbrev HOST_RINGr_CMD_HI (r : Nat) : Nat := 0x30404 + 0x20 * r
abbrev HOST_RINGr_CPL_LO (r : Nat) : Nat := 0x30408 + 0x20 * r
abbrev HOST_RINGr_CPL_HI (r : Nat) : Nat := 0x3040C + 0x20 * r
abbrev HOST_RINGr_CTRL (r : Nat) : Nat := 0x30410 + 0x20 * r
abbrev HOST_RINGr_STAT (r : Nat) : Nat := 0x30414 + 0x20 * r
abbrev HOST_RINGr_CPL_TAIL (r : Nat) : Nat := 0x30418 + 0x20 * r
abbrev HOST_RINGr_DONE_CNT (r : Nat) : Nat := 0x3041C + 0x20 * r
abbrev FARBR_CTRL : Nat := 0x1C0000
abbrev FARBR_STATUS : Nat := 0x1C0004
abbrev FARBR_TMO : Nat := 0x1C0008
abbrev FARBR_RETRY : Nat := 0x1C000C
abbrev FARBR_LOG_LO : Nat := 0x1C0010
abbrev FARBR_LOG_HI : Nat := 0x1C0014
abbrev FARBR_LOG_HEAD : Nat := 0x1C0018
abbrev FARBR_LOG_TAIL : Nat := 0x1C001C
abbrev FARBR_POLL_CTRL : Nat := 0x1C0020
abbrev FARBR_POLL_ADDR : Nat := 0x1C0024
abbrev FARBR_POLL_MASK : Nat := 0x1C0028
abbrev FARBR_POLL_LO : Nat := 0x1C002C
abbrev FARBR_POLL_HI : Nat := 0x1C0030
abbrev FARBR_POLL_LAST : Nat := 0x1C0034
abbrev FARBR_INFLIGHT : Nat := 0x1C0038
abbrev FARBR_WR_CNT : Nat := 0x1C0040
abbrev FARBR_RD_CNT : Nat := 0x1C0044
abbrev FARBR_LATE_FAIL_CNT : Nat := 0x1C0048
abbrev FARBR_PF_DISCARD_CNT : Nat := 0x1C004C
abbrev FARBR_ABORT_DISCARD_CNT : Nat := 0x1C0050
abbrev FARBR_TMO_CNT : Nat := 0x1C0054
abbrev FARBR_POLL_CNT : Nat := 0x1C0058
abbrev FARBR_POLL_TMO_CNT : Nat := 0x1C005C
abbrev FARBR_STRAY_CNT : Nat := 0x1C0060
abbrev FARBR_WINw_CTRL (w : Nat) : Nat := 0x1C1000 + 0x20 * w
abbrev FARBR_WINw_TARGET (w : Nat) : Nat := 0x1C1004 + 0x20 * w
abbrev FARBR_WINw_RBASE (w : Nat) : Nat := 0x1C1008 + 0x20 * w
abbrev FARBR_WINw_SIZE (w : Nat) : Nat := 0x1C100C + 0x20 * w
abbrev FARBR_WINw_STAT (w : Nat) : Nat := 0x1C1010 + 0x20 * w
abbrev INTC_SRCs (s : Nat) : Nat := 0x10000 + 0x4 * s
abbrev INTC_PENDw (w : Nat) : Nat := 0x12000 + 0x4 * w
abbrev INTC_MASKw (w : Nat) : Nat := 0x12100 + 0x4 * w
abbrev INTC_RAWw (w : Nat) : Nat := 0x12200 + 0x4 * w
abbrev INTC_FILTi (i : Nat) : Nat := 0x12300 + 0x4 * i
abbrev INTC_CTRL : Nat := 0x13000
abbrev INTC_STATUS : Nat := 0x13004
abbrev INTC_MSIX_MOD : Nat := 0x13008
abbrev INTC_RR : Nat := 0x1300C
abbrev INTC_REROUTE_CNT : Nat := 0x13010
abbrev INTC_Cc_CTRL (c : Nat) : Nat := 0x13100 + 0x40 * c
abbrev INTC_Cc_TPR (c : Nat) : Nat := 0x13104 + 0x40 * c
abbrev INTC_Cc_STATE (c : Nat) : Nat := 0x13108 + 0x40 * c
abbrev INTC_Cc_INSVC (c : Nat) : Nat := 0x1310C + 0x40 * c
abbrev INTC_Cc_ACTIVE (c : Nat) : Nat := 0x13110 + 0x40 * c
abbrev INTC_Cc_EOI (c : Nat) : Nat := 0x13114 + 0x40 * c
abbrev INTC_Cc_MOD (c : Nat) : Nat := 0x13118 + 0x40 * c
abbrev INTC_Cc_DELIV_CNT (c : Nat) : Nat := 0x1311C + 0x40 * c
abbrev INTC_Cc_HOLD_CNT (c : Nat) : Nat := 0x13120 + 0x40 * c
abbrev INTC_Cc_BYPASS_CNT (c : Nat) : Nat := 0x13124 + 0x40 * c
abbrev BRACE_CTRL : Nat := 0x1D0000
abbrev BRACE_STATUS : Nat := 0x1D0004
abbrev BRACE_STATE : Nat := 0x1D0008
abbrev BRACE_CMD : Nat := 0x1D000C
abbrev BRACE_CMD_EPOCH : Nat := 0x1D0010
abbrev BRACE_CMD_STAT : Nat := 0x1D0014
abbrev BRACE_MISS : Nat := 0x1D0018
abbrev BRACE_SEEK_TMO : Nat := 0x1D001C
abbrev BRACE_SYNC_N : Nat := 0x1D0020
abbrev BRACE_ST_MAXAGE : Nat := 0x1D0024
abbrev BRACE_ETHERTYPE : Nat := 0x1D0028
abbrev BRACE_SKEW_MAX : Nat := 0x1D002C
abbrev BRACE_SB_DLY : Nat := 0x1D0030
abbrev BRACE_SKEW : Nat := 0x1D0034
abbrev BRACE_HEALTH : Nat := 0x1D0038
abbrev BRACE_PHEALTH : Nat := 0x1D003C
abbrev BRACE_PEPOCH : Nat := 0x1D0040
abbrev BRACE_ACTIVE_EPOCHS : Nat := 0x1D0044
abbrev BRACE_SB : Nat := 0x1D0048
abbrev BRACE_LAST_MISMATCH : Nat := 0x1D004C
abbrev BRACE_MATCH_CNT : Nat := 0x1D0060
abbrev BRACE_MISMATCH_CNT : Nat := 0x1D0064
abbrev BRACE_DIVERGE_CNT : Nat := 0x1D0068
abbrev BRACE_UNRESOLVED_CNT : Nat := 0x1D006C
abbrev BRACE_STATE_MISS_CNT : Nat := 0x1D0070
abbrev BRACE_DUP_CNT : Nat := 0x1D0074
abbrev BRACE_RX_BAD_CNT : Nat := 0x1D0078
abbrev BRACE_FWD_LATE_CNT : Nat := 0x1D007C
abbrev BRACE_TAKEOVER_CNT : Nat := 0x1D0080
abbrev BRACE_RELEASE_CNT : Nat := 0x1D0084
abbrev SHEAF_CTRL : Nat := 0x1E0000
abbrev SHEAF_STATUS : Nat := 0x1E0004
abbrev SHEAF_GEN : Nat := 0x1E0008
abbrev SHEAF_EXPTAB_LO : Nat := 0x1E000C
abbrev SHEAF_EXPTAB_HI : Nat := 0x1E0010
abbrev SHEAF_MAX_MISSING : Nat := 0x1E0014
abbrev SHEAF_MIN_LEAD : Nat := 0x1E0018
abbrev SHEAF_CARRY : Nat := 0x1E001C
abbrev SHEAF_SWEEP : Nat := 0x1E0020
abbrev SHEAF_PARTNER_HOLD : Nat := 0x1E0024
abbrev SHEAF_ARM_EPOCH : Nat := 0x1E0028
abbrev SHEAF_ARM_GEN : Nat := 0x1E002C
abbrev SHEAF_ARM_GROUPS : Nat := 0x1E0030
abbrev SHEAF_ARM_CMD : Nat := 0x1E0034
abbrev SHEAF_STAT : Nat := 0x1E0038
abbrev SHEAF_TARGETS : Nat := 0x1E003C
abbrev SHEAF_ACKED : Nat := 0x1E0040
abbrev SHEAF_DIG_EPOCH : Nat := 0x1E0044
abbrev SHEAF_CLASS_BUSY : Nat := 0x1E0048
abbrev SHEAF_CSEL : Nat := 0x1E004C
abbrev SHEAF_DIGESTw (w : Nat) : Nat := 0x1E0050 + 0x4 * w
abbrev SHEAF_CDIGw (w : Nat) : Nat := 0x1E0070 + 0x4 * w
abbrev SHEAF_N_AGREE : Nat := 0x1E0090
abbrev SHEAF_N_DIFFERS : Nat := 0x1E0094
abbrev SHEAF_N_BEHIND : Nat := 0x1E0098
abbrev SHEAF_N_AHEAD : Nat := 0x1E009C
abbrev SHEAF_N_UNKNOWN : Nat := 0x1E00A0
abbrev SHEAF_LAST_TILE : Nat := 0x1E00A4
abbrev SHEAF_APPLY_CNT : Nat := 0x1E00C0
abbrev SHEAF_WITHHOLD_CNT : Nat := 0x1E00C4
abbrev SHEAF_CARRY_CNT : Nat := 0x1E00C8
abbrev SHEAF_PARTNER_DIFF_CNT : Nat := 0x1E00CC
abbrev SEC_CTRL : Nat := 0x200000
abbrev SEC_STATUS : Nat := 0x200004
abbrev SEC_STATE : Nat := 0x200008
abbrev SEC_FUSES : Nat := 0x20000C
abbrev SEC_SLOT_SEL : Nat := 0x200010
abbrev SEC_SLOT_ATTR : Nat := 0x200014
abbrev SEC_VALID_LO : Nat := 0x200018
abbrev SEC_VALID_HI : Nat := 0x20001C
abbrev SEC_DENY_CNT : Nat := 0x200020
abbrev SEC_OP_CNT : Nat := 0x200024
abbrev SEC_PUF_BER : Nat := 0x200028
abbrev SEC_TRNG_STAT : Nat := 0x20002C
abbrev SEC_TAMPER_CTRL : Nat := 0x200800
abbrev SEC_TAMPER_POL : Nat := 0x200804
abbrev SEC_TAMPER_LATCH : Nat := 0x200808
abbrev SEC_TAMPER_RAW : Nat := 0x20080C
abbrev SEC_TAMPER_CNT : Nat := 0x200810
abbrev SEC_TAMPER_TS_NS : Nat := 0x200814
abbrev SEC_TAMPER_TS_SEC_LO : Nat := 0x200818
abbrev SEC_TAMPER_TS_SEC_HI : Nat := 0x20081C
abbrev SEC_MAINT : Nat := 0x200820
abbrev SEC_TBUSY : Nat := 0x200824
abbrev SEC_TEMP_LIMITS : Nat := 0x200828
abbrev CHECKn_CTRL (n : Nat) : Nat := 0x1F0000 + 0x100 * n
abbrev CHECKn_STATUS (n : Nat) : Nat := 0x1F0004 + 0x100 * n
abbrev CHECKn_CMD (n : Nat) : Nat := 0x1F0008 + 0x100 * n
abbrev CHECKn_FEED8 (n : Nat) : Nat := 0x1F000C + 0x100 * n
abbrev CHECKn_FEED16 (n : Nat) : Nat := 0x1F0010 + 0x100 * n
abbrev CHECKn_FEED32 (n : Nat) : Nat := 0x1F0014 + 0x100 * n
abbrev CHECKn_VALUE (n : Nat) : Nat := 0x1F0018 + 0x100 * n
abbrev CHECKn_RESULT (n : Nat) : Nat := 0x1F001C + 0x100 * n
abbrev CHECKn_POLY (n : Nat) : Nat := 0x1F0020 + 0x100 * n
abbrev CHECKn_INIT (n : Nat) : Nat := 0x1F0024 + 0x100 * n
abbrev CHECKn_XOROUT (n : Nat) : Nat := 0x1F0028 + 0x100 * n
abbrev CHECKn_GAP (n : Nat) : Nat := 0x1F002C + 0x100 * n
abbrev CHECKn_BYTES (n : Nat) : Nat := 0x1F0030 + 0x100 * n
abbrev CHECKn_MATCH_CNT (n : Nat) : Nat := 0x1F0034 + 0x100 * n
abbrev CHECKn_FAIL_CNT (n : Nat) : Nat := 0x1F0038 + 0x100 * n
abbrev UPD_CTRL : Nat := 0x210000
abbrev UPD_STATUS : Nat := 0x210004
abbrev UPD_STATE : Nat := 0x210008
abbrev UPD_PORT : Nat := 0x21000C
abbrev UPD_IP : Nat := 0x210010
abbrev UPD_STAGE_LO : Nat := 0x210014
abbrev UPD_STAGE_HI : Nat := 0x210018
abbrev UPD_HEALTH_WINDOW : Nat := 0x21001C
abbrev UPD_SESSION : Nat := 0x210020
abbrev UPD_BLOCKS : Nat := 0x210024
abbrev UPD_BLK_CRC_CNT : Nat := 0x210028
abbrev UPD_BLK_DUP_CNT : Nat := 0x21002C
abbrev UPD_LAST_STATUS : Nat := 0x210030
abbrev UPD_RUN_COMPAT : Nat := 0x210034
abbrev UPD_NEW_COMPAT : Nat := 0x210038
abbrev UPD_SECVER : Nat := 0x21003C
abbrev UPD_HEALTH_LEFT : Nat := 0x210040
abbrev PWR_CMD : Nat := 0x2000
abbrev PWR_STATE : Nat := 0x2004
abbrev PWR_STATUS : Nat := 0x2008
abbrev PWR_RST_CAUSE : Nat := 0x200C
abbrev PWR_BOOT_TIME : Nat := 0x2010
abbrev PWR_BOOT_STAGE : Nat := 0x2014
abbrev SBY_CTRL : Nat := 0x2800
abbrev SBY_WAKE_CAUSE : Nat := 0x2804
abbrev SBY_RTC : Nat := 0x2808
abbrev SBY_ALARM : Nat := 0x280C
abbrev SBY_PF_PORTS_LO : Nat := 0x2810
abbrev SBY_PF_IDX : Nat := 0x2814
abbrev SBY_PF_DATA : Nat := 0x2818
abbrev SBY_BUSY : Nat := 0x281C
abbrev SBY_PF_PORTS_HI : Nat := 0x2820
abbrev WIN_CTRL : Nat := 0x220000
abbrev WIN_STATUS : Nat := 0x220004
abbrev WIN_DRAM_CAP : Nat := 0x220008
abbrev WIN_SCRUB_H : Nat := 0x22000C
abbrev WIN_SRAM_MS : Nat := 0x220010
abbrev WIN_FLASH_D : Nat := 0x220014
abbrev WIN_FLASH_THR : Nat := 0x220018
abbrev WIN_SC_S : Nat := 0x22001C
abbrev WIN_TEMP_LIM : Nat := 0x220020
abbrev WIN_VBAT_MIN : Nat := 0x220024
abbrev WIN_SCRUB_POS : Nat := 0x220028
abbrev WIN_FLASH_LIFE : Nat := 0x22002C
abbrev WIN_FLASH_ERR : Nat := 0x220030
abbrev WIN_SRAM_CE_CNT : Nat := 0x220034
abbrev WIN_FLASH_RW_CNT : Nat := 0x220038
abbrev WIN_TEMPi (i : Nat) : Nat := 0x220100 + 0x8 * i
abbrev WIN_TEMPi_MM (i : Nat) : Nat := 0x220104 + 0x8 * i
abbrev WIN_VOLTi (i : Nat) : Nat := 0x220180 + 0x8 * i
abbrev WIN_VOLTi_MM (i : Nat) : Nat := 0x220184 + 0x8 * i
abbrev DRAM_CTRL : Nat := 0x230000
abbrev DRAM_STATUS : Nat := 0x230004
abbrev DRAM_CE_CNT : Nat := 0x230008
abbrev DRAM_UE_CNT : Nat := 0x23000C
abbrev DRAM_ERR_ADDR_LO : Nat := 0x230010
abbrev DRAM_ERR_ADDR_HI : Nat := 0x230014
abbrev DRAM_TRAIN_STAT : Nat := 0x230018
abbrev DRAM_CHc_TRAIN0 (c : Nat) : Nat := 0x230100 + 0x8 * c
abbrev DRAM_CHc_TRAIN1 (c : Nat) : Nat := 0x230104 + 0x8 * c
abbrev PINS_MUX : Nat := 0x240000
abbrev PINS_STATUS : Nat := 0x240004
abbrev PINS_DRIVE : Nat := 0x240008
abbrev PINS_PULL_LO : Nat := 0x24000C
abbrev PINS_PULL_HI : Nat := 0x240010
abbrev GPIO_DIR_LO : Nat := 0x240020
abbrev GPIO_DIR_HI : Nat := 0x240024
abbrev GPIO_OUT_LO : Nat := 0x240028
abbrev GPIO_OUT_HI : Nat := 0x24002C
abbrev GPIO_SET_LO : Nat := 0x240030
abbrev GPIO_SET_HI : Nat := 0x240034
abbrev GPIO_CLR_LO : Nat := 0x240038
abbrev GPIO_CLR_HI : Nat := 0x24003C
abbrev GPIO_IN_LO : Nat := 0x240040
abbrev GPIO_IN_HI : Nat := 0x240044
abbrev DBr_CMD_TAIL (r : Nat) : Nat := 0x1000 * r
abbrev DBr_CPL_HEAD (r : Nat) : Nat := 0x1000 * r + 0x004
abbrev HOST_MSIX_PBA : Nat := 0x30E00
abbrev HOST_MSIX_TABLE : Nat := 0x31000

end Sys2Proof.Machine.R
end

