-- ==== Sys2Proof/Machine/Bits.lean ====
section
/-! DEFINITION. Bit fields, byte order (R5), sign extension, epoch order (R13), the TS80 and TS32 time formats (R7–R11). -/

namespace Sys2Proof.Machine

/-- Field [hi:lo] of a word, as a number. -/
def fld (w : Word) (hi lo : Nat) : Nat := (w.toNat >>> lo) % 2 ^ (hi + 1 - lo)

/-- Bit b of a word. -/
def bit (w : Word) (b : Nat) : Bool := w.getLsbD b

/-- The mask of field [hi:lo]. -/
def maskOf (hi lo : Nat) : Word := BitVec.ofNat 32 ((2 ^ (hi + 1 - lo) - 1) <<< lo)

/-- The word w with field [hi:lo] replaced by v, of which the low bits that fit are taken. -/
def setFld (w : Word) (hi lo v : Nat) : Word :=
  (w &&& ~~~ maskOf hi lo) ||| (BitVec.ofNat 32 (v <<< lo) &&& maskOf hi lo)

/-- The bits of m taken from b, every other bit from a. -/
def blend (a b m : Word) : Word := (a &&& ~~~ m) ||| (b &&& m)

/-- 0 or 1. -/
def b2n (b : Bool) : Nat := if b then 1 else 0

/-- A number as a word: its low 32 bits. -/
abbrev w32 (n : Nat) : Word := BitVec.ofNat 32 n

/-- An integer as a word in two's complement. -/
def i32 (n : Int) : Word := BitVec.ofInt 32 n

/-- The value of n as an n-bit two's complement number. -/
def signed (bits n : Nat) : Int :=
  let m := n % 2 ^ bits
  if m < 2 ^ (bits - 1) then (m : Int) else (m : Int) - 2 ^ bits

/-- n clamped to the range lo to hi. -/
def clampNat (lo hi n : Nat) : Nat := if n < lo then lo else if hi < n then hi else n

/-- n clamped to the range lo to hi. -/
def clampInt (lo hi n : Int) : Int := if n < lo then lo else if hi < n then hi else n

/-- 0 acts as 1. -/
def atLeast1 (n : Nat) : Nat := if n = 0 then 1 else n

/-- R13: epoch a is later than epoch b when (a − b) mod 2³² lies between 1 and 2³¹ − 1. -/
def later (a b : Epoch) : Bool := let d := (a - b).toNat; 1 ≤ d && d < 2 ^ 31

/-- R571, R13: epoch a has been reached by a boundary that starts epoch b: a does not lie ahead of b. A difference of exactly 2³¹ is
stale, so reached. -/
def reached (a b : Epoch) : Bool := !later a b

/-- Little-endian value of a list of bytes (R5: tables and descriptors). -/
def leNat : Bytes → Nat
  | [] => 0
  | b :: t => b.toNat + 256 * leNat t

/-- Big-endian value of a list of bytes (R5: frames). -/
def beNat (l : Bytes) : Nat := l.foldl (fun a b => 256 * a + b.toNat) 0

/-- n as k bytes, little-endian. -/
def leBytes : Nat → Nat → Bytes
  | 0, _ => []
  | k + 1, n => BitVec.ofNat 8 n :: leBytes k (n / 256)

/-- n as k bytes, big-endian. -/
def beBytes (k n : Nat) : Bytes := (leBytes k n).reverse

/-- k bytes of a frame from offset o; bytes beyond its end read 0. -/
def slice (l : Bytes) (o k : Nat) : Bytes :=
  let t := (l.drop o).take k
  t ++ List.replicate (k - t.length) 0

/-- Big-endian field of k bytes at offset o of a frame. -/
def beAt (l : Bytes) (o k : Nat) : Nat := beNat (slice l o k)

/-- Little-endian field of k bytes at offset o of a table. -/
def leAt (l : Bytes) (o k : Nat) : Nat := leNat (slice l o k)

/-- The number of one bits among the low n bits of v. -/
def popcount : Nat → Nat → Nat
  | 0, _ => 0
  | k + 1, v => v % 2 + popcount k (v / 2)

/-- R7: a TS80 value. -/
structure Ts80 where
  /-- whole seconds, 48 bits -/
  sec : Nat
  /-- nanoseconds, 0 to 999,999,999 when valid -/
  ns : Nat
deriving DecidableEq, Repr

/-- R9: a value whose nanoseconds field is 1,000,000,000 or greater is rejected. -/
def Ts80.valid (t : Ts80) : Bool := t.ns < 1000000000

/-- Full nanoseconds of a TS80. -/
def Ts80.toNs (t : Ts80) : Nat := t.sec * 1000000000 + t.ns

/-- R8: the TS80 of a count of nanoseconds; its seconds wrap at 48 bits. -/
def Ts80.ofNs (n : Nat) : Ts80 := { sec := (n / 1000000000) % 2 ^ 48, ns := n % 1000000000 }

/-- The 10 bytes of a TS80 in a network frame: seconds, then nanoseconds, big-endian. -/
def Ts80.toBytes (t : Ts80) : Bytes := beBytes 6 t.sec ++ beBytes 4 t.ns

/-- The TS80 at offset o of a network frame. -/
def Ts80.atBE (l : Bytes) (o : Nat) : Ts80 := { sec := beAt l o 6, ns := beAt l (o + 6) 4 }

/-- The 12 bytes of a TS80 in host memory or DRAM. -/
def Ts80.toLE (t : Ts80) : Bytes := leBytes 4 t.ns ++ leBytes 6 t.sec ++ [0, 0]

/-- R10: the TS32 of a count of nanoseconds. -/
def ts32 (n : Nat) : Word := BitVec.ofNat 32 n

/-- R11: the nanosecond value congruent to v modulo 2³² nearest to now; of two equally near, the earlier. -/
def ts32Extend (now : Int) (v : Word) : Int :=
  let d : Int := ((v.toNat : Int) - now) % 2 ^ 32
  if d ≥ 2 ^ 31 then now + d - 2 ^ 32 else now + d

end Sys2Proof.Machine
end

