-- ==== Sys2Proof/Machine/RegMap.lean ====
section
/-! DEFINITION. The register map: the access codes of R6, the blocks of R43 with their windows, aliases and summary bits, the
ranges of R45 that belong to no block, the update groups of R48, the places of the WDROP and LOCKERR bits (R69), and one row
per register of the block tables (R36, R70, R101, R131, R132, R134, R178, R179, R203, R230, R266, R287, R288, R314, R336,
R364, R365, R390, R415, R429, R445, R467, R483, R503, R512, R527, R548–R550, R566): its offset, its repetition, its reset
value, the access code of each of its bits, whether it is a configuration register (R55) and which of its bits are writable
only outside SHOW (R570). A bit that a row lists under no access code is read-only or reserved for software. -/

namespace Sys2Proof.Machine

/-- The access codes of R6 that let software change or clear a bit. RO and WO bits are listed under none: an RO bit only the
hardware changes, and the write to a WO register is an effect of its block. -/
inductive Acc | rw | rwb | w1c | w1s | rc | rwl | wo1
deriving DecidableEq, Repr

/-- One row of a block's register table. -/
structure RegRow where
  /-- offset of the first register, within the instance -/
  off : Nat
  /-- stride and count of the first index -/
  st : Nat := 0
  n : Nat := 1
  /-- stride and count of the second index -/
  st2 : Nat := 0
  n2 : Nat := 1
  /-- reset value -/
  reset : Nat
  /-- R55: a configuration register -/
  cfg : Bool := false
  /-- bits writable only outside SHOW (R570); all ones: the whole register is marked -/
  out : Nat := 0
  /-- the bits of each access code -/
  fields : List (Acc × Nat) := []
deriving DecidableEq, Repr

/-- The bits of a row under one access code. -/
def RegRow.mask (r : RegRow) (a : Acc) : Word :=
  r.fields.foldl (fun m f => if f.1 = a then m ||| BitVec.ofNat 32 f.2 else m) 0

/-- Whether local offset l is one of the row's registers. -/
def RegRow.covers (r : RegRow) (l : Nat) : Bool :=
  r.off ≤ l &&
    (let d := l - r.off
     if r.st = 0 then d == 0
     else d / r.st < r.n &&
       (let e := d % r.st
        if r.st2 = 0 then e == 0 else e % r.st2 == 0 && e / r.st2 < r.n2))

/-- The blocks of R43. INGEST's receivers and its common registers are listed apart, because they repeat differently. -/
inductive Block
  | global | clock | power | intc | time | host | kennel | engine | ingestRx | ingest | raster | calib | plan | vocon | heel
  | fixture | mac | uart | hub | sigmap | farbr | brace | sheaf | check | sec | upd | winnow | dram | pins
deriving DecidableEq, Repr

/-- R43: base and instance stride. -/
def Block.base : Block → Nat × Nat
  | .global => (0x00000, 0) | .clock => (0x01000, 0) | .power => (0x02000, 0) | .intc => (0x10000, 0) | .time => (0x20000, 0)
  | .host => (0x30000, 0) | .kennel => (0x40000, 0) | .engine => (0x50000, 0x1000) | .ingestRx => (0x60000, 0x400)
  | .ingest => (0x60000, 0) | .raster => (0x70000, 0) | .calib => (0x80000, 0) | .plan => (0x90000, 0) | .vocon => (0xA0000, 0)
  | .heel => (0xB0000, 0) | .fixture => (0xC0000, 0) | .mac => (0x100000, 0x2000) | .uart => (0x180000, 0x400)
  | .hub => (0x1A0000, 0) | .sigmap => (0x1B0000, 0) | .farbr => (0x1C0000, 0) | .brace => (0x1D0000, 0)
  | .sheaf => (0x1E0000, 0) | .check => (0x1F0000, 0x100) | .sec => (0x200000, 0) | .upd => (0x210000, 0)
  | .winnow => (0x220000, 0) | .dram => (0x230000, 0) | .pins => (0x240000, 0)

/-- R43: the summary bit a block owns in GLOBAL_WDROP_SUM and GLOBAL_LOCKERR_SUM. -/
def Block.sumBit : Block → Nat
  | .global => 0 | .clock => 1 | .power => 2 | .intc => 3 | .time => 4 | .host => 5 | .kennel => 6 | .engine => 7
  | .ingestRx => 8 | .ingest => 8 | .raster => 9 | .calib => 10 | .plan => 11 | .vocon => 12 | .heel => 13 | .fixture => 14
  | .mac => 15 | .uart => 16 | .hub => 17 | .sigmap => 18 | .farbr => 19 | .brace => 20 | .sheaf => 21 | .check => 22
  | .sec => 23 | .upd => 24 | .winnow => 25 | .dram => 26 | .pins => 27

/-- R48: the update group of a block's RWB fields. -/
def Block.group : Block → Option Nat
  | .time => some 0 | .ingestRx => some 1 | .ingest => some 1 | .raster => some 2 | .kennel => some 3 | .engine => some 3
  | .calib => some 4 | .plan => some 5 | .vocon => some 6 | .heel => some 7 | .fixture => some 8 | .hub => some 9
  | .sigmap => some 9 | .farbr => some 10 | .mac => some 11 | .brace => some 12 | .sheaf => some 12 | .winnow => some 13
  | .pins => some 14 | .clock => some 15 | .dram => some 15
  | .global => none | .power => none | .intc => none | .host => none | .uart => none | .check => none | .sec => none
  | .upd => none

/-- R58: the show blocks. -/
def Block.show : Block → Bool
  | .time | .ingestRx | .ingest | .raster | .kennel | .engine | .calib | .plan | .vocon | .heel => true
  | _ => false

/-- R69: where the status register with a block's WDROP and LOCKERR bits lies: the absolute offset of instance i's status
register, the WDROP bit and the LOCKERR bit. The receivers of INGEST share INGEST_STATUS; verification uses RASTER_STATUS. -/
def Block.status (b : Block) (i : Nat) : Nat × Nat × Nat :=
  match b with
  | .global => (0x0001C, 2, 3) | .clock => (0x01004, 5, 6) | .power => (0x02008, 3, 4) | .intc => (0x13004, 1, 2)
  | .time => (0x20004, 13, 14) | .host => (0x30004, 3, 4) | .kennel => (0x40004, 7, 8) | .engine => (0x50004 + 0x1000 * i, 4, 5)
  | .ingestRx => (0x68020, 3, 4) | .ingest => (0x68020, 3, 4) | .raster => (0x70018, 10, 11) | .calib => (0x80004, 10, 11)
  | .plan => (0x90004, 9, 10) | .vocon => (0xA0004, 14, 15) | .heel => (0xB0004, 4, 5) | .fixture => (0xC0004, 12, 13)
  | .mac => (0x100004 + 0x2000 * i, 15, 16) | .uart => (0x18001C + 0x400 * i, 5, 6) | .hub => (0x1A0004, 12, 13)
  | .sigmap => (0x1B0004, 5, 6) | .farbr => (0x1C0004, 10, 11) | .brace => (0x1D0004, 14, 15) | .sheaf => (0x1E0004, 10, 11)
  | .check => (0x1F0004 + 0x100 * i, 5, 6) | .sec => (0x200004, 8, 9) | .upd => (0x210004, 8, 9) | .winnow => (0x220004, 6, 7)
  | .dram => (0x230004, 2, 3) | .pins => (0x240004, 1, 2)

/-- The blocks that own a summary bit, with their number of instances (R43, R69). -/
def blockInstances : List (Block × Nat) :=
  [(.global, 1), (.clock, 1), (.power, 1), (.intc, 1), (.time, 1), (.host, 1), (.kennel, 1), (.engine, 16), (.ingest, 1),
   (.raster, 1), (.calib, 1), (.plan, 1), (.vocon, 1), (.heel, 1), (.fixture, 1), (.mac, 37), (.uart, 64), (.hub, 1),
   (.sigmap, 1), (.farbr, 1), (.brace, 1), (.sheaf, 1), (.check, 8), (.sec, 1), (.upd, 1), (.winnow, 1), (.dram, 1), (.pins, 1)]

/-- Where a BAR0 offset leads: a range of no block (R45), a place of a block's window that reads 0 by its alias rule (R4,
R43), or local offset l of instance i of a block, aliases resolved (R44). -/
inductive Loc
  | unmapped
  | reads0 (b : Block)
  | at (b : Block) (i l : Nat)
deriving DecidableEq, Repr

/-- A block whose decoded range repeats, without instances. -/
def locRep (b : Block) (o period : Nat) : Loc := .at b 0 (o % period)

/-- A block that decodes only its first n offsets; the rest reads 0. -/
def locOnly (b : Block) (o n : Nat) : Loc := if o < n then .at b 0 o else .reads0 b

/-- A block of equal instances, each repeating its decoded range. -/
def locInst (b : Block) (o stride period : Nat) : Loc := .at b (o / stride) (o % stride % period)

/-- R43, R45: the window an offset lies in. -/
def resolve (a : Nat) : Loc :=
  let o := a / 4 * 4
  if o < 0x1000 then locRep .global o 0x100
  else if o < 0x2000 then locRep .clock (o - 0x1000) 0x200
  else if o < 0x10000 then locRep .power (o - 0x2000) 0x1000
  else
    let w := o / 0x10000
    let l := o % 0x10000
    match w with
    | 0x01 => locOnly .intc l 0x4000
    | 0x02 => locRep .time l 0x1000
    | 0x03 => locOnly .host l 0x2000
    | 0x04 => locRep .kennel l 0x4000
    | 0x05 => locInst .engine l 0x1000 0x200
    | 0x06 => if l < 0x2000 then locInst .ingestRx l 0x400 0x200
              else if 0x8000 ≤ l && l < 0x8400 then .at .ingest 0 l else .reads0 .ingest
    | 0x07 => locOnly .raster l 0x2000
    | 0x08 => locRep .calib l 0x1000
    | 0x09 => locRep .plan l 0x1000
    | 0x0A => locRep .vocon l 0x1000
    | 0x0B => locRep .heel l 0x1000
    | 0x0C => locRep .fixture l 0x1000
    | 0x0D | 0x0E | 0x0F => .unmapped
    | 0x18 => locInst .uart l 0x400 0x100
    | 0x19 => .unmapped
    | 0x1A => locRep .hub l 0x8000
    | 0x1B => locRep .sigmap l 0x1000
    | 0x1C => locRep .farbr l 0x2000
    | 0x1D => locRep .brace l 0x1000
    | 0x1E => locRep .sheaf l 0x1000
    | 0x1F => if l < 0x800 then locInst .check l 0x100 0x40 else .unmapped
    | 0x20 => locOnly .sec l 0x1000
    | 0x21 => locRep .upd l 0x1000
    | 0x22 => locRep .winnow l 0x1000
    | 0x23 => locRep .dram l 0x1000
    | 0x24 => locRep .pins l 0x800
    | _ => if 0x100000 ≤ o && o < 0x14A000 then locInst .mac (o - 0x100000) 0x2000 0x1000 else .unmapped

def rowsGlobal : List RegRow := [
  { off := 0x0, reset := 0x4B5A9160 },  -- GLOBAL_ID
  { off := 0x4, reset := 0x20 },  -- GLOBAL_REV
  { off := 0x8, reset := 0x91600100 },  -- GLOBAL_COMPAT
  { off := 0xC, reset := 0x0, fields := [(.wo1, 0x80000000), (.rw, 0x1)] },  -- GLOBAL_CTRL
  { off := 0x10, reset := 0x0 },  -- GLOBAL_UPDATE
  { off := 0x14, reset := 0x0 },  -- GLOBAL_UPD_PEND
  { off := 0x18, reset := 0x0, fields := [(.w1c, 0xFFFF)] },  -- GLOBAL_UPD_FAIL
  { off := 0x1C, reset := 0x0, fields := [(.w1c, 0x1F)] },  -- GLOBAL_STATUS
  { off := 0x20, reset := 0x5, cfg := true, fields := [(.rwl, 0xF)] },  -- GLOBAL_PARITY_CTRL
  { off := 0x24, reset := 0x0 },  -- GLOBAL_PARITY_ADDR
  { off := 0x28, reset := 0x0, fields := [(.rw, 0xFFFFFFFF)] },  -- GLOBAL_PARITY_CNT
  { off := 0x2C, reset := 0x0 },  -- GLOBAL_UNMAPPED_ADDR
  { off := 0x30, reset := 0x0 },  -- GLOBAL_WDROP_SUM
  { off := 0x34, reset := 0x0 },  -- GLOBAL_LOCKERR_SUM
  { off := 0x38, reset := 0x0, fields := [(.rw, 0xFFFFFFFF)] }  -- GLOBAL_SCRATCH
  ]

def rowsClock : List RegRow := [
  { off := 0x0, reset := 0x1, cfg := true, fields := [(.rwb, 0x1)] },  -- CLOCK_CTRL
  { off := 0x4, reset := 0x0, fields := [(.w1c, 0x7F)] },  -- CLOCK_STATUS
  { off := 0x8, reset := 0x0 },  -- CLOCK_LOCK
  { off := 0xC, reset := 0x0 },  -- CLOCK_LANE_LOCK
  { off := 0x10, reset := 0x0 },  -- CLOCK_SBY_TRIM
  { off := 0x14, reset := 0x0, fields := [(.rw, 0xFFFFFFFF)] }  -- CLOCK_UNLOCK_CNT
  ]

def rowsPower : List RegRow := [
  { off := 0x0, reset := 0x0 },  -- PWR_CMD
  { off := 0x4, reset := 0x0 },  -- PWR_STATE
  { off := 0x8, reset := 0x0, fields := [(.w1c, 0x1F)] },  -- PWR_STATUS
  { off := 0xC, reset := 0x1 },  -- PWR_RST_CAUSE
  { off := 0x10, reset := 0x0 },  -- PWR_BOOT_TIME
  { off := 0x14, reset := 0x0 },  -- PWR_BOOT_STAGE
  { off := 0x800, reset := 0x1, cfg := true, fields := [(.rw, 0x1F07)] },  -- SBY_CTRL
  { off := 0x804, reset := 0x0, fields := [(.w1c, 0x1F)] },  -- SBY_WAKE_CAUSE
  { off := 0x808, reset := 0x0 },  -- SBY_RTC
  { off := 0x80C, reset := 0x0, cfg := true, fields := [(.rw, 0xFFFFFFFF)] },  -- SBY_ALARM
  { off := 0x810, reset := 0x0, cfg := true, fields := [(.rw, 0x1F1F1F1F)] },  -- SBY_PF_PORTS_LO
  { off := 0x814, reset := 0x0, fields := [(.rw, 0x1FF)] },  -- SBY_PF_IDX
  { off := 0x818, reset := 0x0, fields := [(.rw, 0xFFFFFFFF)] },  -- SBY_PF_DATA
  { off := 0x81C, reset := 0x0 },  -- SBY_BUSY
  { off := 0x820, reset := 0x0, cfg := true, fields := [(.rw, 0x1F1F1F1F)] }  -- SBY_PF_PORTS_HI
  ]

def rowsIntc : List RegRow := [
  { off := 0x0, reset := 0x0, st := 0x4, n := 2048, cfg := true, fields := [(.rw, 0xF8FF80FF)] },  -- INTC_SRCs
  { off := 0x2000, reset := 0x0, st := 0x4, n := 64, fields := [(.rw, 0xFFFFFFFF)] },  -- INTC_PENDw
  { off := 0x2100, reset := 0x0, st := 0x4, n := 64, fields := [(.rw, 0xFFFFFFFF)] },  -- INTC_MASKw
  { off := 0x2200, reset := 0x0, st := 0x4, n := 64 },  -- INTC_RAWw
  { off := 0x2300, reset := 0x4, st := 0x4, n := 64, cfg := true, fields := [(.rw, 0xFF)] },  -- INTC_FILTi
  { off := 0x3000, reset := 0x0, cfg := true, fields := [(.rw, 0x1)] },  -- INTC_CTRL
  { off := 0x3004, reset := 0x0, fields := [(.w1c, 0x7)] },  -- INTC_STATUS
  { off := 0x3008, reset := 0x0, cfg := true, fields := [(.rw, 0xFFFF)] },  -- INTC_MSIX_MOD
  { off := 0x300C, reset := 0x0 },  -- INTC_RR
  { off := 0x3010, reset := 0x0, fields := [(.rw, 0xFFFFFFFF)] },  -- INTC_REROUTE_CNT
  { off := 0x3100, reset := 0x0, st := 0x40, n := 4, cfg := true, fields := [(.rw, 0x1)] },  -- INTC_Cc_CTRL
  { off := 0x3104, reset := 0x0, st := 0x40, n := 4, fields := [(.rw, 0xF)] },  -- INTC_Cc_TPR
  { off := 0x3108, reset := 0x0, st := 0x40, n := 4 },  -- INTC_Cc_STATE
  { off := 0x310C, reset := 0x0, st := 0x40, n := 4 },  -- INTC_Cc_INSVC
  { off := 0x3110, reset := 0x0, st := 0x40, n := 4 },  -- INTC_Cc_ACTIVE
  { off := 0x3114, reset := 0x0, st := 0x40, n := 4 },  -- INTC_Cc_EOI
  { off := 0x3118, reset := 0x320000, st := 0x40, n := 4, cfg := true, fields := [(.rw, 0xFFFF00FF)] },  -- INTC_Cc_MOD
  { off := 0x311C, reset := 0x0, st := 0x40, n := 4, fields := [(.rw, 0xFFFFFFFF)] },  -- INTC_Cc_DELIV_CNT
  { off := 0x3120, reset := 0x0, st := 0x40, n := 4, fields := [(.rw, 0xFFFFFFFF)] },  -- INTC_Cc_HOLD_CNT
  { off := 0x3124, reset := 0x0, st := 0x40, n := 4, fields := [(.rw, 0xFFFFFFFF)] }  -- INTC_Cc_BYPASS_CNT
  ]

def rowsTimeA : List RegRow := [
  { off := 0x0, reset := 0x300, cfg := true, fields := [(.rwb, 0x8F0F)] },  -- TIME_CTRL
  { off := 0x4, reset := 0x0, fields := [(.w1c, 0x7FFF)] },  -- TIME_STATUS
  { off := 0x8, reset := 0x0 },  -- TIME_SERVO_STATE
  { off := 0x10, reset := 0x0 },  -- TIME_FRC_LO
  { off := 0x14, reset := 0x0 },  -- TIME_FRC_HI
  { off := 0x18, reset := 0x0 },  -- TIME_NOW_NS
  { off := 0x1C, reset := 0x0 },  -- TIME_NOW_SEC_LO
  { off := 0x20, reset := 0x0 },  -- TIME_NOW_SEC_HI
  { off := 0x24, reset := 0x0 },  -- TIME_NOW_FRAC
  { off := 0x30, reset := 0x0, fields := [(.rw, 0xFFFFFFFF)] },  -- TIME_RATE_LO
  { off := 0x34, reset := 0x0, fields := [(.rw, 0xFF)] },  -- TIME_RATE_HI
  { off := 0x38, reset := 0xC8, cfg := true, fields := [(.rwb, 0x3FF)] },  -- TIME_RATE_LIMIT
  { off := 0x40, reset := 0x40000, cfg := true, fields := [(.rwb, 0xFFFFFFFF)] },  -- TIME_KP
  { off := 0x44, reset := 0x4000, cfg := true, fields := [(.rwb, 0xFFFFFFFF)] },  -- TIME_KI
  { off := 0x48, reset := 0x640010, cfg := true, fields := [(.rwb, 0xFFFF00FF)] },  -- TIME_LOCK_CFG
  { off := 0x4C, reset := 0x3E8, cfg := true, fields := [(.rwb, 0xFFFFFFFF)] },  -- TIME_STEP_LIMIT
  { off := 0x50, reset := 0x2710, cfg := true, fields := [(.rwb, 0xFFFFFFFF)] },  -- TIME_OUTLIER
  { off := 0x54, reset := 0x3E8, cfg := true, fields := [(.rwb, 0xFFFF)] },  -- TIME_HOLDOVER_MS
  { off := 0x58, reset := 0x0 },  -- TIME_MEAS
  { off := 0x5C, reset := 0x0 },  -- TIME_LAST_ERR
  { off := 0x60, reset := 0x0 },  -- TIME_STEP
  { off := 0x64, reset := 0x0 },  -- TIME_SET_NS
  { off := 0x68, reset := 0x0 },  -- TIME_SET_SEC_LO
  { off := 0x6C, reset := 0x0 },  -- TIME_SET_SEC_HI
  { off := 0x70, reset := 0x7F200DED, cfg := true, fields := [(.rwb, 0xFF3F6FFF)] },  -- TIME_PTP_CTRL
  { off := 0x74, reset := 0x0 },  -- TIME_PTP_MPD
  { off := 0x78, reset := 0x25, cfg := true, fields := [(.rwb, 0xFFFF)] },  -- TIME_UTC_OFFSET
  { off := 0x7C, reset := 0x0, cfg := true, fields := [(.rwb, 0xFFFFFFFF)] },  -- TIME_PTP_MASTER_LO
  { off := 0x80, reset := 0x0, cfg := true, fields := [(.rwb, 0x1F)] },  -- TIME_PTP_MASTER_HI
  { off := 0x84, reset := 0x3C, cfg := true, fields := [(.rwb, 0xFFFFF)] }  -- TIME_FRAME_DEN
  ]

def rowsTimeB : List RegRow := [
  { off := 0x88, reset := 0x1, cfg := true, fields := [(.rwb, 0xFFFFF)] },  -- TIME_FRAME_NUM
  { off := 0x8C, reset := 0x0 },  -- TIME_EPOCH
  { off := 0x90, reset := 0x0, cfg := true, out := 0xFFFFFFFF, fields := [(.rw, 0xFFFFFFFF)] },  -- TIME_EPOCH_ADJ
  { off := 0x94, reset := 0x0 },  -- TIME_NEXT_BND_NS
  { off := 0x98, reset := 0x0 },  -- TIME_NEXT_BND_SEC_LO
  { off := 0x9C, reset := 0x0 },  -- TIME_NEXT_BND_SEC_HI
  { off := 0xA0, reset := 0x0, fields := [(.rw, 0xFFFFFFFF)] },  -- TIME_EPOCH_SKIP_CNT
  { off := 0xA4, reset := 0x0, fields := [(.rw, 0xFFFFFFFF)] },  -- TIME_STEP_CNT
  { off := 0xA8, reset := 0x0, fields := [(.rw, 0xFFFFFFFF)] },  -- TIME_OUTLIER_CNT
  { off := 0xB0, reset := 0x10, cfg := true, fields := [(.rwb, 0xFF11)] },  -- TIME_PPS_CTRL
  { off := 0xB4, reset := 0x0 },  -- TIME_PPS_CAP_NS
  { off := 0xB8, reset := 0x0 },  -- TIME_PPS_CAP_SEC_LO
  { off := 0xBC, reset := 0x0 },  -- TIME_PPS_CAP_SEC_HI
  { off := 0xC0, reset := 0x0, cfg := true, fields := [(.rwb, 0x1)] },  -- TIME_REF10M_CTRL
  { off := 0xC4, reset := 0x0 },  -- TIME_REF10M_PHASE
  { off := 0xD0, reset := 0x0, cfg := true, fields := [(.rwb, 0x1)] },  -- TIME_LTCI_CTRL
  { off := 0xD4, reset := 0x0 },  -- TIME_LTCI_TC
  { off := 0xD8, reset := 0x0 },  -- TIME_LTCI_UB
  { off := 0xDC, reset := 0x0 },  -- TIME_LTCI_TS_NS
  { off := 0xE0, reset := 0x0 },  -- TIME_LTCI_TS_SEC_LO
  { off := 0xE4, reset := 0x0 },  -- TIME_LTCI_TS_SEC_HI
  { off := 0xF0, reset := 0x0, cfg := true, fields := [(.rwb, 0x171)] },  -- TIME_LTCO_CTRL
  { off := 0xF4, reset := 0x0, cfg := true, fields := [(.rwb, 0xFFFFFFFF)] },  -- TIME_LTCO_TZ
  { off := 0xF8, reset := 0x0, cfg := true, fields := [(.rwb, 0xFFFFFFFF)] },  -- TIME_LTCO_UB
  { off := 0x100, reset := 0x0, fields := [(.rw, 0x3F)] },  -- TIME_TSQ_SEL
  { off := 0x104, reset := 0x0 },  -- TIME_TSQ_CMD
  { off := 0x108, reset := 0x0 },  -- TIME_TSQ_STAT
  { off := 0x10C, reset := 0x0 },  -- TIME_TSQ_ID
  { off := 0x110, reset := 0x0 },  -- TIME_TSQ_FRAC
  { off := 0x114, reset := 0x0 }  -- TIME_TSQ_NS
  ]

def rowsTimeC : List RegRow := [
  { off := 0x118, reset := 0x0 },  -- TIME_TSQ_SEC_LO
  { off := 0x11C, reset := 0x0 },  -- TIME_TSQ_SEC_HI
  { off := 0x120, reset := 0x0 },  -- TIME_TSQ_LOST_ID
  { off := 0x124, reset := 0x0, fields := [(.rw, 0xFFFFFFFF)] },  -- TIME_TSQ_LOSTCNT
  { off := 0x128, reset := 0x4, cfg := true, fields := [(.rwb, 0xF)] },  -- TIME_TSQ_RSV
  { off := 0x200, reset := 0x0, st := 0x8, n := 37, cfg := true, fields := [(.rw, 0xFFFFFFFF)] },  -- TIME_PORTn_TXDLY
  { off := 0x204, reset := 0x0, st := 0x8, n := 37, cfg := true, fields := [(.rw, 0xFFFFFFFF)] },  -- TIME_PORTn_RXDLY
  { off := 0x400, reset := 0x10, st := 0x20, n := 8, cfg := true, fields := [(.rwb, 0x37)] },  -- TIME_HOn_CTRL
  { off := 0x404, reset := 0x3E8, st := 0x20, n := 8, cfg := true, fields := [(.rwb, 0xFFFFFFFF)] },  -- TIME_HOn_WIDTH
  { off := 0x408, reset := 0x0, st := 0x20, n := 8, cfg := true, fields := [(.rwb, 0xFF)] },  -- TIME_HOn_DLY
  { off := 0x40C, reset := 0x0, st := 0x20, n := 8, cfg := true, fields := [(.rwb, 0xFFFFFFFF)] },  -- TIME_HOn_PERIOD
  { off := 0x410, reset := 0x0, st := 0x20, n := 8 },  -- TIME_HOn_T_NS
  { off := 0x414, reset := 0x0, st := 0x20, n := 8 },  -- TIME_HOn_T_SEC_LO
  { off := 0x418, reset := 0x0, st := 0x20, n := 8 },  -- TIME_HOn_T_SEC_HI
  { off := 0x41C, reset := 0x0, st := 0x20, n := 8 }  -- TIME_HOn_STAT
  ]

def rowsTime : List RegRow := rowsTimeA ++ rowsTimeB ++ rowsTimeC

def rowsHost : List RegRow := [
  { off := 0x0, reset := 0x0, cfg := true, fields := [(.rw, 0x2)] },  -- HOST_CTRL
  { off := 0x4, reset := 0x0, fields := [(.w1c, 0x1F)] },  -- HOST_STATUS
  { off := 0x8, reset := 0x0 },  -- HOST_LINK
  { off := 0xC, reset := 0x0, fields := [(.rw, 0xF0000000)] },  -- HOST_BAR4_WIN_LO
  { off := 0x10, reset := 0x0, fields := [(.rw, 0x3)] },  -- HOST_BAR4_WIN_HI
  { off := 0x14, reset := 0x0, fields := [(.rw, 0xFFFFFFFF)] },  -- HOST_FWREGION_CNT
  { off := 0x18, reset := 0x0, fields := [(.rw, 0xFFFFFFFF)] },  -- HOST_RX_NOBUF_CNT
  { off := 0x40, reset := 0xFF, st := 0x4, n := 37, cfg := true, fields := [(.rw, 0xFF)] },  -- HOST_PORTp_RXRING
  { off := 0x400, reset := 0x0, st := 0x20, n := 64, fields := [(.rw, 0xFFFFFFFF)] },  -- HOST_RINGr_CMD_LO
  { off := 0x404, reset := 0x0, st := 0x20, n := 64, fields := [(.rw, 0xFFFFFFFF)] },  -- HOST_RINGr_CMD_HI
  { off := 0x408, reset := 0x0, st := 0x20, n := 64, fields := [(.rw, 0xFFFFFFFF)] },  -- HOST_RINGr_CPL_LO
  { off := 0x40C, reset := 0x0, st := 0x20, n := 64, fields := [(.rw, 0xFFFFFFFF)] },  -- HOST_RINGr_CPL_HI
  { off := 0x410, reset := 0x40000, st := 0x20, n := 64, fields := [(.rw, 0x1F0313)] },  -- HOST_RINGr_CTRL
  { off := 0x414, reset := 0x0, st := 0x20, n := 64 },  -- HOST_RINGr_STAT
  { off := 0x418, reset := 0x0, st := 0x20, n := 64 },  -- HOST_RINGr_CPL_TAIL
  { off := 0x41C, reset := 0x0, st := 0x20, n := 64, fields := [(.rw, 0xFFFFFFFF)] }  -- HOST_RINGr_DONE_CNT
  ]

def rowsKennel : List RegRow := [
  { off := 0x0, reset := 0x1000, cfg := true, fields := [(.rwb, 0xFF01)] },  -- KNL_CTRL
  { off := 0x4, reset := 0x0, fields := [(.w1c, 0x1FF)] },  -- KNL_STATUS
  { off := 0x8, reset := 0x0, cfg := true, fields := [(.rwb, 0xFFFFFFC0)] },  -- KNL_GRAPH_BASE_LO
  { off := 0xC, reset := 0x0, cfg := true, fields := [(.rwb, 0x3)] },  -- KNL_GRAPH_BASE_HI
  { off := 0x10, reset := 0x0, cfg := true, fields := [(.rwb, 0xFFFFFFFF)] },  -- KNL_GRAPH_LEN
  { off := 0x14, reset := 0x40, cfg := true, fields := [(.rwb, 0xFF)] },  -- KNL_FIFO_AREA
  { off := 0x18, reset := 0x0 },  -- KNL_GRAPH_ERR
  { off := 0x1C, reset := 0x0 },  -- KNL_GRAPH_GEN
  { off := 0x20, reset := 0x0 },  -- KNL_FRAME_EPOCH
  { off := 0x24, reset := 0x0, fields := [(.rw, 0xFFFFFFFF)] },  -- KNL_FRAME_DONE_CNT
  { off := 0x28, reset := 0x0, fields := [(.rw, 0xFFFFFFFF)] },  -- KNL_FRAME_DROP_CNT
  { off := 0x2C, reset := 0x0 },  -- KNL_LAST_DROP_EPOCH
  { off := 0x30, reset := 0x0 },  -- KNL_DONE_TIME
  { off := 0x34, reset := 0x0, fields := [(.rw, 0x1FFF0000)] },  -- KNL_INFLIGHT
  { off := 0x38, reset := 0x0, fields := [(.rw, 0xFFFFFFFF)] },  -- KNL_MISMATCH_CNT
  { off := 0x3C, reset := 0x0, fields := [(.rw, 0xFFFFFFFF)] },  -- KNL_CLIP_CNT
  { off := 0x40, reset := 0x0, st := 0x4, n := 4 },  -- KNL_READYp
  { off := 0x50, reset := 0x0, st := 0x4, n := 4, fields := [(.rw, 0xFFFFFFFF)] },  -- KNL_WAITMAXp
  { off := 0x60, reset := 0x0, st := 0x4, n := 4, fields := [(.rw, 0xFFFFFFFF)] },  -- KNL_WAITSUMp
  { off := 0x70, reset := 0x0, st := 0x4, n := 4, fields := [(.rw, 0xFFFFFFFF)] },  -- KNL_DISPp
  { off := 0x90, reset := 0x0, fields := [(.rw, 0xFFF)] },  -- KNL_PARAM_IDX
  { off := 0x94, reset := 0x0, fields := [(.rw, 0xFFFFFFFF)] },  -- KNL_PARAM_DATA
  { off := 0x1000, reset := 0x0, st := 0x10, n := 256 },  -- KNL_FIFOf_LEVEL
  { off := 0x1004, reset := 0x0, st := 0x10, n := 256, fields := [(.rw, 0x7FFFF)] },  -- KNL_FIFOf_HWM
  { off := 0x1008, reset := 0x0, st := 0x10, n := 256, fields := [(.rw, 0xFFFFFFFF)] },  -- KNL_FIFOf_FULL_CYC
  { off := 0x100C, reset := 0x0, st := 0x10, n := 256, fields := [(.rw, 0xFFFFFFFF)] },  -- KNL_FIFOf_STALL_CYC
  { off := 0x2000, reset := 0x0, st := 0x10, n := 64 },  -- KNL_FLOWq_STAT
  { off := 0x2004, reset := 0x0, st := 0x10, n := 64, fields := [(.rw, 0xFFFFFFFF)] },  -- KNL_FLOWq_HOLD_CYC
  { off := 0x2008, reset := 0x0, st := 0x10, n := 64, fields := [(.rw, 0x7F)] }  -- KNL_FLOWq_MAXOUT
  ]

def rowsEngine : List RegRow := [
  { off := 0x0, reset := 0x1, cfg := true, fields := [(.rwb, 0x1), (.w1s, 0x2)] },  -- REn_CTRL
  { off := 0x4, reset := 0x0, fields := [(.w1c, 0x37)] },  -- REn_STATUS
  { off := 0x8, reset := 0x100000, cfg := true, fields := [(.rwb, 0xFFFFFFFF)] },  -- REn_WDOG_LIMIT
  { off := 0xC, reset := 0x0 },  -- REn_STATE
  { off := 0x10, reset := 0x0, fields := [(.rw, 0xFFFFFFFF)] },  -- REn_BUSY_CYC
  { off := 0x14, reset := 0x0, fields := [(.rw, 0xFFFFFFFF)] },  -- REn_SLEEP_CYC
  { off := 0x18, reset := 0x0, fields := [(.rw, 0xFFFFFFFF)] },  -- REn_STALL_CYC
  { off := 0x1C, reset := 0x0, fields := [(.rw, 0xFFFFFFFF)] },  -- REn_GRAINS
  { off := 0x20, reset := 0x0, fields := [(.rw, 0xFFFFFFFF)] },  -- REn_AFF_HITS
  { off := 0x24, reset := 0x0 },  -- REn_LOAD
  { off := 0x28, reset := 0x0, fields := [(.rw, 0xFFFFFFFF)] },  -- REn_LS_CE_CNT
  { off := 0x2C, reset := 0x0 }  -- REn_UCODE_VER
  ]

def rowsIngestRxA : List RegRow := [
  { off := 0x0, reset := 0x100, cfg := true, fields := [(.rwb, 0x7331373)] },  -- INGn_V_CTRL
  { off := 0x4, reset := 0x240024, cfg := true, fields := [(.rwb, 0x3F003F)] },  -- INGn_V_PORT
  { off := 0x8, reset := 0x0, cfg := true, fields := [(.rwb, 0xFFFFFFFF)] },  -- INGn_V_DST_IP
  { off := 0xC, reset := 0x0, cfg := true, fields := [(.rwb, 0xFFFFFFFF)] },  -- INGn_V_SRC_IP
  { off := 0x10, reset := 0x0, cfg := true, fields := [(.rwb, 0xFFFFFF)] },  -- INGn_V_UDP
  { off := 0x14, reset := 0x4380780, cfg := true, fields := [(.rwb, 0x7FFF7FFF)] },  -- INGn_V_SIZE
  { off := 0x18, reset := 0x0, cfg := true, fields := [(.rwb, 0x7FFF7FFF)] },  -- INGn_V_CROP_XY
  { off := 0x1C, reset := 0x0, cfg := true, fields := [(.rwb, 0x7FFF7FFF)] },  -- INGn_V_CROP_WH
  { off := 0x20, reset := 0x0, cfg := true, fields := [(.rwb, 0x7FFF7FFF)] },  -- INGn_V_DST
  { off := 0x24, reset := 0x0, cfg := true, fields := [(.rwb, 0xFFFFFFFF)] },  -- INGn_V_RTP_OFFSET
  { off := 0x28, reset := 0x2, cfg := true, fields := [(.rwb, 0xFF)] },  -- INGn_V_TS_TOL
  { off := 0x2C, reset := 0x64, cfg := true, fields := [(.rwb, 0xFFFF)] },  -- INGn_V_PATH_TMO
  { off := 0x30, reset := 0x0, fields := [(.w1c, 0x1FF)] },  -- INGn_STATUS
  { off := 0x34, reset := 0x0, fields := [(.rw, 0xFFFFFFFF)] },  -- INGn_V_FRAMES
  { off := 0x38, reset := 0x0, fields := [(.rw, 0xFFFFFFFF)] },  -- INGn_V_INCOMPLETE_CNT
  { off := 0x3C, reset := 0x0, fields := [(.rw, 0xFFFFFFFF)] },  -- INGn_V_MALFORMED_CNT
  { off := 0x40, reset := 0x0, fields := [(.rw, 0xFFFFFFFF)] },  -- INGn_V_LATE_CNT
  { off := 0x44, reset := 0x0, fields := [(.rw, 0xFFFFFFFF)] },  -- INGn_V_EARLY_CNT
  { off := 0x48, reset := 0x0, fields := [(.rw, 0xFFFFFFFF)] },  -- INGn_V_TSMISS_CNT
  { off := 0x4C, reset := 0x0, fields := [(.rw, 0xFFFFFFFF)] },  -- INGn_V_PATHA_CNT
  { off := 0x50, reset := 0x0, fields := [(.rw, 0xFFFFFFFF)] },  -- INGn_V_PATHB_CNT
  { off := 0x54, reset := 0x0, fields := [(.rw, 0xFFFFFFFF)] },  -- INGn_V_DUP_CNT
  { off := 0x58, reset := 0x0 },  -- INGn_V_LAST_EPOCH
  { off := 0x100, reset := 0x20000, cfg := true, fields := [(.rwb, 0x7F0073)] },  -- INGn_A_CTRL
  { off := 0x104, reset := 0x240024, cfg := true, fields := [(.rwb, 0x3F003F)] },  -- INGn_A_PORT
  { off := 0x108, reset := 0x0, cfg := true, fields := [(.rwb, 0xFFFFFFFF)] },  -- INGn_A_DST_IP
  { off := 0x10C, reset := 0x0, cfg := true, fields := [(.rwb, 0xFFFFFFFF)] },  -- INGn_A_SRC_IP
  { off := 0x110, reset := 0x0, cfg := true, fields := [(.rwb, 0xFFFFFF)] },  -- INGn_A_UDP
  { off := 0x114, reset := 0x840100, cfg := true, fields := [(.rwb, 0xFF3F3F)] },  -- INGn_A_ENV_CFG
  { off := 0x118, reset := 0x0 }  -- INGn_A_ENV
  ]

def rowsIngestRxB : List RegRow := [
  { off := 0x11C, reset := 0x0 },  -- INGn_A_LAG_MIN
  { off := 0x120, reset := 0x0 },  -- INGn_A_LAG_MAX
  { off := 0x124, reset := 0x0, fields := [(.rw, 0xFFFFFFFF)] },  -- INGn_A_PKT_CNT
  { off := 0x128, reset := 0x0, fields := [(.rw, 0xFFFFFFFF)] },  -- INGn_A_GAP_CNT
  { off := 0x12C, reset := 0x0, fields := [(.rw, 0xFFFFFFFF)] }  -- INGn_A_MALFORMED_CNT
  ]

def rowsIngestRx : List RegRow := rowsIngestRxA ++ rowsIngestRxB

def rowsIngest : List RegRow := [
  { off := 0x8000, reset := 0x133, cfg := true, out := 0xF3, fields := [(.rwb, 0xFF3)] },  -- CANVAS_CTRL
  { off := 0x8004, reset := 0x4380780, cfg := true, out := 0xFFFFFFFF, fields := [(.rwb, 0x7FFF7FFF)] },  -- CANVAS_SIZE
  { off := 0x8008, reset := 0x0, cfg := true, out := 0xFFFFFFFF, fields := [(.rwb, 0xFFFF0000)] },  -- CANVAS_BASE_LO
  { off := 0x800C, reset := 0x0, cfg := true, out := 0xFFFFFFFF, fields := [(.rwb, 0x3)] },  -- CANVAS_BASE_HI
  { off := 0x8010, reset := 0x3C, cfg := true, out := 0xFFFFFFFF, fields := [(.rwb, 0x3FF)] },  -- CANVAS_LINE_STRIDE
  { off := 0x8014, reset := 0xFE, cfg := true, out := 0xFFFFFFFF, fields := [(.rwb, 0xFFFF)] },  -- CANVAS_SLOT_STRIDE
  { off := 0x8018, reset := 0x0, cfg := true, fields := [(.rwb, 0xFFFFFFFF)] },  -- CANVAS_FILL01
  { off := 0x801C, reset := 0x0, cfg := true, fields := [(.rwb, 0xFFFFFFFF)] },  -- CANVAS_FILL23
  { off := 0x8020, reset := 0x0, fields := [(.w1c, 0x1F)] },  -- INGEST_STATUS
  { off := 0x8024, reset := 0x0 },  -- INGEST_COMMIT_EPOCH
  { off := 0x8040, reset := 0x88888888, st := 0x4, n := 8 }  -- CANVAS_SRCs
  ]

def rowsRasterA : List RegRow := [
  { off := 0x0, reset := 0x0, cfg := true, fields := [(.rwb, 0xFF01)] },  -- RASTER_CTRL
  { off := 0x4, reset := 0x7800058, cfg := true, fields := [(.rwb, 0x7FFFFFFF)] },  -- RASTER_HTIM_A
  { off := 0x8, reset := 0x2C0094, cfg := true, fields := [(.rwb, 0xFFFFFFFF)] },  -- RASTER_HTIM_B
  { off := 0xC, reset := 0x4380004, cfg := true, fields := [(.rwb, 0x7FFFFFFF)] },  -- RASTER_VTIM_A
  { off := 0x10, reset := 0x50024, cfg := true, fields := [(.rwb, 0xFFFFFFFF)] },  -- RASTER_VTIM_B
  { off := 0x14, reset := 0x40000000, cfg := true, fields := [(.rwb, 0xFFFFFFFF)] },  -- RASTER_PIXRATE
  { off := 0x18, reset := 0x0, fields := [(.w1c, 0xFFF)] },  -- RASTER_STATUS
  { off := 0x1C, reset := 0x0, fields := [(.rw, 0xFFFFFFFF)] },  -- RASTER_UNDERRUN_CNT
  { off := 0x20, reset := 0x0, fields := [(.rw, 0xFFFFFFFF)] },  -- RASTER_HOLD_CYC
  { off := 0x24, reset := 0x0, fields := [(.rw, 0xFFFFFFFF)] },  -- RASTER_ABANDON_CNT
  { off := 0x28, reset := 0x0, fields := [(.rw, 0xFFFFFFFF)] },  -- RASTER_SHORT_CNT
  { off := 0x2C, reset := 0x0 },  -- RASTER_POS
  { off := 0x30, reset := 0x0 },  -- RASTER_ACTIVE_END
  { off := 0x100, reset := 0x34, st := 0x80, n := 2, cfg := true, fields := [(.rwb, 0x17137)] },  -- PVn_CTRL
  { off := 0x104, reset := 0x0, st := 0x80, n := 2, cfg := true, fields := [(.rwb, 0x7FFF7FFF)] },  -- PVn_VIEW
  { off := 0x108, reset := 0x7800058, st := 0x80, n := 2, cfg := true, fields := [(.rwb, 0x7FFFFFFF)] },  -- PVn_HTIM_A
  { off := 0x10C, reset := 0x2C0094, st := 0x80, n := 2, cfg := true, fields := [(.rwb, 0xFFFFFFFF)] },  -- PVn_HTIM_B
  { off := 0x110, reset := 0x4380004, st := 0x80, n := 2, cfg := true, fields := [(.rwb, 0x7FFFFFFF)] },  -- PVn_VTIM_A
  { off := 0x114, reset := 0x50024, st := 0x80, n := 2, cfg := true, fields := [(.rwb, 0xFFFFFFFF)] },  -- PVn_VTIM_B
  { off := 0x118, reset := 0x24414, st := 0x80, n := 2, cfg := true, fields := [(.rwb, 0xFFFFF)] },  -- PVn_PIXCLK
  { off := 0x11C, reset := 0x0, st := 0x80, n := 2 },  -- PVn_LINK
  { off := 0x120, reset := 0x0, st := 0x80, n := 2, fields := [(.rw, 0xFFFFFFFF)] },  -- PVn_UNDERRUN_CNT
  { off := 0x124, reset := 0x0, st := 0x80, n := 2, fields := [(.rw, 0xFFFFFF0F)] },  -- PVn_AUX_CMD
  { off := 0x128, reset := 0x0, st := 0x80, n := 2, st2 := 0x4, n2 := 4, fields := [(.rw, 0xFFFFFFFF)] },  -- PVn_AUX_DATAi
  { off := 0x1000, reset := 0x0, cfg := true, fields := [(.rwb, 0x1)] },  -- VER_CTRL
  { off := 0x1004, reset := 0x0, fields := [(.w1c, 0xFF)] },  -- VER_STATUS
  { off := 0x1008, reset := 0x0, cfg := true, fields := [(.rwb, 0xFFFFFFFF)] },  -- VER_WIN_LO
  { off := 0x100C, reset := 0x0, cfg := true, fields := [(.rwb, 0x3)] },  -- VER_WIN_HI
  { off := 0x1010, reset := 0x0, cfg := true, fields := [(.rwb, 0x1FFF)] },  -- VER_WIN_COUNT
  { off := 0x1014, reset := 0x7D0, cfg := true, fields := [(.rwb, 0xFFFF)] }  -- VER_WAIT
  ]

def rowsRasterB : List RegRow := [
  { off := 0x1018, reset := 0x0 },  -- VER_DONE_EPOCH
  { off := 0x101C, reset := 0x0 },  -- VER_EPOCH_RESULT
  { off := 0x1020, reset := 0x0, fields := [(.rw, 0xFFFFFFFF)] },  -- VER_MATCH_CNT
  { off := 0x1024, reset := 0x0, fields := [(.rw, 0xFFFFFFFF)] },  -- VER_MISMATCH_CNT
  { off := 0x1028, reset := 0x0, fields := [(.rw, 0xFFFFFFFF)] },  -- VER_MISSING_CNT
  { off := 0x102C, reset := 0x0, fields := [(.rw, 0xFFFFFFFF)] },  -- VER_KEPT_CNT
  { off := 0x1030, reset := 0x0, fields := [(.rw, 0xFFFFFFFF)] },  -- VER_STALE_CNT
  { off := 0x1034, reset := 0x0, fields := [(.rw, 0xFFFFFFFF)] },  -- VER_UNCOMPUTED_CNT
  { off := 0x1038, reset := 0x0, fields := [(.rw, 0xFFFFFFFF)] },  -- VER_FOREIGN_CNT
  { off := 0x103C, reset := 0x0 },  -- VER_LAST_WIN
  { off := 0x1040, reset := 0x0 },  -- VER_LAST_EPOCH
  { off := 0x1044, reset := 0x0 },  -- VER_LAST_EXP
  { off := 0x1048, reset := 0x0 },  -- VER_LAST_GOT
  { off := 0x1800, reset := 0x0, st := 0x4, n := 128, fields := [(.w1c, 0xFFFFFFFF)] },  -- VER_MISMATCHw
  { off := 0x1A00, reset := 0x0, st := 0x4, n := 128, fields := [(.w1c, 0xFFFFFFFF)] }  -- VER_MISSINGw
  ]

def rowsRaster : List RegRow := rowsRasterA ++ rowsRasterB

def rowsCalib : List RegRow := [
  { off := 0x0, reset := 0x1, cfg := true, fields := [(.rwb, 0x1)] },  -- CALIB_CTRL
  { off := 0x4, reset := 0x0, fields := [(.w1c, 0xFFF)] },  -- CALIB_STATUS
  { off := 0x8, reset := 0x0, cfg := true, out := 0xFFFFFFFF, fields := [(.rwb, 0xFFFF0000)] },  -- CALIB_BANKA_LO
  { off := 0xC, reset := 0x0, cfg := true, out := 0xFFFFFFFF, fields := [(.rwb, 0x3)] },  -- CALIB_BANKA_HI
  { off := 0x10, reset := 0x0, cfg := true, out := 0xFFFFFFFF, fields := [(.rwb, 0xFFFF0000)] },  -- CALIB_BANKB_LO
  { off := 0x14, reset := 0x0, cfg := true, out := 0xFFFFFFFF, fields := [(.rwb, 0x3)] },  -- CALIB_BANKB_HI
  { off := 0x18, reset := 0x205, cfg := true, out := 0xFFFFFFFF, fields := [(.rwb, 0x3FFF)] },  -- CALIB_BANK_SIZE
  { off := 0x1C, reset := 0x0 },  -- CALIB_LIVE
  { off := 0x20, reset := 0x0 },  -- CALIB_LIVE_GEN
  { off := 0x24, reset := 0x0 },  -- CALIB_CMD
  { off := 0x28, reset := 0x0, fields := [(.rw, 0xFFFFFFFF)] },  -- CALIB_COMMIT_EPOCH
  { off := 0x2C, reset := 0x0 },  -- CALIB_CMD_STAT
  { off := 0x30, reset := 0xF0, cfg := true, fields := [(.rwb, 0xFFFF)] },  -- CALIB_TC_AGE
  { off := 0x34, reset := 0x0, fields := [(.rw, 0xFFFFFFFF)] },  -- CALIB_MISS_CNT
  { off := 0x38, reset := 0x0, fields := [(.rw, 0xFFFFFFFF)] },  -- CALIB_PASS_CNT
  { off := 0x3C, reset := 0x0, fields := [(.rw, 0xFFFFFFFF)] },  -- CALIB_PROT_CNT
  { off := 0x40, reset := 0x0, fields := [(.rw, 0xFFFFFFFF)] },  -- CALIB_TEMP_STALE_CNT
  { off := 0x44, reset := 0x0, fields := [(.rw, 0xFFFFFFFF)] },  -- CALIB_COMMIT_CNT
  { off := 0x48, reset := 0x0, fields := [(.rw, 0xFF)] },  -- CALIB_ZSEL
  { off := 0x4C, reset := 0x0 },  -- CALIB_ZSUM_LO
  { off := 0x50, reset := 0x0 },  -- CALIB_ZSUM_HI
  { off := 0x54, reset := 0x0, fields := [(.rw, 0x7FFF)] },  -- CALIB_TSEL
  { off := 0x58, reset := 0x0 },  -- CALIB_TEMP
  { off := 0x5C, reset := 0x40004000 },  -- CALIB_TGAIN01
  { off := 0x60, reset := 0xFFFF4000 },  -- CALIB_TGAIN2
  { off := 0x80, reset := 0x0, cfg := true, fields := [(.rwb, 0xF)] },  -- CALIB_SC_CTRL
  { off := 0x84, reset := 0x0 },  -- CALIB_SC_PEND
  { off := 0x400, reset := 0x10000, st := 0x4, n := 256, fields := [(.rw, 0x1FFFF)] },  -- CALIB_SAFE_INz
  { off := 0x800, reset := 0x10000, st := 0x4, n := 256 },  -- CALIB_PGAINz
  { off := 0xC00, reset := 0x10000, st := 0x4, n := 256 }  -- CALIB_SGAINz
  ]

def rowsPlan : List RegRow := [
  { off := 0x0, reset := 0x0, cfg := true, fields := [(.rwb, 0x3)] },  -- PLAN_CTRL
  { off := 0x4, reset := 0x0, fields := [(.w1c, 0x7FF)] },  -- PLAN_STATUS
  { off := 0x8, reset := 0x78, cfg := true, fields := [(.rwb, 0xFFFF)] },  -- PLAN_SNIFF_EVERY
  { off := 0xC, reset := 0x2EE, cfg := true, fields := [(.rwb, 0xFFFF)] },  -- PLAN_DET_MIN
  { off := 0x10, reset := 0x1C20, cfg := true, fields := [(.rwb, 0xFFFFFFFF)] },  -- PLAN_DIAG_MAXAGE
  { off := 0x14, reset := 0x0, cfg := true, out := 0xFFFFFFFF, fields := [(.rwb, 0xFFFFFFC0)] },  -- PLAN_LEDTAB_LO
  { off := 0x18, reset := 0x0, cfg := true, out := 0xFFFFFFFF, fields := [(.rwb, 0x3)] },  -- PLAN_LEDTAB_HI
  { off := 0x1C, reset := 0x0, cfg := true, out := 0xFFFFFFFF, fields := [(.rwb, 0xFFFFFFC0)] },  -- PLAN_MASK_LO
  { off := 0x20, reset := 0x0, cfg := true, out := 0xFFFFFFFF, fields := [(.rwb, 0x3)] },  -- PLAN_MASK_HI
  { off := 0x24, reset := 0x0, cfg := true, out := 0xFFFFFFFF, fields := [(.rwb, 0x3FFFFFF)] },  -- PLAN_LED_COUNT
  { off := 0x28, reset := 0x0 },  -- PLAN_DIAG_CMD
  { off := 0x2C, reset := 0x0 },  -- PLAN_DIAG_STAT
  { off := 0x30, reset := 0x0 },  -- PLAN_LAYOUT_ERR
  { off := 0x34, reset := 0x0, fields := [(.rw, 0xFF0F)] },  -- PLAN_TSUB_SEL
  { off := 0x38, reset := 0x0 },  -- PLAN_TSUB
  { off := 0x3C, reset := 0x0 },  -- PLAN_TSUB_LIMIT
  { off := 0x40, reset := 0x0, fields := [(.rw, 0xFFFFFFFF)] },  -- PLAN_PARTIAL_CNT
  { off := 0x44, reset := 0x0, fields := [(.rw, 0xFFFFFFFF)] },  -- PLAN_NOTILE_CNT
  { off := 0x48, reset := 0x0, fields := [(.rw, 0xFFFFFFFF)] },  -- PLAN_OVERSIZE_CNT
  { off := 0x4C, reset := 0x0, fields := [(.rw, 0xFFFFFFFF)] },  -- PLAN_CLAMP_CNT
  { off := 0x50, reset := 0x0, fields := [(.rw, 0xFFFFFFFF)] },  -- PLAN_FIT_CNT
  { off := 0x54, reset := 0x0, fields := [(.rw, 0xFFFFFFFF)] },  -- PLAN_REPORT_CNT
  { off := 0x58, reset := 0x0, fields := [(.rw, 0xFFFFFFFF)] },  -- PLAN_REPORT_DROP_CNT
  { off := 0x5C, reset := 0x0, fields := [(.rw, 0xFFFFFFFF)] },  -- PLAN_AGED_CNT
  { off := 0x60, reset := 0x0 },  -- PLAN_LED_FAULT
  { off := 0x64, reset := 0x0 },  -- PLAN_LED_UNMEAS
  { off := 0x68, reset := 0x0 }  -- PLAN_LAST_FAULT_IDX
  ]

def rowsVoconA : List RegRow := [
  { off := 0x0, reset := 0x20, cfg := true, out := 0x2, fields := [(.rwb, 0x3F)] },  -- VCN_CTRL
  { off := 0x4, reset := 0x0, fields := [(.w1c, 0xFFFF)] },  -- VCN_STATUS
  { off := 0x8, reset := 0x88B5, cfg := true, fields := [(.rwb, 0xFFFF)] },  -- VCN_ETHERTYPE
  { off := 0xC, reset := 0x750000, cfg := true, fields := [(.rwb, 0x770FFF)] },  -- VCN_VLAN
  { off := 0x10, reset := 0x8000, cfg := true, fields := [(.rwb, 0xFFFF)] },  -- VCN_DEV_ID
  { off := 0x14, reset := 0x0, cfg := true, fields := [(.rwb, 0xFFFFFFFF)] },  -- VCN_PORTS
  { off := 0x18, reset := 0x2300, cfg := true, fields := [(.rwb, 0x3FFF)] },  -- VCN_FRAG_MAX
  { off := 0x1C, reset := 0x1F4, cfg := true, fields := [(.rwb, 0xFFFFF)] },  -- VCN_PLAN_GUARD
  { off := 0x20, reset := 0x40, cfg := true, fields := [(.rwb, 0xFFFF)] },  -- VCN_RESEND_MAX
  { off := 0x24, reset := 0x0, cfg := true, out := 0xFFFFFFFF, fields := [(.rwb, 0xFFFF0000)] },  -- VCN_ROUTE_LO
  { off := 0x28, reset := 0x0, cfg := true, out := 0xFFFFFFFF, fields := [(.rwb, 0x3)] },  -- VCN_ROUTE_HI
  { off := 0x2C, reset := 0x0, cfg := true, out := 0xFFFFFFFF, fields := [(.rwb, 0xFFFF0000)] },  -- VCN_STAGE_LO
  { off := 0x30, reset := 0x0, cfg := true, out := 0xFFFFFFFF, fields := [(.rwb, 0x3)] },  -- VCN_STAGE_HI
  { off := 0x34, reset := 0x100, cfg := true, out := 0xFFFFFFFF, fields := [(.rwb, 0x3FFF)] },  -- VCN_STAGE_HALF
  { off := 0x38, reset := 0x0, cfg := true, fields := [(.rwb, 0xFFFFFFFF)] },  -- VCN_SRC_IP
  { off := 0x3C, reset := 0x2E22B838, cfg := true, fields := [(.rwb, 0x3F3FFFFF)] },  -- VCN_UDP
  { off := 0x40, reset := 0xEFFF5643, cfg := true, fields := [(.rwb, 0xFFFFFFFF)] },  -- VCN_GROUP_IP
  { off := 0x44, reset := 0x10, cfg := true, fields := [(.rwb, 0xFF)] },  -- VCN_TTL
  { off := 0x48, reset := 0x0, cfg := true, fields := [(.rwb, 0x3F)] },  -- VCN_AUTH_SLOT
  { off := 0x4C, reset := 0x0 },  -- VCN_KEY_EPOCH0
  { off := 0x50, reset := 0x0, cfg := true, out := 0xFFFFFFFF, fields := [(.rwb, 0xFFFF0000)] },  -- VCN_LOG_LO
  { off := 0x54, reset := 0x0, cfg := true, out := 0xFFFFFFFF, fields := [(.rwb, 0x3)] },  -- VCN_LOG_HI
  { off := 0x58, reset := 0x0 },  -- VCN_LOG_HEAD
  { off := 0x5C, reset := 0x0, fields := [(.rw, 0xFFF)] },  -- VCN_LOG_TAIL
  { off := 0x60, reset := 0xA, cfg := true, fields := [(.rwb, 0xFFF)] },  -- VCN_HELLO_PERIOD
  { off := 0x64, reset := 0x4B0, cfg := true, fields := [(.rwb, 0xFFFFFFFF)] },  -- VCN_CONFLICT_HOLD
  { off := 0x68, reset := 0x0 },  -- VCN_KEY_STATE
  { off := 0x80, reset := 0x0, fields := [(.rw, 0xFFFFFFFF)] },  -- VCN_TX_FRAG_CNT
  { off := 0x84, reset := 0x0, fields := [(.rw, 0xFFFFFFFF)] },  -- VCN_TX_RESEND_CNT
  { off := 0x88, reset := 0x0, fields := [(.rw, 0xFFFFFFFF)] }  -- VCN_RESEND_DENIED_CNT
  ]

def rowsVoconB : List RegRow := [
  { off := 0x8C, reset := 0x0, fields := [(.rw, 0xFFFFFFFF)] },  -- VCN_PLAN_UNSENT_CNT
  { off := 0x90, reset := 0x0, fields := [(.rw, 0xFFFFFFFF)] },  -- VCN_VOID_CNT
  { off := 0x94, reset := 0x0, fields := [(.rw, 0xFFFFFFFF)] },  -- VCN_SINK_BAD_CNT
  { off := 0x98, reset := 0x0, fields := [(.rw, 0xFFFFFFFF)] },  -- VCN_SINK_DUP_CNT
  { off := 0x9C, reset := 0x0, fields := [(.rw, 0xFFFFFFFF)] },  -- VCN_ROUTE_ERR_CNT
  { off := 0xA0, reset := 0x0, fields := [(.rw, 0xFFFFFFFF)] },  -- VCN_RX_ECHO_CNT
  { off := 0xA4, reset := 0x0, fields := [(.rw, 0xFFFFFFFF)] },  -- VCN_RX_MALFORMED_CNT
  { off := 0xA8, reset := 0x0, fields := [(.rw, 0xFFFFFFFF)] },  -- VCN_RX_CRC_CNT
  { off := 0xAC, reset := 0x0, fields := [(.rw, 0xFFFFFFFF)] },  -- VCN_RX_AUTH_CNT
  { off := 0xB0, reset := 0x0, fields := [(.rw, 0xFFFFFFFF)] },  -- VCN_RX_UNKNOWN_CNT
  { off := 0xB4, reset := 0x0, fields := [(.rw, 0xFFFFFFFF)] },  -- VCN_ID_CONFLICT_CNT
  { off := 0xB8, reset := 0x0, fields := [(.rw, 0xFFFFFFFF)] }  -- VCN_PORT_MOVED_CNT
  ]

def rowsVocon : List RegRow := rowsVoconA ++ rowsVoconB

def rowsHeel : List RegRow := [
  { off := 0x0, reset := 0x0, cfg := true, fields := [(.rwb, 0x1)] },  -- HEEL_CTRL
  { off := 0x4, reset := 0x0, fields := [(.w1c, 0x3F)] },  -- HEEL_STATUS
  { off := 0x8, reset := 0x0, cfg := true, fields := [(.rwb, 0x1FFFFFF)] },  -- HEEL_LATCH_OFFSET
  { off := 0xC, reset := 0x64, cfg := true, fields := [(.rwb, 0xFFFF)] },  -- HEEL_LEAD
  { off := 0x10, reset := 0x14, cfg := true, fields := [(.rwb, 0xFFF)] },  -- HEEL_GAP
  { off := 0x14, reset := 0x0 },  -- HEEL_EPOCH
  { off := 0x18, reset := 0x0 },  -- HEEL_T_NS
  { off := 0x1C, reset := 0x0 },  -- HEEL_T_SEC_LO
  { off := 0x20, reset := 0x0 },  -- HEEL_T_SEC_HI
  { off := 0x24, reset := 0x0 },  -- HEEL_FLAGS
  { off := 0x28, reset := 0x0, fields := [(.rw, 0xFFFFFFFF)] },  -- HEEL_SENT_CNT
  { off := 0x2C, reset := 0x0, fields := [(.rw, 0xFFFFFFFF)] },  -- HEEL_COPY_CNT
  { off := 0x30, reset := 0x0, fields := [(.rw, 0xFFFFFFFF)] },  -- HEEL_MISSED_CNT
  { off := 0x34, reset := 0x0, fields := [(.rw, 0xFFFFFFFF)] },  -- HEEL_SKIP_CNT
  { off := 0x38, reset := 0x0, fields := [(.rw, 0xFFFFFFFF)] }  -- HEEL_VOID_CNT
  ]

def rowsFixtureA : List RegRow := [
  { off := 0x0, reset := 0x0, cfg := true, fields := [(.rwb, 0x7)] },  -- FIX_CTRL
  { off := 0x4, reset := 0x0, fields := [(.w1c, 0x3FFF)] },  -- FIX_STATUS
  { off := 0x8, reset := 0x0, cfg := true, out := 0xFFFFFFFF, fields := [(.rwb, 0xFFFF0000)] },  -- FIX_EPT_LO
  { off := 0xC, reset := 0x0, cfg := true, out := 0xFFFFFFFF, fields := [(.rwb, 0x3)] },  -- FIX_EPT_HI
  { off := 0x10, reset := 0x0, cfg := true, out := 0xFFFFFFFF, fields := [(.rwb, 0xFFFF0000)] },  -- FIX_OUT_LO
  { off := 0x14, reset := 0x0, cfg := true, out := 0xFFFFFFFF, fields := [(.rwb, 0x3)] },  -- FIX_OUT_HI
  { off := 0x18, reset := 0x0, cfg := true, out := 0xFFFFFFFF, fields := [(.rwb, 0x1FFFF)] },  -- FIX_OUT_COUNT
  { off := 0x1C, reset := 0x0, cfg := true, out := 0xFFFFFFFF, fields := [(.rwb, 0xFFFF0000)] },  -- FIX_IN_LO
  { off := 0x20, reset := 0x0, cfg := true, out := 0xFFFFFFFF, fields := [(.rwb, 0x3)] },  -- FIX_IN_HI
  { off := 0x24, reset := 0x0, cfg := true, out := 0xFFFFFFFF, fields := [(.rwb, 0x1FFF)] },  -- FIX_IN_COUNT
  { off := 0x28, reset := 0x0, cfg := true, out := 0xFFFFFFFF, fields := [(.rwb, 0xFFFF0000)] },  -- FIX_SLOT_LO
  { off := 0x2C, reset := 0x0, cfg := true, out := 0xFFFFFFFF, fields := [(.rwb, 0x3)] },  -- FIX_SLOT_HI
  { off := 0x30, reset := 0x0, cfg := true, out := 0xFFFFFFFF, fields := [(.rwb, 0xFFFF0000)] },  -- FIX_RDM_LO
  { off := 0x34, reset := 0x0, cfg := true, out := 0xFFFFFFFF, fields := [(.rwb, 0x3)] },  -- FIX_RDM_HI
  { off := 0x38, reset := 0x0, cfg := true, fields := [(.rwb, 0x1FFFF)] },  -- FIX_SYNC
  { off := 0x3C, reset := 0x0, cfg := true, fields := [(.rwb, 0xFFFFFFFF)] },  -- FIX_SYNC_ADJ
  { off := 0x40, reset := 0x64, cfg := true, fields := [(.rwb, 0xFFFF)] },  -- FIX_SACN_GUARD
  { off := 0x44, reset := 0x0, cfg := true, fields := [(.rwb, 0xFFFFFFFF)] },  -- FIX_IN_PORTS_LO
  { off := 0x48, reset := 0x0, cfg := true, fields := [(.rwb, 0xF)] },  -- FIX_IN_PORTS_HI
  { off := 0x4C, reset := 0x0, cfg := true, fields := [(.rwb, 0xFFFFFFFF)] },  -- FIX_SRC_IP
  { off := 0x50, reset := 0x258, cfg := true, fields := [(.rwb, 0xFFFFFFFF)] },  -- FIX_EPT_SILENT
  { off := 0x54, reset := 0x0, fields := [(.rw, 0xFFFFFF)] },  -- FIX_OVR_ADDR
  { off := 0x58, reset := 0x0 },  -- FIX_OVR_DATA
  { off := 0x5C, reset := 0x0, fields := [(.w1s, 0xFFFFFFFF)] },  -- FIX_RDM_GO_LO
  { off := 0x60, reset := 0x0, fields := [(.w1s, 0xFFFFFFFF)] },  -- FIX_RDM_GO_HI
  { off := 0x64, reset := 0x0, fields := [(.w1c, 0xFFFFFFFF)] },  -- FIX_RDM_DONE_LO
  { off := 0x68, reset := 0x0, fields := [(.w1c, 0xFFFFFFFF)] },  -- FIX_RDM_DONE_HI
  { off := 0x80, reset := 0x0, fields := [(.rw, 0xFFFFFFFF)] },  -- FIX_SACN_TX_CNT
  { off := 0x84, reset := 0x0, fields := [(.rw, 0xFFFFFFFF)] },  -- FIX_SACN_LATE_CNT
  { off := 0x88, reset := 0x0, fields := [(.rw, 0xFFFFFFFF)] }  -- FIX_SYNC_TX_CNT
  ]

def rowsFixtureB : List RegRow := [
  { off := 0x8C, reset := 0x0, fields := [(.rw, 0xFFFFFFFF)] },  -- FIX_SINK_BAD_CNT
  { off := 0x90, reset := 0x0, fields := [(.rw, 0xFFFFFFFF)] },  -- FIX_GRAPH_MISS_CNT
  { off := 0x94, reset := 0x0, fields := [(.rw, 0xFFFFFFFF)] },  -- FIX_IN_RX_CNT
  { off := 0x98, reset := 0x0, fields := [(.rw, 0xFFFFFFFF)] },  -- FIX_IN_BAD_CNT
  { off := 0x9C, reset := 0x0, fields := [(.rw, 0xFFFFFFFF)] },  -- FIX_IN_SEQ_CNT
  { off := 0xA0, reset := 0x0, fields := [(.rw, 0xFFFFFFFF)] },  -- FIX_IN_FULL_CNT
  { off := 0xA4, reset := 0x0, fields := [(.rw, 0xFFFFFFFF)] },  -- FIX_OVR_DROP_CNT
  { off := 0xA8, reset := 0x0, fields := [(.rw, 0xFFFFFFFF)] },  -- FIX_DMX_OWNER_CNT
  { off := 0xAC, reset := 0x0, fields := [(.rw, 0xFFFFFFFF)] },  -- FIX_EPT_SILENT_CNT
  { off := 0x100, reset := 0x0, st := 0x4, n := 4, cfg := true, fields := [(.rwb, 0xFFFFFFFF)] },  -- FIX_CIDw
  { off := 0x110, reset := 0x0, st := 0x4, n := 16, cfg := true, fields := [(.rwb, 0xFFFFFFFF)] },  -- FIX_NAMEw
  { off := 0x400, reset := 0x0, st := 0x10, n := 64, cfg := true, fields := [(.rwb, 0xE1FF7FFF)] },  -- FIX_DMXp_CFG
  { off := 0x404, reset := 0xB00C000, st := 0x10, n := 64, cfg := true, fields := [(.rwb, 0xFFFFFFFF)] },  -- FIX_DMXp_TIM
  { off := 0x408, reset := 0x0, st := 0x10, n := 64, fields := [(.rw, 0xFFFFFFFF)] },  -- FIX_DMXp_PKT_CNT
  { off := 0x40C, reset := 0x0, st := 0x10, n := 64, fields := [(.rw, 0xFFFFFFFF)] }  -- FIX_DMXp_ERR_CNT
  ]

def rowsFixture : List RegRow := rowsFixtureA ++ rowsFixtureB

def rowsMacA : List RegRow := [
  { off := 0x0, reset := 0x426, cfg := true, out := 0x770, fields := [(.rwb, 0x177F)] },  -- MACn_CTRL
  { off := 0x4, reset := 0x0, fields := [(.w1c, 0x1FFFF)] },  -- MACn_STATUS
  { off := 0x8, reset := 0x0 },  -- MACn_LINK
  { off := 0xC, reset := 0x0, cfg := true, fields := [(.rwb, 0xFFFFFFFF)] },  -- MACn_ADDR_LO
  { off := 0x10, reset := 0x0, cfg := true, fields := [(.rwb, 0xFFFF)] },  -- MACn_ADDR_HI
  { off := 0x14, reset := 0x2400, cfg := true, fields := [(.rwb, 0x3FFF)] },  -- MACn_MAX_FRAME
  { off := 0x18, reset := 0x0, st := 0x4, n := 8, cfg := true, fields := [(.rwb, 0xFFFFFFFF)] },  -- MACn_MCAST_HASHh
  { off := 0x40, reset := 0x1, fields := [(.rw, 0x7)] },  -- MACn_TX_THRESH
  { off := 0x44, reset := 0xFFFF0000, cfg := true, fields := [(.rwb, 0xFFFFFF07)] },  -- MACn_FC_CTRL
  { off := 0x48, reset := 0xC00080, cfg := true, fields := [(.rwb, 0xFFFFFFFF)] },  -- MACn_FC_THRESH
  { off := 0x4C, reset := 0x0 },  -- MACn_FC_STATE
  { off := 0x50, reset := 0x7D0, cfg := true, fields := [(.rwb, 0xFFFFF)] },  -- MACn_LEASH_LIMIT
  { off := 0x54, reset := 0x2710, cfg := true, fields := [(.rwb, 0xFFFFF)] },  -- MACn_LEASH_HOLD
  { off := 0x58, reset := 0x0, fields := [(.rw, 0xFFFFFFFF)] },  -- MACn_LEASH_CNT
  { off := 0x5C, reset := 0x0, fields := [(.rw, 0xFFFFFFFF)] },  -- MACn_LEASH_IGN_CNT
  { off := 0x60, reset := 0x0, fields := [(.rw, 0xFFFFFFFF)] },  -- MACn_TX_LINK_DROP
  { off := 0x80, reset := 0xA800000, cfg := true, fields := [(.rwb, 0x7F7F0303)] },  -- MACn_PREEMPT
  { off := 0x84, reset := 0x0 },  -- MACn_PREEMPT_STAT
  { off := 0xC0, reset := 0x0, cfg := true, fields := [(.rwb, 0x3)] },  -- MACn_LP
  { off := 0xC4, reset := 0x3C050132, cfg := true, fields := [(.rwb, 0xFFFFFFFF)] },  -- MACn_DS_CFG
  { off := 0x100, reset := 0x3000, cfg := true, fields := [(.rwb, 0x3F3F3F)] },  -- MACn_TXEQ
  { off := 0x104, reset := 0x0, fields := [(.rw, 0x3F3FFF)] },  -- MACn_RXEQ0
  { off := 0x108, reset := 0x0, fields := [(.rw, 0x3F3F3F3F)] },  -- MACn_RXEQ1
  { off := 0x400, reset := 0x0, st := 0x4, n := 64, fields := [(.rc, 0xFFFFFFFF)] },  -- MACn_STATk
  { off := 0x500, reset := 0x0, fields := [(.w1c, 0xFFFFFFFF)] },  -- MACn_STAT_HALF_LO
  { off := 0x504, reset := 0x0, fields := [(.w1c, 0xFFFFFFFF)] },  -- MACn_STAT_HALF_HI
  { off := 0x508, reset := 0x0, fields := [(.w1c, 0xFFFFFFFF)] },  -- MACn_STAT_WRAP_LO
  { off := 0x50C, reset := 0x0, fields := [(.w1c, 0xFFFFFFFF)] },  -- MACn_STAT_WRAP_HI
  { off := 0x800, reset := 0xE6, cfg := true, fields := [(.rwb, 0x3FF)] },  -- MACn_MS_CTRL
  { off := 0x804, reset := 0x0, cfg := true, fields := [(.rwb, 0xFFFFFFFF)] }  -- MACn_MS_REPLAY_WIN
  ]

def rowsMacB : List RegRow := [
  { off := 0x808, reset := 0x0, cfg := true, fields := [(.rwb, 0xFFFFFFFF)] },  -- MACn_MS_SCI_HI
  { off := 0x80C, reset := 0x0, cfg := true, fields := [(.rwb, 0xFFFFFFFF)] },  -- MACn_MS_SCI_LO
  { off := 0x810, reset := 0xC0000000, cfg := true, fields := [(.rwb, 0xFFFFFFFF)] },  -- MACn_MS_PN_THRESH
  { off := 0x820, reset := 0x0, st := 0x10, n := 4, fields := [(.rw, 0x3F01)] },  -- MACn_TXSAa_CTRL
  { off := 0x824, reset := 0x1, st := 0x10, n := 4, fields := [(.rw, 0xFFFFFFFF)] },  -- MACn_TXSAa_NEXT_PN
  { off := 0x900, reset := 0x0, st := 0x40, n := 8, fields := [(.rw, 0xFFFFFFFF)] },  -- MACn_RXSCc_SCI_HI
  { off := 0x904, reset := 0x0, st := 0x40, n := 8, fields := [(.rw, 0xFFFFFFFF)] },  -- MACn_RXSCc_SCI_LO
  { off := 0x908, reset := 0x0, st := 0x40, n := 8, fields := [(.rw, 0x1)] },  -- MACn_RXSCc_CTRL
  { off := 0x910, reset := 0x0, st := 0x40, n := 8, st2 := 0x8, n2 := 4, fields := [(.rw, 0x3F01)] },  -- MACn_RXSCc_SAa_CTRL
  { off := 0x914, reset := 0x1, st := 0x40, n := 8, st2 := 0x8, n2 := 4, fields := [(.rw, 0xFFFFFFFF)] }  -- MACn_RXSCc_SAa_NEXT_PN
  ]

def rowsMac : List RegRow := rowsMacA ++ rowsMacB

def rowsUart : List RegRow := [
  { off := 0x0, reset := 0x0, cfg := true, fields := [(.rw, 0x311F1), (.w1s, 0x6)] },  -- UARTn_CTRL
  { off := 0x4, reset := 0x20103, cfg := true, fields := [(.rw, 0x70177)] },  -- UARTn_FMT
  { off := 0x8, reset := 0x27100, cfg := true, fields := [(.rw, 0xFFFFFFF)] },  -- UARTn_BAUD
  { off := 0xC, reset := 0x40004, cfg := true, fields := [(.rw, 0xFFFFFFFF)] },  -- UARTn_DE
  { off := 0x10, reset := 0x42080, cfg := true, fields := [(.rw, 0xFFFFFF)] },  -- UARTn_FIFO_CTRL
  { off := 0x14, reset := 0x10000 },  -- UARTn_DATA
  { off := 0x18, reset := 0x500 },  -- UARTn_LSR
  { off := 0x1C, reset := 0x0, fields := [(.w1c, 0x7F)] },  -- UARTn_STATUS
  { off := 0x20, reset := 0x0 },  -- UARTn_LEVEL
  { off := 0x24, reset := 0xF4240, cfg := true, fields := [(.rw, 0xFFFFFF)] },  -- UARTn_BRK_MAX
  { off := 0x28, reset := 0x0 },  -- UARTn_BRK_LEN
  { off := 0x2C, reset := 0x0, fields := [(.rw, 0x3F)] },  -- UARTn_RXTRIM
  { off := 0x30, reset := 0xC005C, cfg := true, fields := [(.rw, 0xFFFFFFFF)] },  -- UARTn_TXBRK
  { off := 0x40, reset := 0x0, fields := [(.rw, 0xFFFFFFFF)] },  -- UARTn_RX_CNT
  { off := 0x44, reset := 0x0, fields := [(.rw, 0xFFFFFFFF)] },  -- UARTn_FE_CNT
  { off := 0x48, reset := 0x0, fields := [(.rw, 0xFFFFFFFF)] },  -- UARTn_PE_CNT
  { off := 0x4C, reset := 0x0, fields := [(.rw, 0xFFFFFFFF)] },  -- UARTn_OVR_CNT
  { off := 0x50, reset := 0x0, fields := [(.rw, 0xFFFFFFFF)] },  -- UARTn_NOISE_CNT
  { off := 0x54, reset := 0x0, fields := [(.rw, 0xFFFFFFFF)] },  -- UARTn_BRK_CNT
  { off := 0x58, reset := 0x0, fields := [(.rw, 0xFFFFFFFF)] },  -- UARTn_FSTART_CNT
  { off := 0x5C, reset := 0x0, fields := [(.rw, 0xFFFFFFFF)] }  -- UARTn_TX_CNT
  ]

def rowsHubA : List RegRow := [
  { off := 0x0, reset := 0x0, cfg := true, fields := [(.rwb, 0x11)] },  -- HUB_CTRL
  { off := 0x4, reset := 0x0, fields := [(.w1c, 0x3FFF)] },  -- HUB_STATUS
  { off := 0x8, reset := 0x0 },  -- HUB_BUSY
  { off := 0xC, reset := 0x0, cfg := true, fields := [(.rwb, 0xFFFFFFC0)] },  -- HUB_RULE_LO
  { off := 0x10, reset := 0x0, cfg := true, fields := [(.rwb, 0x3)] },  -- HUB_RULE_HI
  { off := 0x14, reset := 0x0, cfg := true, fields := [(.rwb, 0x7FF)] },  -- HUB_RULE_COUNT
  { off := 0x18, reset := 0x0, cfg := true, fields := [(.rwb, 0xFFFFFFC0)] },  -- HUB_COMP_LO
  { off := 0x1C, reset := 0x0, cfg := true, fields := [(.rwb, 0x3)] },  -- HUB_COMP_HI
  { off := 0x20, reset := 0x0, cfg := true, fields := [(.rwb, 0x7F)] },  -- HUB_COMP_COUNT
  { off := 0x24, reset := 0x0, cfg := true, out := 0xFFFFFFFF, fields := [(.rwb, 0xFFFFFFC0)] },  -- HUB_STORE_LO
  { off := 0x28, reset := 0x0, cfg := true, out := 0xFFFFFFFF, fields := [(.rwb, 0x3)] },  -- HUB_STORE_HI
  { off := 0x2C, reset := 0x0, cfg := true, out := 0xFFFFFFFF, fields := [(.rwb, 0xFFFFFFC0)] },  -- HUB_LOG_LO
  { off := 0x30, reset := 0x0, cfg := true, out := 0xFFFFFFFF, fields := [(.rwb, 0x3)] },  -- HUB_LOG_HI
  { off := 0x34, reset := 0x0 },  -- HUB_LOG_HEAD
  { off := 0x38, reset := 0x0, fields := [(.rw, 0xFFF)] },  -- HUB_LOG_TAIL
  { off := 0x3C, reset := 0x0, cfg := true, fields := [(.rwb, 0xFFFFFFFF)] },  -- HUB_450_SRC_IP
  { off := 0x40, reset := 0x0 },  -- HUB_RULE_ERR
  { off := 0x80, reset := 0x0, fields := [(.rw, 0xFFFFFFFF)] },  -- HUB_RX_CNT
  { off := 0x84, reset := 0x0, fields := [(.rw, 0xFFFFFFFF)] },  -- HUB_ERRCHAR_CNT
  { off := 0x88, reset := 0x0, fields := [(.rw, 0xFFFFFFFF)] },  -- HUB_MALFORMED_CNT
  { off := 0x8C, reset := 0x0, fields := [(.rw, 0xFFFFFFFF)] },  -- HUB_CKSUM_CNT
  { off := 0x90, reset := 0x0, fields := [(.rw, 0xFFFFFFFF)] },  -- HUB_OVERLEN_CNT
  { off := 0x94, reset := 0x0, fields := [(.rw, 0xFFFFFFFF)] },  -- HUB_LONG_CNT
  { off := 0x98, reset := 0x0, fields := [(.rw, 0xFFFFFFFF)] },  -- HUB_NOMATCH_CNT
  { off := 0x9C, reset := 0x0, fields := [(.rw, 0xFFFFFFFF)] },  -- HUB_SEL_REJ_CNT
  { off := 0xA0, reset := 0x0, fields := [(.rw, 0xFFFFFFFF)] },  -- HUB_RATE_CNT
  { off := 0xA4, reset := 0x0, fields := [(.rw, 0xFFFFFFFF)] },  -- HUB_OWNER_CNT
  { off := 0xA8, reset := 0x0, fields := [(.rw, 0xFFFFFFFF)] },  -- HUB_TXQ_DROP_CNT
  { off := 0xAC, reset := 0x0, fields := [(.rw, 0xFFFFFFFF)] },  -- HUB_450_TX_CNT
  { off := 0xB0, reset := 0x0, fields := [(.rw, 0xFFFFFFFF)] }  -- HUB_COMP_TX_CNT
  ]

def rowsHubB : List RegRow := [
  { off := 0x100, reset := 0x5200, st := 0x4, n := 64, cfg := true, fields := [(.rwb, 0xFF01)] },  -- HUB_PORTn_CFG
  { off := 0x200, reset := 0x2001EA61, st := 0x10, n := 8, cfg := true, fields := [(.rwb, 0xBFFFFFFF)] },  -- HUB_GRPg_CTRL
  { off := 0x204, reset := 0xEFC00001, st := 0x10, n := 8, cfg := true, fields := [(.rwb, 0xFFFFFFFF)] },  -- HUB_GRPg_IP
  { off := 0x208, reset := 0x4B5A3030, st := 0x10, n := 8, cfg := true, fields := [(.rwb, 0xFFFFFFFF)] },  -- HUB_GRPg_SFI_HI
  { off := 0x20C, reset := 0x30310000, st := 0x10, n := 8, cfg := true, fields := [(.rwb, 0xFFFF0000)] },  -- HUB_GRPg_SFI_LO
  { off := 0x400, reset := 0xBB8, st := 0x8, n := 64, cfg := true, fields := [(.rwb, 0xFFFF)] },  -- HUB_SELs_TMO
  { off := 0x404, reset := 0x0, st := 0x8, n := 64 }  -- HUB_SELs_STATE
  ]

def rowsHub : List RegRow := rowsHubA ++ rowsHubB

def rowsSigmap : List RegRow := [
  { off := 0x0, reset := 0x0, cfg := true, fields := [(.rwb, 0x1)] },  -- SIGMAP_CTRL
  { off := 0x4, reset := 0x0, fields := [(.w1c, 0x7F)] },  -- SIGMAP_STATUS
  { off := 0x8, reset := 0x0, cfg := true, fields := [(.rwb, 0xFFFFFFC0)] },  -- SIGMAP_BASE_LO
  { off := 0xC, reset := 0x0, cfg := true, fields := [(.rwb, 0x3)] },  -- SIGMAP_BASE_HI
  { off := 0x10, reset := 0x0, cfg := true, fields := [(.rwb, 0x1FFF)] },  -- SIGMAP_COUNT
  { off := 0x14, reset := 0x190, cfg := true, fields := [(.rwb, 0xFFFF)] },  -- SIGMAP_LEAD
  { off := 0x18, reset := 0x0 },  -- SIGMAP_ERR
  { off := 0x1C, reset := 0x0 },  -- SIGMAP_PASS_TIME
  { off := 0x20, reset := 0x0, fields := [(.rw, 0xFFFFFFFF)] },  -- SIGMAP_PASS_CNT
  { off := 0x24, reset := 0x0, fields := [(.rw, 0xFFFFFFFF)] },  -- SIGMAP_LATE_CNT
  { off := 0x28, reset := 0x0, fields := [(.rw, 0xFFFFFFFF)] },  -- SIGMAP_STALE_CNT
  { off := 0x2C, reset := 0x0, fields := [(.rw, 0xFFFFFFFF)] },  -- SIGMAP_CLAMP_CNT
  { off := 0x30, reset := 0x0, fields := [(.rw, 0xFFF)] },  -- SIGMAP_SEL
  { off := 0x34, reset := 0x0 },  -- SIGMAP_LAST_X_LO
  { off := 0x38, reset := 0x0 },  -- SIGMAP_LAST_X_HI
  { off := 0x3C, reset := 0x0 },  -- SIGMAP_LAST_V
  { off := 0x40, reset := 0x3 }  -- SIGMAP_LAST_STATE
  ]

def rowsFarbr : List RegRow := [
  { off := 0x0, reset := 0x0, cfg := true, fields := [(.rwb, 0x1)] },  -- FARBR_CTRL
  { off := 0x4, reset := 0x0, fields := [(.w1c, 0xFFF)] },  -- FARBR_STATUS
  { off := 0x8, reset := 0x3E8, cfg := true, fields := [(.rwb, 0xFFFF)] },  -- FARBR_TMO
  { off := 0xC, reset := 0x2, cfg := true, fields := [(.rwb, 0x7)] },  -- FARBR_RETRY
  { off := 0x10, reset := 0x0, cfg := true, out := 0xFFFFFFFF, fields := [(.rwb, 0xFFFFFFC0)] },  -- FARBR_LOG_LO
  { off := 0x14, reset := 0x0, cfg := true, out := 0xFFFFFFFF, fields := [(.rwb, 0x3)] },  -- FARBR_LOG_HI
  { off := 0x18, reset := 0x0 },  -- FARBR_LOG_HEAD
  { off := 0x1C, reset := 0x0, fields := [(.rw, 0x3FF)] },  -- FARBR_LOG_TAIL
  { off := 0x20, reset := 0x640000, cfg := true, fields := [(.rwb, 0xFFFF0001)] },  -- FARBR_POLL_CTRL
  { off := 0x24, reset := 0x0, cfg := true, fields := [(.rwb, 0xFFFFFFFC)] },  -- FARBR_POLL_ADDR
  { off := 0x28, reset := 0xFFFFFFFF, cfg := true, fields := [(.rwb, 0xFFFFFFFF)] },  -- FARBR_POLL_MASK
  { off := 0x2C, reset := 0x0, cfg := true, out := 0xFFFFFFFF, fields := [(.rwb, 0xFFFFFFC0)] },  -- FARBR_POLL_LO
  { off := 0x30, reset := 0x0, cfg := true, out := 0xFFFFFFFF, fields := [(.rwb, 0x3)] },  -- FARBR_POLL_HI
  { off := 0x34, reset := 0x0 },  -- FARBR_POLL_LAST
  { off := 0x38, reset := 0x0 },  -- FARBR_INFLIGHT
  { off := 0x40, reset := 0x0, fields := [(.rw, 0xFFFFFFFF)] },  -- FARBR_WR_CNT
  { off := 0x44, reset := 0x0, fields := [(.rw, 0xFFFFFFFF)] },  -- FARBR_RD_CNT
  { off := 0x48, reset := 0x0, fields := [(.rw, 0xFFFFFFFF)] },  -- FARBR_LATE_FAIL_CNT
  { off := 0x4C, reset := 0x0, fields := [(.rw, 0xFFFFFFFF)] },  -- FARBR_PF_DISCARD_CNT
  { off := 0x50, reset := 0x0, fields := [(.rw, 0xFFFFFFFF)] },  -- FARBR_ABORT_DISCARD_CNT
  { off := 0x54, reset := 0x0, fields := [(.rw, 0xFFFFFFFF)] },  -- FARBR_TMO_CNT
  { off := 0x58, reset := 0x0, fields := [(.rw, 0xFFFFFFFF)] },  -- FARBR_POLL_CNT
  { off := 0x5C, reset := 0x0, fields := [(.rw, 0xFFFFFFFF)] },  -- FARBR_POLL_TMO_CNT
  { off := 0x60, reset := 0x0, fields := [(.rw, 0xFFFFFFFF)] },  -- FARBR_STRAY_CNT
  { off := 0x1000, reset := 0x640000, st := 0x20, n := 64, cfg := true, fields := [(.rwb, 0xFFFF001F)] },  -- FARBR_WINw_CTRL
  { off := 0x1004, reset := 0x0, st := 0x20, n := 64, cfg := true, fields := [(.rwb, 0xFFFF)] },  -- FARBR_WINw_TARGET
  { off := 0x1008, reset := 0x0, st := 0x20, n := 64, cfg := true, fields := [(.rwb, 0xFFFFFF00)] },  -- FARBR_WINw_RBASE
  { off := 0x100C, reset := 0x8, st := 0x20, n := 64, cfg := true, fields := [(.rwb, 0x1F)] },  -- FARBR_WINw_SIZE
  { off := 0x1010, reset := 0x0, st := 0x20, n := 64 }  -- FARBR_WINw_STAT
  ]

def rowsBrace : List RegRow := [
  { off := 0x0, reset := 0x2, cfg := true, fields := [(.rwb, 0x7)] },  -- BRACE_CTRL
  { off := 0x4, reset := 0x0, fields := [(.w1c, 0xFFFF)] },  -- BRACE_STATUS
  { off := 0x8, reset := 0x0 },  -- BRACE_STATE
  { off := 0xC, reset := 0x0 },  -- BRACE_CMD
  { off := 0x10, reset := 0x0, fields := [(.rw, 0xFFFFFFFF)] },  -- BRACE_CMD_EPOCH
  { off := 0x14, reset := 0x0 },  -- BRACE_CMD_STAT
  { off := 0x18, reset := 0x2, cfg := true, fields := [(.rwb, 0xFF)] },  -- BRACE_MISS
  { off := 0x1C, reset := 0xF0, cfg := true, fields := [(.rwb, 0xFFFF)] },  -- BRACE_SEEK_TMO
  { off := 0x20, reset := 0x8, cfg := true, fields := [(.rwb, 0xFF)] },  -- BRACE_SYNC_N
  { off := 0x24, reset := 0x40, cfg := true, fields := [(.rwb, 0xFFFF)] },  -- BRACE_ST_MAXAGE
  { off := 0x28, reset := 0x88B6, cfg := true, fields := [(.rwb, 0xFFFF)] },  -- BRACE_ETHERTYPE
  { off := 0x2C, reset := 0x3E8, cfg := true, fields := [(.rwb, 0xFFFF)] },  -- BRACE_SKEW_MAX
  { off := 0x30, reset := 0x0, cfg := true, fields := [(.rwb, 0xFFFFFFFF)] },  -- BRACE_SB_DLY
  { off := 0x34, reset := 0x0 },  -- BRACE_SKEW
  { off := 0x38, reset := 0x0 },  -- BRACE_HEALTH
  { off := 0x3C, reset := 0x0 },  -- BRACE_PHEALTH
  { off := 0x40, reset := 0x0 },  -- BRACE_PEPOCH
  { off := 0x44, reset := 0x0 },  -- BRACE_ACTIVE_EPOCHS
  { off := 0x48, reset := 0x0 },  -- BRACE_SB
  { off := 0x4C, reset := 0x0 },  -- BRACE_LAST_MISMATCH
  { off := 0x60, reset := 0x0, fields := [(.rw, 0xFFFFFFFF)] },  -- BRACE_MATCH_CNT
  { off := 0x64, reset := 0x0, fields := [(.rw, 0xFFFFFFFF)] },  -- BRACE_MISMATCH_CNT
  { off := 0x68, reset := 0x0, fields := [(.rw, 0xFFFFFFFF)] },  -- BRACE_DIVERGE_CNT
  { off := 0x6C, reset := 0x0, fields := [(.rw, 0xFFFFFFFF)] },  -- BRACE_UNRESOLVED_CNT
  { off := 0x70, reset := 0x0, fields := [(.rw, 0xFFFFFFFF)] },  -- BRACE_STATE_MISS_CNT
  { off := 0x74, reset := 0x0, fields := [(.rw, 0xFFFFFFFF)] },  -- BRACE_DUP_CNT
  { off := 0x78, reset := 0x0, fields := [(.rw, 0xFFFFFFFF)] },  -- BRACE_RX_BAD_CNT
  { off := 0x7C, reset := 0x0, fields := [(.rw, 0xFFFFFFFF)] },  -- BRACE_FWD_LATE_CNT
  { off := 0x80, reset := 0x0, fields := [(.rw, 0xFFFFFFFF)] },  -- BRACE_TAKEOVER_CNT
  { off := 0x84, reset := 0x0, fields := [(.rw, 0xFFFFFFFF)] }  -- BRACE_RELEASE_CNT
  ]

def rowsSheafA : List RegRow := [
  { off := 0x0, reset := 0x0, cfg := true, fields := [(.rwb, 0x3)] },  -- SHEAF_CTRL
  { off := 0x4, reset := 0x0, fields := [(.w1c, 0xFFF)] },  -- SHEAF_STATUS
  { off := 0x8, reset := 0x0, out := 0xFFFFFFFF, fields := [(.rw, 0xFFFFFFFF)] },  -- SHEAF_GEN
  { off := 0xC, reset := 0x0, cfg := true, out := 0xFFFFFFFF, fields := [(.rwb, 0xFFFFFFC0)] },  -- SHEAF_EXPTAB_LO
  { off := 0x10, reset := 0x0, cfg := true, out := 0xFFFFFFFF, fields := [(.rwb, 0x3)] },  -- SHEAF_EXPTAB_HI
  { off := 0x14, reset := 0x0, cfg := true, fields := [(.rwb, 0xFFFF)] },  -- SHEAF_MAX_MISSING
  { off := 0x18, reset := 0x4, cfg := true, fields := [(.rwb, 0xFF)] },  -- SHEAF_MIN_LEAD
  { off := 0x1C, reset := 0x2, cfg := true, fields := [(.rwb, 0xF)] },  -- SHEAF_CARRY
  { off := 0x20, reset := 0x3C, cfg := true, fields := [(.rwb, 0xFFFF)] },  -- SHEAF_SWEEP
  { off := 0x24, reset := 0x40, cfg := true, fields := [(.rwb, 0xFFFF)] },  -- SHEAF_PARTNER_HOLD
  { off := 0x28, reset := 0x0, fields := [(.rw, 0xFFFFFFFF)] },  -- SHEAF_ARM_EPOCH
  { off := 0x2C, reset := 0x0, fields := [(.rw, 0xFFFFFFFF)] },  -- SHEAF_ARM_GEN
  { off := 0x30, reset := 0x0, fields := [(.rw, 0x3FFFF)] },  -- SHEAF_ARM_GROUPS
  { off := 0x34, reset := 0x0 },  -- SHEAF_ARM_CMD
  { off := 0x38, reset := 0x0 },  -- SHEAF_STAT
  { off := 0x3C, reset := 0x0 },  -- SHEAF_TARGETS
  { off := 0x40, reset := 0x0 },  -- SHEAF_ACKED
  { off := 0x44, reset := 0x0 },  -- SHEAF_DIG_EPOCH
  { off := 0x48, reset := 0x0 },  -- SHEAF_CLASS_BUSY
  { off := 0x4C, reset := 0x0, fields := [(.rw, 0x7)] },  -- SHEAF_CSEL
  { off := 0x50, reset := 0x0, st := 0x4, n := 8 },  -- SHEAF_DIGESTw
  { off := 0x70, reset := 0x0, st := 0x4, n := 8 },  -- SHEAF_CDIGw
  { off := 0x90, reset := 0x0 },  -- SHEAF_N_AGREE
  { off := 0x94, reset := 0x0 },  -- SHEAF_N_DIFFERS
  { off := 0x98, reset := 0x0 },  -- SHEAF_N_BEHIND
  { off := 0x9C, reset := 0x0 },  -- SHEAF_N_AHEAD
  { off := 0xA0, reset := 0x0 },  -- SHEAF_N_UNKNOWN
  { off := 0xA4, reset := 0x0 },  -- SHEAF_LAST_TILE
  { off := 0xC0, reset := 0x0, fields := [(.rw, 0xFFFFFFFF)] },  -- SHEAF_APPLY_CNT
  { off := 0xC4, reset := 0x0, fields := [(.rw, 0xFFFFFFFF)] }  -- SHEAF_WITHHOLD_CNT
  ]

def rowsSheafB : List RegRow := [
  { off := 0xC8, reset := 0x0, fields := [(.rw, 0xFFFFFFFF)] },  -- SHEAF_CARRY_CNT
  { off := 0xCC, reset := 0x0, fields := [(.rw, 0xFFFFFFFF)] }  -- SHEAF_PARTNER_DIFF_CNT
  ]

def rowsSheaf : List RegRow := rowsSheafA ++ rowsSheafB

def rowsCheck : List RegRow := [
  { off := 0x0, reset := 0x80000001, cfg := true, out := 0x3F0300, fields := [(.rw, 0xFFFF0307)] },  -- CHECKn_CTRL
  { off := 0x4, reset := 0x0, fields := [(.w1c, 0x7F)] },  -- CHECKn_STATUS
  { off := 0x8, reset := 0x0 },  -- CHECKn_CMD
  { off := 0xC, reset := 0x0 },  -- CHECKn_FEED8
  { off := 0x10, reset := 0x0 },  -- CHECKn_FEED16
  { off := 0x14, reset := 0x0 },  -- CHECKn_FEED32
  { off := 0x18, reset := 0xFFFFFFFF, fields := [(.rw, 0xFFFFFFFF)] },  -- CHECKn_VALUE
  { off := 0x1C, reset := 0x0 },  -- CHECKn_RESULT
  { off := 0x20, reset := 0x0, cfg := true, out := 0xFFFFFFFF, fields := [(.rw, 0xFFFFFFFF)] },  -- CHECKn_POLY
  { off := 0x24, reset := 0x0, cfg := true, out := 0xFFFFFFFF, fields := [(.rw, 0xFFFFFFFF)] },  -- CHECKn_INIT
  { off := 0x28, reset := 0x0, cfg := true, out := 0xFFFFFFFF, fields := [(.rw, 0xFFFFFFFF)] },  -- CHECKn_XOROUT
  { off := 0x2C, reset := 0x4, cfg := true, fields := [(.rw, 0xFF)] },  -- CHECKn_GAP
  { off := 0x30, reset := 0x0, fields := [(.rw, 0xFFFFFFFF)] },  -- CHECKn_BYTES
  { off := 0x34, reset := 0x0, fields := [(.rw, 0xFFFFFFFF)] },  -- CHECKn_MATCH_CNT
  { off := 0x38, reset := 0x0, fields := [(.rw, 0xFFFFFFFF)] }  -- CHECKn_FAIL_CNT
  ]

def rowsSec : List RegRow := [
  { off := 0x0, reset := 0x0, cfg := true, fields := [(.wo1, 0x80000000), (.rwl, 0x6)] },  -- SEC_CTRL
  { off := 0x4, reset := 0x0, fields := [(.w1c, 0x3FF)] },  -- SEC_STATUS
  { off := 0x8, reset := 0x0 },  -- SEC_STATE
  { off := 0xC, reset := 0x0 },  -- SEC_FUSES
  { off := 0x10, reset := 0x0, fields := [(.rw, 0x3F)] },  -- SEC_SLOT_SEL
  { off := 0x14, reset := 0x0 },  -- SEC_SLOT_ATTR
  { off := 0x18, reset := 0x0 },  -- SEC_VALID_LO
  { off := 0x1C, reset := 0x0 },  -- SEC_VALID_HI
  { off := 0x20, reset := 0x0, fields := [(.rw, 0xFFFFFFFF)] },  -- SEC_DENY_CNT
  { off := 0x24, reset := 0x0, fields := [(.rw, 0xFFFFFFFF)] },  -- SEC_OP_CNT
  { off := 0x28, reset := 0x0 },  -- SEC_PUF_BER
  { off := 0x2C, reset := 0x1 },  -- SEC_TRNG_STAT
  { off := 0x800, reset := 0x1AAAA, cfg := true, fields := [(.rwl, 0x3FFFF)] },  -- SEC_TAMPER_CTRL
  { off := 0x804, reset := 0xF, cfg := true, fields := [(.rwl, 0xF)] },  -- SEC_TAMPER_POL
  { off := 0x808, reset := 0x0 },  -- SEC_TAMPER_LATCH
  { off := 0x80C, reset := 0x0 },  -- SEC_TAMPER_RAW
  { off := 0x810, reset := 0x0 },  -- SEC_TAMPER_CNT
  { off := 0x814, reset := 0x0 },  -- SEC_TAMPER_TS_NS
  { off := 0x818, reset := 0x0 },  -- SEC_TAMPER_TS_SEC_LO
  { off := 0x81C, reset := 0x0 },  -- SEC_TAMPER_TS_SEC_HI
  { off := 0x820, reset := 0x0, fields := [(.rw, 0xFFFF)] },  -- SEC_MAINT
  { off := 0x824, reset := 0x0 },  -- SEC_TBUSY
  { off := 0x828, reset := 0x7DC9, cfg := true, fields := [(.rwl, 0xFFFF)] }  -- SEC_TEMP_LIMITS
  ]

def rowsUpd : List RegRow := [
  { off := 0x0, reset := 0x0, cfg := true, fields := [(.rw, 0x3)] },  -- UPD_CTRL
  { off := 0x4, reset := 0x0, fields := [(.w1c, 0x3FF)] },  -- UPD_STATUS
  { off := 0x8, reset := 0x0 },  -- UPD_STATE
  { off := 0xC, reset := 0xB83A, cfg := true, fields := [(.rw, 0xFFFF)] },  -- UPD_PORT
  { off := 0x10, reset := 0x0, cfg := true, fields := [(.rw, 0xFFFFFFFF)] },  -- UPD_IP
  { off := 0x14, reset := 0x0, out := 0xFFFFFFFF, fields := [(.rw, 0xFFFF0000)] },  -- UPD_STAGE_LO
  { off := 0x18, reset := 0x0, out := 0xFFFFFFFF, fields := [(.rw, 0x3)] },  -- UPD_STAGE_HI
  { off := 0x1C, reset := 0x78, cfg := true, fields := [(.rw, 0xFFF)] },  -- UPD_HEALTH_WINDOW
  { off := 0x20, reset := 0x0 },  -- UPD_SESSION
  { off := 0x24, reset := 0x0 },  -- UPD_BLOCKS
  { off := 0x28, reset := 0x0, fields := [(.rw, 0xFFFFFFFF)] },  -- UPD_BLK_CRC_CNT
  { off := 0x2C, reset := 0x0, fields := [(.rw, 0xFFFFFFFF)] },  -- UPD_BLK_DUP_CNT
  { off := 0x30, reset := 0x0 },  -- UPD_LAST_STATUS
  { off := 0x34, reset := 0x0 },  -- UPD_RUN_COMPAT
  { off := 0x38, reset := 0x0 },  -- UPD_NEW_COMPAT
  { off := 0x3C, reset := 0x0 },  -- UPD_SECVER
  { off := 0x40, reset := 0x0 }  -- UPD_HEALTH_LEFT
  ]

def rowsWinnow : List RegRow := [
  { off := 0x0, reset := 0x1, cfg := true, fields := [(.rwb, 0x1)] },  -- WIN_CTRL
  { off := 0x4, reset := 0x0, fields := [(.w1c, 0xFF)] },  -- WIN_STATUS
  { off := 0x8, reset := 0x3E8, cfg := true, fields := [(.rwb, 0xFFFF)] },  -- WIN_DRAM_CAP
  { off := 0xC, reset := 0x18, cfg := true, fields := [(.rwb, 0xFF)] },  -- WIN_SCRUB_H
  { off := 0x10, reset := 0x3E8, cfg := true, fields := [(.rwb, 0xFFFF)] },  -- WIN_SRAM_MS
  { off := 0x14, reset := 0x1E, cfg := true, fields := [(.rwb, 0xFF)] },  -- WIN_FLASH_D
  { off := 0x18, reset := 0x8, cfg := true, fields := [(.rwb, 0xFF)] },  -- WIN_FLASH_THR
  { off := 0x1C, reset := 0xA, cfg := true, fields := [(.rwb, 0xFFFF)] },  -- WIN_SC_S
  { off := 0x20, reset := 0x6E00640, cfg := true, fields := [(.rwb, 0xFFFFFFFF)] },  -- WIN_TEMP_LIM
  { off := 0x24, reset := 0x9C4, cfg := true, fields := [(.rwb, 0xFFFF)] },  -- WIN_VBAT_MIN
  { off := 0x28, reset := 0x0 },  -- WIN_SCRUB_POS
  { off := 0x2C, reset := 0x0 },  -- WIN_FLASH_LIFE
  { off := 0x30, reset := 0x0 },  -- WIN_FLASH_ERR
  { off := 0x34, reset := 0x0, fields := [(.rw, 0xFFFFFFFF)] },  -- WIN_SRAM_CE_CNT
  { off := 0x38, reset := 0x0, fields := [(.rw, 0xFFFFFFFF)] },  -- WIN_FLASH_RW_CNT
  { off := 0x100, reset := 0x0, st := 0x8, n := 8 },  -- WIN_TEMPi
  { off := 0x104, reset := 0x80007FFF, st := 0x8, n := 8, fields := [(.rw, 0xFFFFFFFF)] },  -- WIN_TEMPi_MM
  { off := 0x180, reset := 0x0, st := 0x8, n := 8 },  -- WIN_VOLTi
  { off := 0x184, reset := 0xFFFF, st := 0x8, n := 8, fields := [(.rw, 0xFFFFFFFF)] }  -- WIN_VOLTi_MM
  ]

def rowsDram : List RegRow := [
  { off := 0x0, reset := 0x0, cfg := true, fields := [(.rwb, 0x1)] },  -- DRAM_CTRL
  { off := 0x4, reset := 0x0, fields := [(.w1c, 0xF)] },  -- DRAM_STATUS
  { off := 0x8, reset := 0x0, fields := [(.rw, 0xFFFFFFFF)] },  -- DRAM_CE_CNT
  { off := 0xC, reset := 0x0, fields := [(.rw, 0xFFFFFFFF)] },  -- DRAM_UE_CNT
  { off := 0x10, reset := 0x0 },  -- DRAM_ERR_ADDR_LO
  { off := 0x14, reset := 0x0 },  -- DRAM_ERR_ADDR_HI
  { off := 0x18, reset := 0x0 },  -- DRAM_TRAIN_STAT
  { off := 0x100, reset := 0x0, st := 0x8, n := 32, fields := [(.rw, 0x3F3FF3FF)] },  -- DRAM_CHc_TRAIN0
  { off := 0x104, reset := 0x0, st := 0x8, n := 32, fields := [(.rw, 0xFFFF)] }  -- DRAM_CHc_TRAIN1
  ]

def rowsPins : List RegRow := [
  { off := 0x0, reset := 0x0, cfg := true, fields := [(.rwb, 0xFF)] },  -- PINS_MUX
  { off := 0x4, reset := 0x0, fields := [(.w1c, 0x7)] },  -- PINS_STATUS
  { off := 0x8, reset := 0x1, cfg := true, fields := [(.rwb, 0x3)] },  -- PINS_DRIVE
  { off := 0xC, reset := 0x0, cfg := true, fields := [(.rwb, 0xFFFFFFFF)] },  -- PINS_PULL_LO
  { off := 0x10, reset := 0x0, cfg := true, fields := [(.rwb, 0xFFFFFFFF)] },  -- PINS_PULL_HI
  { off := 0x20, reset := 0x0, cfg := true, fields := [(.rw, 0xFFFFFFFF)] },  -- GPIO_DIR_LO
  { off := 0x24, reset := 0x0, cfg := true, fields := [(.rw, 0xFFFFFFFF)] },  -- GPIO_DIR_HI
  { off := 0x28, reset := 0x0, fields := [(.rw, 0xFFFFFFFF)] },  -- GPIO_OUT_LO
  { off := 0x2C, reset := 0x0, fields := [(.rw, 0xFFFFFFFF)] },  -- GPIO_OUT_HI
  { off := 0x30, reset := 0x0 },  -- GPIO_SET_LO
  { off := 0x34, reset := 0x0 },  -- GPIO_SET_HI
  { off := 0x38, reset := 0x0 },  -- GPIO_CLR_LO
  { off := 0x3C, reset := 0x0 },  -- GPIO_CLR_HI
  { off := 0x40, reset := 0x0 },  -- GPIO_IN_LO
  { off := 0x44, reset := 0x0 }  -- GPIO_IN_HI
  ]

/-- R414: the MSI-X table (256 entries of 4 words) and the PBA. The reset value of the vector control words is in `resetOf`. -/
def rowsMsix : List RegRow := [
  { off := 0xE00, reset := 0x0, st := 0x4, n := 8 },  -- MSI-X PBA
  { off := 0x1000, reset := 0x0, st := 0x4, n := 1024, fields := [(.rw, 0xFFFFFFFF)] }  -- MSI-X table
  ]

/-- The register table of a block. -/
def Block.rows : Block → List RegRow
  | .global => rowsGlobal | .clock => rowsClock | .power => rowsPower | .intc => rowsIntc | .time => rowsTime
  | .host => rowsHost ++ rowsMsix | .kennel => rowsKennel | .engine => rowsEngine | .ingestRx => rowsIngestRx
  | .ingest => rowsIngest | .raster => rowsRaster | .calib => rowsCalib | .plan => rowsPlan | .vocon => rowsVocon
  | .heel => rowsHeel | .fixture => rowsFixture | .mac => rowsMac | .uart => rowsUart | .hub => rowsHub
  | .sigmap => rowsSigmap | .farbr => rowsFarbr | .brace => rowsBrace | .sheaf => rowsSheaf | .check => rowsCheck
  | .sec => rowsSec | .upd => rowsUpd | .winnow => rowsWinnow | .dram => rowsDram | .pins => rowsPins

/-- R390 and the text before it: the offsets of a MAC that act on ports 32–36 only, and those that act on ports 0–31 only. -/
def macHas (i l : Nat) : Bool :=
  if (0x0C0 ≤ l && l ≤ 0x0C4) || (0x800 ≤ l && l < 0xB00) then 32 ≤ i
  else if 0x100 ≤ l && l ≤ 0x108 then i < 32 else true

/-- The row of the register at local offset l of instance i, when there is one. -/
def rowAt (b : Block) (i l : Nat) : Option RegRow :=
  if b = .mac && !macHas i l then none else b.rows.find? (fun r => r.covers l)

/-- The canonical BAR0 offset of a place. -/
def canon (b : Block) (i l : Nat) : Nat := b.base.1 + b.base.2 * i + l

/-- The reset value of the register at a canonical offset. Ports 32–36 reset MACn_CTRL to 0x0000_0406 (R390); the vector
control word of an MSI-X entry resets with its mask bit set (R414: by the PCI specification, PRESUMED). -/
def resetOf (a : Nat) : Word :=
  match resolve a with
  | .at b i l =>
    if b = .mac && l = 0 && 32 ≤ i then 0x406
    else if b = .host && 0x1000 ≤ l && l % 16 = 12 then 1
    else match rowAt b i l with
      | some r => BitVec.ofNat 32 r.reset
      | none => 0
  | _ => 0

/-- Every configuration word (R55) of the device, by canonical offset, in ascending order within each block. -/
def cfgOffsetsOf (b : Block) (i : Nat) : List Nat :=
  (b.rows.filter (·.cfg)).flatMap (fun r =>
    (List.range r.n).flatMap (fun j => (List.range r.n2).filterMap (fun k =>
      let l := r.off + r.st * j + r.st2 * k
      if b = .mac && !macHas i l then none else some (canon b i l))))

/-- The RWB bits of the register at a canonical offset. -/
def rwbMask (a : Nat) : Word :=
  match resolve a with
  | .at b i l => match rowAt b i l with
    | some r => r.mask .rwb
    | none => 0
  | _ => 0

/-- The update group of the register at a canonical offset (R48). -/
def groupOf (a : Nat) : Option Nat :=
  match resolve a with
  | .at b _ _ => b.group
  | _ => none

/-- Whether a canonical offset is a configuration register, and of which class of R58. -/
def isCfg (a : Nat) : Bool :=
  match resolve a with
  | .at b i l => match rowAt b i l with
    | some r => r.cfg
    | none => false
  | _ => false

/-- Whether a canonical offset lies in a show block (R58). VER registers lie in RASTER, which is one. -/
def inShowBlock (a : Nat) : Bool :=
  match resolve a with
  | .at b _ _ => b.show
  | _ => false

/-- R63, R64: the values wider than 32 bits that software writes: block, local offset of the lowest word and of the most significant one,
stride and number. TIME's are held by the functions of Registers.lean that judge them. Registers _LO and _HI that are two sets of bits
(ports, pins, filters) are no such value (log entry 55). -/
def wideRows : List (Block × Nat × Nat × Nat × Nat) := [
  (.ingest, 0x8008, 0x800C, 0, 1), (.kennel, 0x08, 0x0C, 0, 1),
  (.calib, 0x08, 0x0C, 0, 1), (.calib, 0x10, 0x14, 0, 1), (.plan, 0x14, 0x18, 0, 1), (.plan, 0x1C, 0x20, 0, 1),
  (.vocon, 0x24, 0x28, 0, 1), (.vocon, 0x2C, 0x30, 0, 1), (.vocon, 0x50, 0x54, 0, 1), (.raster, 0x1008, 0x100C, 0, 1),
  (.fixture, 0x08, 0x0C, 0, 1), (.fixture, 0x10, 0x14, 0, 1), (.fixture, 0x1C, 0x20, 0, 1), (.fixture, 0x28, 0x2C, 0, 1),
  (.fixture, 0x30, 0x34, 0, 1), (.hub, 0x0C, 0x10, 0, 1), (.hub, 0x18, 0x1C, 0, 1), (.hub, 0x24, 0x28, 0, 1),
  (.hub, 0x2C, 0x30, 0, 1), (.hub, 0x20C, 0x208, 0x10, 8), (.sigmap, 0x08, 0x0C, 0, 1), (.mac, 0x0C, 0x10, 0, 1),
  (.mac, 0x80C, 0x808, 0, 1), (.mac, 0x904, 0x900, 0x40, 8), (.host, 0x0C, 0x10, 0, 1), (.host, 0x400, 0x404, 0x20, 64),
  (.host, 0x408, 0x40C, 0x20, 64), (.farbr, 0x10, 0x14, 0, 1), (.farbr, 0x2C, 0x30, 0, 1), (.sheaf, 0x0C, 0x10, 0, 1),
  (.upd, 0x14, 0x18, 0, 1)]

/-- Offset l is the j-th of n words from offset o with a stride. -/
def strided (o st n l : Nat) : Bool := if st = 0 then l == o else o ≤ l && (l - o) % st == 0 && (l - o) / st < n

/-- R64: the lower word of a wide value: it is held until its most significant word is written. -/
def isWideLow (b : Block) (l : Nat) : Bool := wideRows.any (fun w => w.1 == b && strided w.2.1 w.2.2.2.1 w.2.2.2.2 l)

/-- R64: the offset of the lower word that a write of the most significant word at offset l brings with it. -/
def wideLow (b : Block) (l : Nat) : Option Nat :=
  (wideRows.find? (fun w => w.1 == b && strided w.2.2.1 w.2.2.2.1 w.2.2.2.2 l)).map (fun w => l + w.2.1 - w.2.2.1)

/-- R60: whether the register is written by posted write, and the offset of the instance that owns the BUSY bit. -/
def busyKey (a : Nat) : Option Nat :=
  match resolve a with
  | .at .uart i _ => some (canon .uart i 0)
  | .at .hub _ _ => some (canon .hub 0 0)
  | .at .sec _ l => if 0x800 ≤ l then some (canon .sec 0 0x800) else none
  | .at .power _ l => if 0x800 ≤ l then some (canon .power 0 0x800) else none
  | _ => none

end Sys2Proof.Machine
end

