-- ==== Sys2Proof/Machine/Sparse.lean ====
section
/-! DEFINITION. Sparse data by key: a list of (key, value) pairs in one canonical form (keys strictly rising, no value equal to
what an unlisted key reads as), so that equal contents are equal lists. Registers, DRAM and host memory are kept this way. -/

namespace Sys2Proof.Machine.Sparse

variable {α : Type}

/-- The value at key a; d where the key is not listed. -/
def get (d : α) : List (Nat × α) → Nat → α
  | [], _ => d
  | (k, v) :: t, a => if k = a then v else get d t a

/-- The list without key a. -/
def erase : List (Nat × α) → Nat → List (Nat × α)
  | [], _ => []
  | (k, v) :: t, a => if k = a then erase t a else (k, v) :: erase t a

/-- Key a entered before the first larger key. -/
def insertAt : List (Nat × α) → Nat → α → List (Nat × α)
  | [], a, v => [(a, v)]
  | (k, x) :: t, a, v => if a < k then (a, v) :: (k, x) :: t else (k, x) :: insertAt t a v

/-- Key a set to v; a value equal to the default removes the entry. -/
def put [DecidableEq α] (d : α) (m : List (Nat × α)) (a : Nat) (v : α) : List (Nat × α) :=
  if v = d then erase m a else insertAt (erase m a) a v

/-- Keys strictly rising above b. -/
def rising : Nat → List (Nat × α) → Bool
  | _, [] => true
  | b, (k, _) :: t => b ≤ k && rising (k + 1) t

/-- The canonical form: keys strictly rising, no listed value equal to the default of its key. -/
def wf [DecidableEq α] (d : Nat → α) (m : List (Nat × α)) : Bool :=
  rising 0 m && m.all (fun e => e.2 != d e.1)

end Sys2Proof.Machine.Sparse
end

