-- ==== Sys2Proof/Machine/State.lean ====
section
/-! DEFINITION. The state of the KZ9160 as plain data: the registers of every block, what every block remembers between
commands, the memories, and the queue of waiting commands; why a command may stop; and the state right after a power-on
reset. Registers are sparse (only values that differ from the reset value are listed); a register that reports the state of a
block (a level, a queue, the clock) is formed from that state when read (Machine/View.lean). -/

namespace Sys2Proof.Machine

/-- Why a command stops with a fault. No command of this model does: each has an effect in the spec (safe). -/
inductive Fault
  /-- raised by nothing; kept so that the type is not empty (safe) -/
  | none
deriving DecidableEq, Repr

/-- Why a command is refused. -/
inductive Refusal
  /-- raised by `exec` for a command that has no meaning yet (safe) -/
  | notModelled (mnemonic : String)
deriving DecidableEq, Repr

/-! ## Registers (02) -/

/-- R49: the timing of a strobe. A HEEL strobe keeps the local time of its arrival, for the 1 µs rule of R53. -/
inductive When
  | now
  | epoch
  | heel (at_ : Int)
deriving DecidableEq, Repr

/-- R50–R52: the staging copy of one update group: its timing, the FRC of the cycle in which its strobe arrived, the shadow words it
holds, and those whose parity fails. -/
structure Staged where
  group : Nat
  when : When
  frc : Nat
  copy : List (Nat × Word)
  bad : List Nat
deriving DecidableEq, Repr

/-- What leaves the device in one step: the frames, messages, edges and characters the rules say are sent. -/
inductive Sent
  | frame (port : Nat) (express : Bool) (bytes : Bytes)
  | ptp (port : Nat) (kind : Nat) (seq : Nat) (stamp : Int) (clock : Nat)
  | edge (pin : Nat) (level : Bool) (frc : Nat) (steps : Nat)
  | ltc (tc ub : Word)
  | msix (vector : Nat) (addr : Nat) (data : Nat)
  | char (port value bits : Nat) (parity : Option Bool) (stops : Nat)
  | brk (port brkNs mabNs : Nat)
  | pixel (output : Nat) (line col : Nat) (comps : List Nat)
  | aux (output : Nat) (kind addr : Nat) (data : Bytes)
  | sideband (level : Bool) (line : Nat)
  | text (port : Nat) (bytes : Bytes)
  | cut (port : Nat) (bytes : Bytes)
  | dmx (port brkUs mabUs : Nat) (bytes : Bytes)
deriving DecidableEq, Repr


/-! ## Show time (03) -/

/-- R78: the servo's states, in the coding of TIME_SERVO_STATE. -/
inductive Servo | free | acquire | locked | holdover
deriving DecidableEq, Repr

/-- One transmit stamp (R83–R86): its ID, the stamp in units of 2⁻¹⁶ ns, and whether it belongs to the PTP logic. -/
structure Stamp where
  id : Nat
  time : Int
  ptp : Bool
deriving DecidableEq, Repr

/-- R83–R86: one port's transmit timestamp queue, its lost-tag list and its count of lost tags beyond the list. -/
structure Tsq where
  entries : List Stamp := []
  lost : List Nat := []
  lostCnt : Word := 0
deriving DecidableEq, Repr

/-- R97–R99: one HEEL_OUT pin: queued targets, whether its level is away from POL, the launch time of the edge that ends the running
pulse (a fraction of 2⁻¹⁶ ns), the next target of MODE 2 once its first has come, and the saturating count of late targets. -/
structure HoPin where
  queue : List Int := []
  away : Bool := false
  pulse : Option (Int × Nat) := none
  base : Option Int := none
  lateCnt : Nat := 0
  /-- the last target of MODE 3, 4 or 5 that is done with, launched or discarded; those before it are done with too -/
  fired : Option Int := none
deriving DecidableEq, Repr

/-- R80: what the PTP logic remembers between messages. Times are in units of 2⁻¹⁶ ns. -/
structure Ptp where
  /-- a two-step Sync waiting for its Follow_Up: sequence number, receive stamp, correction -/
  waiting : Option (Nat × Int × Int) := none
  /-- the slave port's last Sync: t1 with its corrections, t2 -/
  lastSync : Option (Int × Int) := none
  /-- the Delay_Req or Pdelay_Req in flight, by port: sequence number and transmit stamp -/
  reqSent : List (Nat × (Nat × Int)) := []
  /-- a two-step Pdelay_Resp waiting for its Follow_Up, by port: sequence number, t4, t2, correction -/
  respWait : List (Nat × (Nat × Int × Int × Int)) := []
  /-- path-delay results, newest first, at most 2^7 -/
  delays : List Int := []
  /-- next sequence number of the requests sent -/
  seq : Nat := 0
  /-- next sequence number of the Syncs sent -/
  syncSeq : Nat := 0
  /-- R79: when each master port last sent Sync, and each port its last Delay_Req or Pdelay_Req, by port: FRC + 1 -/
  syncAt : List (Nat × Nat) := []
  reqAt : List (Nat × Nat) := []
  /-- R79: the local offset of the last SMPTE synchronisation metadata TLV, in seconds -/
  smOffset : Option Int := none
deriving DecidableEq, Repr

/-- TIME (R72–R102): the clock, the servo, the frame grid, PTP, the stamp queues and the HEEL_OUT pins. -/
structure TimeSt where
  /-- R72: the 64-bit free-running counter -/
  frc : Nat := 0
  /-- R73: OFFSET, in units of 2⁻¹⁶ ns -/
  offset : Int := 0
  /-- R73: RATE, a signed 40-bit integer in units of 2⁻⁴⁸ -/
  rate : Int := 0
  /-- R76: the servo's integrator I -/
  integ : Int := 0
  /-- R78 -/
  servo : Servo := .free
  /-- consecutive in-threshold measurements, [15:8] of TIME_SERVO_STATE -/
  inThresh : Nat := 0
  /-- R76: consecutive rejections -/
  rejects : Nat := 0
  /-- FRC of the last accepted measurement (R78: HOLDOVER) -/
  measFrc : Nat := 0
  /-- R92, R95: the period in effect -/
  num : Nat := 1
  den : Nat := 60
  /-- R95: a pair applied between boundaries, held until the next -/
  heldPair : Option (Nat × Nat) := none
  /-- R95: the next boundary is the first of a new grid, and sets TIME_EPOCH_ADJ -/
  regrid : Bool := false
  /-- R93, R94: the index of the last boundary's instant, and of the next -/
  kLast : Nat := 0
  kNext : Nat := 1
  /-- R93, R98: the instant of the last boundary on the grid it was cut from, as a fraction of 2⁻¹⁶ ns -/
  mark : Int × Nat := (0, 1)
  /-- R93: the current frame epoch (TIME_EPOCH) -/
  epoch : Epoch := 0
  /-- R96: the adjustment in effect -/
  adj : Word := 0
  /-- R88: FRC of the last captured edge, or of the application of group 0 that set EN; whether PPS_MISSING was set for the gap -/
  ppsFrc : Nat := 0
  ppsGap : Bool := false
  /-- R88: a level too short for the 1PPS glitch filter runs; the level that it returns to -/
  ppsGlitch : Option Bool := none
  /-- R89: FRC of the last 10 MHz edge, or of the application of group 0 that set EN; the input is silent; FRC of the last measurement
  that it gave -/
  refEdge : Nat := 0
  refGap : Bool := false
  refFrc : Option Nat := none
  /-- R90: FRC of the last valid LTC frame, or of the application of group 0 that set EN; the LTC frame period in CLK_ENGINE cycles -/
  ltcFrc : Nat := 0
  ltcPeriod : Nat := 52083333
  /-- R91: the grid index of the LTC frame last sent -/
  ltcK : Option Nat := none
  /-- R73, R74: the OFFSET and RATE of cycles gone by, newest first: the FRC before which each pair was in use -/
  past : List (Nat × Int × Int) := []
  /-- R82: port path delays pending for the next boundary are with the self-calibration classes (CALIB) -/
  ptp : Ptp := {}
  tsq : List (Nat × Tsq) := []
  ho : List (Nat × HoPin) := []
deriving DecidableEq, Repr

/-! ## Canvas ingest and raster (04) -/

/-- R110: a marker packet met: its sequence number, the ingest epoch it closes (none: it matched no epoch that is written), and the epoch in
which it came. -/
structure Marker where
  seq : Nat
  epoch : Option Epoch
  met : Epoch
deriving DecidableEq, Repr

/-- One ST 2110 receiver pair (R103–R121). -/
structure Receiver where
  /-- R104, R110: accepted video sequence numbers, from the previous frame's marker onwards -/
  seen : List Nat := []
  /-- R110: the markers met, highest sequence number first, each once -/
  markers : List Marker := []
  /-- R112: the chroma of even pixels received for frames not yet committed: (slot, row, column) packed as a key -/
  chroma : List (Nat × (Nat × Nat)) := []
  /-- R107: the timestamps of the frames last counted as unmatched, newest first -/
  missTs : List Word := []
  /-- R104: accepted audio sequence numbers, extended; the highest -/
  aSeen : List Nat := []
  aHigh : Option Nat := none
  /-- R121: the 24-bit envelope -/
  env : Nat := 0
  /-- R120: least and greatest lag of the running second -/
  lag : Option (Int × Int) := none
  /-- R104: for each path in use, 2 for audio plus 1 for B, FRC of its last matching packet, or of the path's coming into use; a
  path judged silent has none until its next packet -/
  heardAt : List (Nat × Nat) := []
  /-- R120: FRC of the last accepted audio packet, of the end of the last gap, or of the enabling -/
  aAt : Nat := 0
deriving DecidableEq, Repr

/-- The progress of a scan through one canvas frame: the raster's (R123–R126) or a preview's (R129). -/
structure Scan where
  /-- a frame runs, and the epoch whose canvas frame it fetches -/
  run : Bool := false
  frame : Epoch := 0
  /-- FRC of the frame start -/
  start : Nat := 0
  /-- next active pixel: line and column -/
  line : Nat := 0
  col : Nat := 0
  /-- every active pixel has been pushed -/
  done : Bool := false
  /-- R124: lines fetched from DRAM and not yet past, with the pixels fetched -/
  fetched : List (Nat × List (List Nat)) := []
  /-- R125: the components last pushed in this frame -/
  last : Option (List Nat) := none
  /-- R126: FRC at which a hold began -/
  hold : Option Nat := none
  /-- R126: FRC from which the raster catches up, and the position that it held until then, blanking included -/
  catchUp : Option (Nat × Nat) := none
  /-- elements gathered for the record being built (R143: REC_ELEMS) and the records pushed in this frame -/
  part : List (List Nat) := []
  seq : Nat := 0
  /-- R126, R148: every active pixel has been pushed, and EOF waits for a line in the source FIFO -/
  eofWait : Bool := false
deriving DecidableEq, Repr

/-- INGEST and RASTER. -/
structure IngestSt where
  rx : List (Nat × Receiver) := []
  raster : Scan := {}
  /-- R126: the frame ended without its last active pixels -/
  abandoned : Bool := false
  /-- R119: the delay in effect for the frame being fetched is read at the boundary -/
  preview : List (Nat × Scan) := []
  /-- R130: previews: HPD level and link trained -/
  hpd : List (Nat × Bool) := []
  trained : List (Nat × Bool) := []
  /-- R134: the lane count trained, as PVn_CTRL.LANES codes it -/
  lanes : List (Nat × Nat) := []
  /-- R135: an AUX transaction runs -/
  auxBusy : List (Nat × Bool) := []
deriving DecidableEq, Repr

/-! ## Render engines and Kennel (05) -/

/-- R146: a record. A PIXELS payload is kept as its bytes, components little-endian. -/
structure Rec where
  kind : Nat
  ncomp : Nat
  count : Nat
  x : Nat
  y : Nat
  tag : Nat
  seq : Nat
  payload : Bytes
deriving DecidableEq, Repr

/-- R142: a node descriptor. -/
structure Node where
  op : Nat
  prio : Nat
  ordered : Bool
  flow : Nat
  engMask : Nat
  in0 : Nat
  in1 : Nat
  out0 : Nat
  out1 : Nat
  tabOff : Nat
  tabLen : Nat
  paramBase : Nat
  paramCnt : Nat
  /-- the 40 bytes of operation fields, at descriptor offset 0x18 -/
  opf : Bytes
deriving DecidableEq, Repr

/-- R143: a FIFO descriptor. -/
structure FifoDesc where
  base : Nat
  lines : Nat
  recElems : Nat
  sink : Bool
  window : Bool
  cut : Bool
  win : Nat
  target : Nat
  hwm : Nat
deriving DecidableEq, Repr

/-- R141: a graph as Kennel holds it: its tables and the table image. -/
structure Graph where
  nodes : List Node
  fifos : List FifoDesc
  flows : Nat
  gen : Word
  table : Bytes
  /-- R149: for each node, the lines of the largest output of one grain in each of its output FIFOs -/
  reserve : List Nat
  /-- R470, class 1: the KNL_GRAPH_LEN bytes of the image -/
  image : Bytes := []
deriving DecidableEq, Repr

/-- R148: the contents of one FIFO: the records held (published and not released), the index in the frame of the first of
them, the index of the next record a grain takes, and the lines reserved for running grains (R149). -/
structure Fifo where
  recs : List Rec := []
  head : Nat := 0
  taken : Nat := 0
  reserved : Nat := 0
  /-- R148: the write and read pointers, in lines, modulo 2 × LINES; their difference is the number of lines held -/
  wp : Nat := 0
  rp : Nat := 0
  /-- indices below `taken` whose grains have completed, not yet released -/
  finished : List Nat := []
  /-- EOF has been written, and has been consumed -/
  eof : Bool := false
  eofTaken : Bool := false
  /-- FRC since which the FIFO has been full -/
  fullSince : Option Nat := none
deriving DecidableEq, Repr

/-- R152: a grain: a node applied to input records (their indices in the frame), or the i-th record of a source. -/
structure Grain where
  node : Nat
  /-- indices of the records it takes on IN0 and IN1; for a source, the record number -/
  ins : List Nat
  /-- R157: its sequence number in the node -/
  seq : Nat
  /-- FRC at which it became ready, and at which it was dispatched -/
  readyAt : Nat
  startAt : Nat := 0
  /-- R150: its inputs that are not whole, or were not when its cycles were last counted -/
  late : List Nat := []
  /-- R178, R179: FRC up to which its running and stalled cycles have been counted -/
  countedAt : Nat := 0
deriving DecidableEq, Repr

/-- R137, R154–R156: one render engine. -/
structure Engine where
  running : Option Grain := none
  asleep : Bool := false
  sleepAt : Nat := 0
  lastNode : Option Nat := none
  frameGrains : Nat := 0
  /-- running and stalled cycles of the frame so far, for REn_LOAD -/
  cycles : Nat := 0
  /-- R162: given no grains until RESTART -/
  held : Bool := false
deriving DecidableEq, Repr

/-- What a node keeps within a frame: grains formed and finished, completed grains that wait for earlier ones (R157) with the
cycle of their completion and their records (for an ordered CHECKSUM_RECT, the input records), how many are through, whether it has
forwarded EOF, the input rows of a vertical SCALE with their indices in the FIFO, how many records of it those were looked for in,
and the output rows emitted, and the running CRCs of CHECKSUM_RECT by window: next row and CRC state (none: uncomputed for the
frame). -/
structure NodeRun where
  formed : Nat := 0
  finished : Nat := 0
  released : Nat := 0
  waiting : List (Nat × (Nat × List Rec × List Rec)) := []
  eofDone : Bool := false
  rows : List Rec := []
  rowIdx : List Nat := []
  seen : Nat := 0
  emitted : Nat := 0
  crc : List (Nat × Option (Nat × Nat)) := []
deriving DecidableEq, Repr

/-- R144: the strobed graph after validation: its tables, or the code and index of its first failure. -/
inductive GraphLoad
  | bad (code index : Nat)
  | good (g : Graph)
deriving DecidableEq, Repr

/-- KENNEL and RE0–RE15. -/
structure KennelSt where
  /-- the live graph -/
  graph : Option Graph := none
  /-- R145: the strobed graph: its tables, or the code and index of its first failure; whether its copy has finished -/
  next : Option GraphLoad := none
  copied : Bool := false
  /-- R158: a frame runs; its epoch; FRC of its boundary -/
  run : Bool := false
  epoch : Epoch := 0
  start : Nat := 0
  /-- R159: complete, or dropped, the frame of that epoch -/
  complete : Bool := false
  dropped : Bool := false
  fifos : List (Nat × Fifo) := []
  ready : List Grain := []
  engines : List (Nat × Engine) := []
  nodes : List (Nat × NodeRun) := []
  /-- R164: graph parameters, live and pending, and the words written since the last copy -/
  params : List (Nat × Word) := []
  pendParams : List (Nat × Word) := []
  dirty : List Nat := []
  /-- KNL_INFLIGHT: most grains in flight since a write -/
  mostInFlight : Nat := 0
  /-- KNL_WAITSUMp: waiting cycles below its unit of 1,024, by priority -/
  waitRem : List (Nat × Nat) := []
deriving DecidableEq, Repr

/-! ## Calibration (06) -/

/-- A CALIB command that runs (R197): a COPY, or a COMMIT with its target epoch, whether its validation has finished, and the
ring index that waits for it when it came as a descriptor. -/
inductive CalibRun
  | copy
  | commit (target : Option Epoch) (validated : Bool)
deriving DecidableEq, Repr

/-- CALIB (R181–R201). -/
structure CalibSt where
  /-- R181: VALID, and BANK (true is B) -/
  valid : Bool := false
  bankB : Bool := false
  run : Option CalibRun := none
  /-- ring and command index of the descriptor that issued the running command -/
  owner : Option (Nat × Nat) := none
  /-- R190: latest report of a tile: temperature and epoch; tiles that have reported since the bank became live -/
  report : List (Nat × (Int × Epoch)) := []
  since : List Nat := []
  /-- R190: T_u of a tile, where it differs from T_FALLBACK; tiles that are not stale -/
  used : List (Nat × Int) := []
  fresh : List Nat := []
  /-- R191: live and pending G_c of a tile -/
  gain : List (Nat × (Nat × Nat × Nat)) := []
  nextGain : List (Nat × (Nat × Nat × Nat)) := []
  /-- R193: live and pending P_z, by zone, where they differ from 65,536 -/
  power : List (Nat × Nat) := []
  nextPower : List (Nat × Nat) := []
  /-- R195: gain work after a frame: whether the frame completed; none when no work is due. Whether it has finished -/
  work : Option Bool := none
  ready : Bool := false
  /-- R192: the sums of the frame being rendered, and of the last completed one -/
  sum : List (Nat × Nat) := []
  lastSum : List (Nat × Nat) := []
  /-- R194: epoch of the last write of CALIB_SAFE_INz; S′_z; zones whose input is stale -/
  safeAt : List (Nat × Epoch) := []
  safe : List (Nat × Nat) := []
  safeStale : List Nat := []
  /-- R195: g_z, where it differs from 65,536 -/
  gz : List (Nat × Nat) := []
  /-- R200: pending self-calibration coefficients, by register offset; class 1 values whose boundary has passed -/
  scPend : List (Nat × Word) := []
  scDue : List Nat := []
deriving DecidableEq, Repr


/-! ## Drive plans (07) -/

/-- PLAN (R216–R228). -/
structure PlanSt where
  /-- R216: layouts that fail the fit check: node index and layout -/
  fitFail : List (Nat × Nat) := []
  /-- R223, R224: plans sent with a flag: tile, epoch, SNIFF, SHOWDET -/
  flagged : List (Nat × (Epoch × Bool × Bool)) := []
  /-- R224: the mask epoch of a tile -/
  maskEpoch : List (Nat × Epoch) := []
  /-- R225: the epochs that a tile's REPORTs say it latched: tile and epoch -/
  latched : List (Nat × Epoch) := []
  /-- R228: a CLEAR runs -/
  clearing : Bool := false
deriving DecidableEq, Repr


/-! ## Vocon (08) -/

/-- One tile's plan of one epoch in staging (R246–R253). -/
structure TilePlan where
  epoch : Epoch
  /-- R246: port of the route at the tile's first record -/
  port : Nat
  /-- R247: F as it stood at the tile's first record -/
  frag : Nat
  /-- PLAN_LEN, once the preamble is staged -/
  len : Option Nat := none
  /-- byte ranges staged: first and one past the last -/
  ranges : List (Nat × Nat) := []
  void : Bool := false
  /-- fragments that have become ready, and that have started on the wire -/
  ready : List Nat := []
  sent : List Nat := []
  /-- R253: fragments resent -/
  resent : Nat := 0
  /-- R238: the tile has been counted in VCN_PLAN_UNSENT_CNT for this epoch -/
  unsent : Bool := false
deriving DecidableEq, Repr

/-- A fragment in a port's queue (R247, R248). -/
structure Frag where
  tile : Nat
  epoch : Epoch
  idx : Nat
  resend : Bool
deriving DecidableEq, Repr

/-- VOCON (R232–R264). -/
structure VoconSt where
  /-- by 2 × tile + parity of the epoch -/
  plans : List (Nat × TilePlan) := []
  /-- the ports' queues: resends first, then first sends -/
  queue : List (Nat × List Frag) := []
  /-- R237, R238: frames sent, by (DST_ID, EPOCH) packed as DST_ID × 2³² + EPOCH -/
  seq : List (Nat × Nat) := []
  /-- R249: epochs whose resend window is open, with T; R250: void epochs, newest first -/
  windows : List (Epoch × Int) := []
  voids : List Epoch := []
  /-- R242: the key slot last applied with AUTH ≠ 0, and how often it had been loaded then -/
  slot : Option (Nat × Nat) := none
  /-- R256: the HEALTH bytes that a tile has last reported, for the host, unread -/
  health : List (Nat × Bytes) := []
  /-- R87: the TS32 of a tile's last frame and the LATCH_TS32 of its last REPORT, each extended to local time in ns at its arrival -/
  stamps : List (Nat × Int) := []
  latches : List (Nat × Int) := []
deriving DecidableEq, Repr


/-! ## HEEL and verification (09) -/

/-- The HEEL of one render epoch (R268–R274). Times are local time in units of 2⁻¹⁶ ns. -/
structure HeelEp where
  epoch : Epoch
  t : Int
  /-- the next copy to send; 3 when none is left -/
  copy : Nat := 0
  /-- R270: copies whose scheduled time a forward step has carried local time past -/
  passed : List Nat := []
  missed : Bool := false
  void : Bool := false
  apply : Bool := false
  gen : Word := 0
  /-- R283: the frame period less the offset in T, in ns -/
  room : Nat := 0
deriving DecidableEq, Repr

/-- R283: one bank of verification: its epoch, whether it is open, whether VER_CTRL.EN stood at its boundary, the expected CRCs
by window, the windows compared, exempted and uncomputed, and how many mismatched. -/
structure VerBank where
  epoch : Epoch := 0
  opened : Bool := false
  expected : List (Nat × Word) := []
  compared : List Nat := []
  kept : List Nat := []
  bad : Nat := 0
  uncomputed : List Nat := []
  /-- R285: foreign entries counted: tile and window -/
  foreign : List (Nat × Nat) := []
deriving DecidableEq, Repr

/-- HEEL and the check windows. -/
structure HeelSt where
  /-- R268: the epochs whose T is fixed and not yet past, newest first -/
  eps : List HeelEp := []
  /-- R283: the banks, by parity of the epoch -/
  banks : List (Nat × VerBank) := []
deriving DecidableEq, Repr


/-! ## Fixture output (10) -/

/-- One source of an input universe (R305, R306, R310). -/
structure SacnSource where
  /-- the CID; 2¹²⁸ + p for the DMX input of port p -/
  cid : Nat
  prio : Nat
  seq : Nat
  /-- the START code and the slots that take part in the merge; empty while none do -/
  data : Bytes
  /-- R306: data held for a synchronisation address -/
  held : Option (Nat × Bytes) := none
  /-- order of arrival of its latest accepted packet -/
  order : Nat
deriving DecidableEq, Repr

/-- What a port's RDM transaction waits for (R312): the packet it must come behind, a response, or the time of a broadcast. -/
inductive Rdm | none | queued | response (discovery : Bool) | broadcast
deriving DecidableEq, Repr

/-- FIXTURE (R291–R312). -/
structure FixtureSt where
  /-- R297: graph parts, by 2 × universe index + parity: epoch and payload -/
  graph : List (Nat × (Epoch × Bytes)) := []
  /-- R299: queued overrides: universe index, slot − 1, mask, value -/
  overs : List (Nat × Nat × Bool × Nat) := []
  /-- R301: composed data packets that wait: universe index, epoch -/
  queue : List (Nat × Epoch) := []
  /-- R300, R302: sequence numbers -/
  seq : List (Nat × Nat) := []
  syncSeq : Nat := 0
  /-- R303: universes that have been sending; Stream_Terminated packets still to send, by universe index -/
  sending : List Nat := []
  term : List (Nat × Nat) := []
  /-- R303: FRC at which a universe's next terminated packet is due, 1 ms after the one before it -/
  termAt : List (Nat × Nat) := []
  /-- R306: sources of an input universe -/
  src : List (Nat × List SacnSource) := []
  arrivals : Nat := 0
  /-- R309: DMX output ports: FRC at which the port's last packet, request or transaction ends -/
  dmxFree : List (Nat × Nat) := []
  rdm : List (Nat × Rdm) := []
  /-- R312: ports on which a transaction has run since their last packet -/
  rdmRan : List Nat := []
  /-- R302: the epoch whose synchronisation packet has been sent -/
  syncSent : Option Epoch := none
deriving DecidableEq, Repr


/-! ## Serial ports (11) -/

/-- R309: a DMX or RDM packet as its port sends it: the FRC of its break's falling edge and of its end, the nanoseconds of the break
and of the mark behind it, and its bytes. -/
structure DmxOut where
  start : Nat
  ends : Nat
  low : Nat
  mark : Nat
  data : Bytes
deriving DecidableEq, Repr

/-- One UART with its transceiver (R316–R335). -/
structure Uart where
  /-- R326: receive entries, oldest first, each with the local time of its start edge -/
  rx : List (Nat × Int) := []
  /-- R330: transmit entries, oldest first: bit 11 a break, bits [8:0] the character -/
  tx : List Nat := []
  /-- the entry in the transmit shifter, and the FRC at which it started -/
  shifter : Option Nat := none
  sentAt : Nat := 0
  /-- R321, R331: the FRC at which the entry last sent ends, and the DIV it is sent at -/
  sentEnds : Nat := 0
  sentDiv : Nat := 0
  /-- R321, R330: the nanoseconds of a break in the shifter and of the mark behind it, as they were when it started -/
  sentBrk : Nat × Nat := (0, 0)
  /-- R309: packets of the fixture block that the port sends, oldest first, not yet heard by its own receiver -/
  packets : List DmxOut := []
  /-- R331: the driver is enabled -/
  driver : Bool := false
  /-- R331: TX_DONE has been set since the last entry started -/
  idleSeen : Bool := true
  /-- R328: summary flags, bits [4:0] as in UARTn_LSR, and the armed clears -/
  summary : Nat := 0
  armed : Nat := 0
  /-- R327: the next entry pushed carries OVR -/
  ovrNext : Bool := false
  /-- R329: the FRC of the last push or read of UARTn_DATA; RX_TMO character times have passed since then -/
  quiet : Nat := 0
  timedOut : Bool := false
  /-- R324: a character of zeros with a space stop bit is held; the entry's NOISE and PE flags, and the FRC of its
  start edge -/
  held : Option (Nat × Nat) := none
  /-- R324: a break runs; the FRC of its falling edge -/
  inBreak : Bool := false
  breakFrom : Nat := 0
  /-- R325 -/
  stuck : Bool := false
  /-- the filtered receiver level: true is mark -/
  line : Bool := true
  /-- R321: recent writes of UARTn_FMT, newest first: the FRC of each and the value it replaced -/
  formats : List (Nat × Word) := []
  /-- R333: the FRC at which the port last began to run -/
  enAt : Nat := 0
deriving DecidableEq, Repr

/-- The 64 UARTs. -/
structure UartSt where
  port : List (Nat × Uart) := []
  /-- R462: ports whose drivers wait, since a takeover, for their next start bit or break -/
  waiting : List Nat := []
deriving DecidableEq, Repr

/-! ## Sentence hub and Signal Map (12) -/

/-- R344: a rule, as Clodar holds it. -/
structure Rule where
  key : Bytes
  mask : Nat
  en : Bool
  prio : Nat
  action : Nat
  srcPorts : Nat
  dstPorts : Nat
  dstGroups : Nat
  sel : Nat
  minIvl : Nat
deriving DecidableEq, Repr

/-- R362: a composer. -/
structure Composer where
  en : Bool
  prio : Nat
  period : Nat
  dstGroups : Nat
  dstPorts : Nat
  fmt : Bytes
  template : Bytes
deriving DecidableEq, Repr

/-- R355: a Signal Map entry. -/
structure MapEntry where
  srcKind : Nat
  stale : Nat
  fmt : Nat
  srcA : Nat
  srcB : Nat
  aux0 : Nat
  aux1 : Nat
  maxAge : Nat
  dstKind : Nat
  wide : Bool
  dstAddr : Nat
  a : Int
  b : Int
  lo : Int
  hi : Int
deriving DecidableEq, Repr

/-- R354: a bank of rules, composers and Signal Map entries, with the bytes of its tables (R470, class 4). -/
structure HubBank where
  rules : List Rule := []
  comps : List Composer := []
  entries : List MapEntry := []
  ruleBytes : Bytes := []
  compBytes : Bytes := []
  mapBytes : Bytes := []
deriving DecidableEq, Repr

/-- R354: the bank strobed last: the first failure of each block (code and index), and whether the copies have finished. -/
structure HubLoad where
  bank : HubBank
  ruleErr : Option (Nat × Nat)
  mapErr : Option (Nat × Nat)
  copied : Bool := false
deriving DecidableEq, Repr

/-- R340–R342, R345: a sentence whose LF has arrived: port, characters, timestamp (2⁻¹⁶ ns), epoch, and the rules live at its LF. -/
structure Sentence where
  port : Nat
  chars : Bytes
  time : Int
  epoch : Epoch
  rules : List Rule := []
deriving DecidableEq, Repr

/-- R346: the holder of a selection group, and the timestamp of the last sentence it passed. -/
structure Holder where
  rule : Nat
  port : Nat
  prio : Nat
  last : Int
deriving DecidableEq, Repr

/-- R365: what the last pass found for an entry: x, v, age, and the state of SIGMAP_LAST_STATE. -/
structure MapResult where
  x : Int := 0
  v : Int := 0
  age : Nat := 0
  state : Nat := 3
deriving DecidableEq, Repr

/-- HUB and SIGMAP. -/
structure HubSt where
  live : HubBank := {}
  next : Option HubLoad := none
  /-- R339: the sentence under way on a port: its characters so far and its timestamp -/
  building : List (Nat × (Bytes × Int)) := []
  /-- complete sentences that wait to be checked -/
  ready : List Sentence := []
  holders : List (Nat × Holder) := []
  /-- R347: timestamp of the last sentence a rule passed -/
  passed : List (Nat × Int) := []
  /-- R349: a port's queued sentences in the order of arrival: priority and characters -/
  txq : List (Nat × List (Nat × Bytes)) := []
  /-- R351: line count of a group's last datagram -/
  lineCnt : List (Nat × Nat) := []
  /-- R362: composed fields the last pass wrote, by 16 × composer + field -/
  fields : List (Nat × Int) := []
  /-- R365: results of the last pass, by entry -/
  results : List (Nat × MapResult) := []
  /-- R361: the pass before the next boundary ends late -/
  late : Bool := false
deriving DecidableEq, Repr

/-! ## Ethernet ports (13) -/

/-- What a frame in a transmit queue is, where its departure has an effect of its own: a PLAN fragment, a HEEL copy with T, a
synchronisation packet with its scheduled time, a sACN data packet with its epoch, a host frame with its ring and command index, a PTP message with the stamp it carries; another Vocon frame to a tile, with the ring, command index and bytes of a
posted far write's piece; the last piece of such a write, with its ring, command index, bytes in all, offset in the window and own bytes. -/
inductive TxUse
  | plain
  | plan (tile : Nat) (epoch : Epoch) (idx : Nat) (resend : Bool)
  | heel (epoch : Epoch) (t : Int)
  | sync (due : Int)
  | sacn (epoch : Option Epoch)
  | host (ring idx : Nat)
  | cfg (owner : Option (Nat × Nat)) (bytes : Nat)
  | far (ring idx bytes off last : Nat)
  | ptp (kind seq : Nat) (stamp : Int) (clock : Nat)
deriving DecidableEq, Repr

/-- A frame in a transmit queue: its bytes from the destination address, without padding and FCS, and a stamp ID (R83). -/
structure TxFrame where
  queue : Nat
  bytes : Bytes
  use : TxUse := .plain
  stamp : Option Nat := none
deriving DecidableEq, Repr

/-- One MAC with its physical layer (R367–R389). -/
structure MacPort where
  /-- R372: frames that wait, in the order they were queued -/
  txq : List TxFrame := []
  /-- R374: the last frame to start was preemptable, and has been preempted -/
  bulk : Bool := false
  cut : Bool := false
  /-- R374: when that frame's current fragment started; its octets left from there on, and from the preemption on once it has been
  preempted; when the express frames that preempted it end. Times are in units of 10 ps of FRC -/
  fragAt : Nat := 0
  bulkLeft : Nat := 0
  expEnd : Nat := 0
  /-- R376, R377: paused queues: when the pause took hold and when it ends, in units of 10 ps of FRC -/
  pause : List (Nat × (Nat × Nat)) := []
  /-- R379: the end of the Leash hold, in the same unit -/
  hold : Option Nat := none
  /-- R378: flow control is asserted to the partner; when its last frame left -/
  fc : Option Nat := none
  /-- R373: MACn_PREEMPT_STAT.verify -/
  verify : Nat := 0
  /-- R373: attempts made, and when the last one was -/
  verifyTries : Nat := 0
  verifyAt : Nat := 0
  /-- MACn_LINK -/
  up : Bool := false
  speed : Nat := 0
  fec : Nat := 0
  anDone : Bool := false
  block : Bool := false
  pauseAdv : Nat := 0
  /-- R385 -/
  downshifted : Bool := false
  /-- R385: since when the port's traffic is measured; octets received and sent since -/
  dsAt : Nat := 0
  dsRx : Nat := 0
  dsTx : Nat := 0
  /-- R387: transmit SAs whose PN 0xFFFF_FFFF has been sent -/
  spent : List Nat := []
deriving DecidableEq, Repr

/-- The 37 MACs. -/
structure MacSt where
  port : List (Nat × MacPort) := []
deriving DecidableEq, Repr

/-! ## Host interface (14) -/

/-- HOST_RINGr_STAT.STATE, in its coding. -/
inductive RingState | disabled | running | stopped | draining
deriving DecidableEq, Repr

/-- R404: a command descriptor as fetched. -/
structure Desc where
  opcode : Nat
  atEpoch : Bool
  irq : Bool
  fence : Bool
  tag : Nat
  len : Nat
  epoch : Epoch
  addr : Nat
  addr2 : Nat
  args : List Word
deriving DecidableEq, Repr

/-- What a command that has started waits for. -/
inductive Work
  /-- not started -/
  | idle
  /-- a DMA: its bytes in flight, and the bytes of them dropped by R409 -/
  | dma (data : Bytes) (dropped : Nat)
  /-- a CALIB command -/
  | calib
  /-- an UPDATE: its groups -/
  | update (groups : Nat)
  /-- an EPOCH_WAIT -/
  | epochWait
  /-- a TX_FRAME in MAC queue q of a port -/
  | tx (port queue : Nat)
  /-- an RX_POST -/
  | rxPost
  /-- a far-bridge operation: pieces not yet answered -/
  | far (pieces : Nat)
  /-- a Sheaf or brace operation -/
  | sheaf
  | brace
  /-- a firmware update operation -/
  | upd
deriving DecidableEq, Repr

/-- A command that has been fetched and not yet completed. -/
structure Cmd where
  idx : Nat
  desc : Desc
  started : Bool := false
  work : Work := .idle
  /-- R496: its place in the order of fetching over all rings -/
  seq : Nat := 0
deriving DecidableEq, Repr

/-- One descriptor ring (R396–R403). -/
structure Ring where
  state : RingState := .disabled
  err : Nat := 0
  cmdTail : Nat := 0
  fetch : Nat := 0
  cplTail : Nat := 0
  cplHead : Nat := 0
  /-- fetched commands, in index order -/
  cmds : List Cmd := []
  /-- R413: indices of the completions in the ring whose CFLAGS.IRQ is 1 -/
  irqs : List Nat := []
deriving DecidableEq, Repr

/-- HOST: the link, the rings and the owner's memory. -/
structure HostSt where
  ring : List (Nat × Ring) := []
  /-- the memory of the PCIe host, by bus address; an unlisted byte reads 0 -/
  mem : List Host.Cell := []
  /-- HOST_LINK -/
  up : Bool := false
  gen : Nat := 0
  width : Nat := 0
  /-- R393: log₂ of the BAR4 size -/
  bar4 : Nat := 28
  /-- R414: the function's MSI-X Enable and Function Mask bits -/
  msixEn : Bool := false
  funcMask : Bool := false
  /-- R414: the PBA: vectors whose message is held by a mask -/
  pba : List Nat := []
  /-- R496: commands fetched -/
  fetched : Nat := 0
  /-- R412: the ring served last, by priority -/
  lastRing : List (Nat × Nat) := []
deriving DecidableEq, Repr

/-! ## Far bridge (15) -/

/-- How a piece of a far operation ended: its status (0, TIMEOUT or FAR_ERROR), the far status, the data read, the cycle and the
header EPOCH of the response. -/
structure PieceEnd where
  status : Nat
  far : Nat
  data : Bytes
  at_ : Nat
  epoch : Epoch
deriving DecidableEq, Repr

/-- R420: one piece: its serial, target address and length, the data it writes, when and in which epoch it was last sent, the
resends left, and how it ended. -/
structure Piece where
  serial : Nat
  addr : Nat
  bytes : Nat
  data : Bytes
  sentAt : Option Nat := none
  sentEpoch : Epoch := 0
  left : Nat
  res : Option PieceEnd := none
deriving DecidableEq, Repr

/-- R417–R424: an operation that is outstanding, with the window's settings as it took them. `owner` is its ring and index; a read
ahead has none. -/
structure FarOp where
  owner : Option (Nat × Nat)
  win : Nat
  target : Nat
  write : Bool
  posted : Bool
  prefetch : Bool
  ahead : Bool
  age : Nat
  rbase : Nat
  size : Nat
  start : Nat
  len : Nat
  dst : Nat
  pieces : List Piece
  /-- R420, R424: a write has started on the window, or group 10 has been applied, since: what is read is not kept -/
  stale : Bool := false
deriving DecidableEq, Repr

/-- R424: a window's prefetch buffer: its block, the words delivered from it, and the cycle at which PF_AGE has passed. -/
structure FarBuf where
  block : Nat
  data : Bytes
  seen : List Nat
  until_ : Nat
  target : Nat
  tag : Nat
  sentEpoch : Epoch
  rspEpoch : Epoch
deriving DecidableEq, Repr

/-- R427, R428: a poll that has no answer yet: the cycle and the epoch in which it was sent, and the address it reads. -/
structure FarPoll where
  sentAt : Nat
  epoch : Epoch
  addr : Nat
deriving DecidableEq, Repr

/-- FARBR (R416–R428). -/
structure FarSt where
  /-- R421 -/
  serial : Nat := 0
  /-- operations outstanding, in the order in which they started -/
  ops : List FarOp := []
  /-- R424: by window -/
  bufs : List (Nat × FarBuf) := []
  /-- R422: the history of posted pieces, by serial: target, address, epoch -/
  hist : List (Nat × (Nat × Nat × Epoch)) := []
  /-- R427: polls not answered, by tile; the tile after the last one that a poll was due for, and the cycle of that poll -/
  polls : List (Nat × FarPoll) := []
  pollNext : Nat := 0
  pollAt : Option Nat := none
deriving DecidableEq, Repr


/-! ## Interrupt controller (16) -/

/-- R435–R442: what the controller holds for one control core. -/
structure Core where
  /-- INTC_Cc_STATE.IE: the core's own interrupt-enable flag -/
  ie : Bool := false
  /-- the core sleeps while it waits for an interrupt -/
  sleeping : Bool := false
  /-- R437: the source offered -/
  offer : Option Nat := none
  /-- sources in service, the active one first, with the class and PRIO they were entered under -/
  insvc : List (Nat × Bool × Nat) := []
  /-- R442: members of the moderation window, and the cycle it opened in; sources it has released and that are not yet offered -/
  window : List Nat := []
  opened : Nat := 0
  released : List Nat := []
deriving DecidableEq, Repr

/-- INTC. Sources are kept by number: their configuration, and the numbers whose PEND and whose MASK bit is 1. -/
structure IntcSt where
  src : List (Nat × Word) := []
  pend : List Nat := []
  mask : List Nat := []
  cores : List (Nat × Core) := []
  /-- INTC_RR -/
  rr : Nat := 0
  /-- R443: vectors whose condition is 1 and whose rise has been answered by a message or is held back -/
  risen : List Nat := []
  /-- R443: vectors that have sent a message within the moderation time, with its cycle, and of those the ones with a rise held
  back -/
  quiet : List (Nat × Nat) := []
  held : List Nat := []
deriving DecidableEq, Repr

/-! ## Brace redundancy (17) -/

/-- R459, in the coding of BRACE_STATE. -/
inductive BraceState | off | seek | sync | standby | active | released
deriving DecidableEq, Repr

/-- R452: what a STATE frame says of one render epoch and of its sender. -/
structure StateMsg where
  bstate : Nat := 0
  r : Epoch := 0
  dropped : Bool := false
  void : Bool := false
  dsum : Nat := 0
  dxor : Nat := 0
  dcount : Nat := 0
  inputCrc : Nat := 0
  ingestSrc : Nat := 0
  health : Nat := 0
  graphGen : Word := 0
  calibGen : Word := 0
  epochAdj : Word := 0
  compat : Nat := 0
  activeEpochs : Word := 0
  cause : Nat := 0
  /-- the Sheaf digest, 32 bytes big-endian -/
  sheaf : Nat := 0
  srcId : Nat := 0
deriving DecidableEq, Repr

/-- R458: the time-critical content of an ECHO REPORT that waits for step 1 of a boundary: when it is due, the tile, the header
EPOCH and the payload. -/
structure Deferred where
  due : Epoch
  tile : Nat
  epoch : Epoch
  payload : Bytes
deriving DecidableEq, Repr

/-- BRACE (R445–R468). -/
structure BraceSt where
  state : BraceState := .off
  /-- R453: the digest of the epoch being rendered: DSUM, DXOR, DCOUNT; R454: its INPUT_CRC -/
  dsum : Nat := 0
  dxor : Nat := 0
  dcount : Nat := 0
  inputCrc : Nat := 0
  /-- R460: causes of release that have arisen and wait, oldest first -/
  faults : List Nat := []
  /-- R460: CAUSE of the last release -/
  cause : Nat := 0
  /-- R450, R451: SEQ of the next frame sent, and of the last accepted -/
  txSeq : Nat := 0
  rxSeq : Option Nat := none
  /-- the epoch in which the last brace frame was accepted -/
  heard : Option Epoch := none
  /-- R457: own STATEs and the partner's of the last epochs, newest first; the STATE that waits to be sent -/
  own : List StateMsg := []
  theirs : List StateMsg := []
  toSend : Option StateMsg := none
  /-- epoch in which the partner's last STATE was accepted -/
  stateAt : Option Epoch := none
  /-- R459: epochs in SEEK in which the partner, in SEEK too, was heard; R462: boundaries in silence -/
  seekHeard : Nat := 0
  /-- since the last boundary, a STATE of a partner in SEEK arrived; its device ID -/
  seekFrom : Option Nat := none
  quiet : Nat := 0
  /-- boundaries in a row without an edge of BRACE_SB3 -/
  still : Nat := 0
  /-- since the last boundary: BRACE_SB3 toggled; a brace frame arrived -/
  toggled : Bool := false
  framed : Bool := false
  /-- R461: consecutive matching STATEs -/
  matched : Nat := 0
  /-- R462: a takeover is scheduled: the FRC of its detection -/
  takeover : Option Nat := none
  /-- R463: a handover at an epoch -/
  handover : Option Epoch := none
  /-- R468: the descriptor whose HANDOVER runs: ring and index -/
  owner : Option (Nat × Nat) := none
  /-- R462, R463: the first epoch this device sends as ACTIVE; after a handover, the first it no longer sends -/
  outFrom : Option Epoch := none
  outUntil : Option Epoch := none
  /-- R456: the next engine of the self-test, engines passed in the running cycle, epoch of the last whole cycle, and the engines
  whose last known-answer test failed -/
  katNext : Nat := 0
  katPassed : Nat := 0
  katCycle : Option Epoch := none
  katFail : List Nat := []
  /-- R456: the test of this epoch has run -/
  katRan : Bool := false
  /-- R457: a confirmation test runs; it has passed and waits for the partner's next STATE -/
  confirm : Bool := false
  confirmed : Bool := false
  /-- R455: an uncorrectable DRAM error since reset; a parity failure under action 0b01 -/
  dramUe : Bool := false
  parity : Bool := false
  /-- the sideband lines: SB1 as driven, SB2 and SB3 as received -/
  sb1 : Bool := false
  sb2 : Bool := false
  sb3 : Bool := false
  /-- R458 -/
  deferred : List Deferred := []
deriving DecidableEq, Repr

/-! ## Sheaf (18) -/

/-- R478: an arm that is held. -/
structure Arm where
  epoch : Epoch
  gen : Word
  groups : Nat
  calib : Bool
  tilesOnly : Bool
  targets : List Nat
  acked : List Nat := []
  /-- R50: staging copies of the armed groups: group, copy, words whose parity fails -/
  staged : List (Nat × (List (Nat × Word) × List Nat))
  /-- the descriptor that armed: ring and index -/
  owner : Option (Nat × Nat) := none
deriving DecidableEq, Repr

/-- R480: HEEL copies that carry APPLY: the generation, the arm's E, whether an epoch's copy 0 has been sent, and how many
epochs are left after it. -/
structure Carry where
  gen : Word
  first : Epoch
  sent : Bool := false
  left : Nat
deriving DecidableEq, Repr

/-- SHEAF (R470–R482). A digest is a number below 2²⁵⁶, its first byte the most significant. -/
structure SheafSt where
  /-- R470: class digests; those being computed, with the digest they will have -/
  cls : List (Nat × Nat) := []
  busy : List (Nat × Nat) := []
  /-- R472: the published digest -/
  published : Nat := 0
  /-- R480: EXP_SEL -/
  expSel : Bool := false
  arm : Option Arm := none
  carry : Option Carry := none
  /-- R480, R482: the epoch of an arm that was not applied: its HEEL copies carry APPLY = 0 -/
  noApply : Option Epoch := none
  /-- R470: FRC at which the last sweep began -/
  sweepAt : Nat := 0
  /-- R473: consecutive STATEs with a differing digest -/
  differ : Nat := 0
  /-- R482: opcode 0x32 commands that wait for the next publication: ring and index -/
  waiters : List (Nat × Nat) := []
deriving DecidableEq, Repr

/-! ## Security (19) -/

/-- R488: a slot of the key store that holds a key: its receiving engine, the key, and ORIGIN. -/
structure KeySlot where
  engine : Nat
  key : Bytes
  origin : Nat
deriving DecidableEq, Repr

/-- R492: a stored copy: the slot's contents, and those bytes as the security area holds them, wrapped under the PERSIST key. -/
structure StoredKey where
  slot : KeySlot
  wrapped : Bytes
deriving DecidableEq, Repr

/-- What SEC_STATE[2:0] reads but for HELD, which R499 lays over it; enrolment is part of the start (BOOT). -/
inductive SecState | booting | ready | nokey
deriving DecidableEq, Repr

/-- SEC (R485–R502). The tamper latch, its counter and its time are registers of the TAMPER domain. -/
structure SecSt where
  state : SecState := .booting
  /-- R488: the VALID slots -/
  slots : List (Nat × KeySlot) := []
  /-- R242: how often a slot has been loaded by KEY_LOAD or KEY_UNWRAP -/
  loads : List (Nat × Nat) := []
  /-- R492: the stored copies in the security area -/
  stored : List (Nat × StoredKey) := []
  /-- slots restored at the last start -/
  restored : Nat := 0
  /-- R497: sources that read active; the enclosure-switch balls that read high -/
  raw : List Nat := []
  enc : List Nat := []
  /-- R497: the junction temperature, in °C, that TEMP was last sensed at -/
  junction : Option Int := none
  /-- R500: an erase waits for the next start -/
  eraseDue : Bool := false
  /-- R498: a maintenance window is open; when it ends, on the time base of SBY_RTC in cycles of 0.8 ns -/
  maint : Bool := false
  maintEnd : Int := 0
  /-- R487, R502, R519: the fuses ENROLLED, DBG_FUSE and IMG_INPLACE -/
  enrolled : Bool := false
  dbgFuse : Bool := false
  inPlace : Bool := false
  /-- R486: the security area holds a wrapped device secret: which secret it is, and its wrapped form; which helper data it holds -/
  secret : Option Nat := none
  wrapped : Bytes := []
  helper : Option Nat := none
  /-- R501: the zeroising line has fired since the last reset, before the slots of this start were installed -/
  struck : Bool := false
  /-- R487, R524: the signing-key digest in the security area -/
  signer : Bytes := []
deriving DecidableEq, Repr

/-! ## Check units (20) -/

/-- R511: what a check unit holds for the port it serves. -/
structure CheckUnit where
  /-- 0 not attached, 1 transmit append, 2 receive check and strip; the port -/
  dir : Nat := 0
  port : Nat := 0
  /-- entries held back, oldest first, with the local time of their start edges -/
  held : List (Nat × Int) := []
  /-- characters of the frame so far, and whether one of them carried FE, PE, NOISE or OVR -/
  chars : Nat := 0
  /-- the FRC of the start edge of the last character -/
  last : Nat := 0
  bad : Bool := false
deriving DecidableEq, Repr

/-- The eight units. -/
structure CheckSt where
  unit : List (Nat × CheckUnit) := []
deriving DecidableEq, Repr

/-! ## Firmware update (21) -/

/-- What a bootable image brings with it (R514): its COMPAT word, SEC_VERSION and NEXT_KEY. -/
structure ImageInfo where
  compat : Nat := 0
  secVersion : Nat := 0
  nextKey : Bytes := []
deriving DecidableEq, Repr

/-- R519: the open session: its number, the image's length and block size, the distinct blocks held, whether VERIFY has come, and
FRC of its last valid message. -/
structure UpdSession where
  id : Nat
  len : Nat
  block : Nat
  held : List Nat := []
  verified : Bool := false
  last : Nat
deriving DecidableEq, Repr

/-- Whom the end of a VERIFY answers: the sender of the message, or a descriptor by ring and index. -/
inductive UpdAsker
  | net (peer : Peer) (session : Nat)
  | ring (r i : Nat)
deriving DecidableEq, Repr

/-- UPD_STATE[3:0] but for TRIAL and RECOVERY, which are kept apart. -/
inductive UpdState | idle | receiving | verifying | writing | ready
deriving DecidableEq, Repr

/-- R522: the trial request in the boot record: UPD_HEALTH_WINDOW, and the staging base. -/
structure TrialReq where
  window : Nat
  base : Nat
  /-- FRC at the release of the reset that follows; that reset has come -/
  released : Nat := 0
  armed : Bool := false
deriving DecidableEq, Repr

/-- UPD (R514–R528). -/
structure UpdSt where
  state : UpdState := .idle
  session : Option UpdSession := none
  asker : Option UpdAsker := none
  /-- the image that is being written, or is READY -/
  image : Option ImageInfo := none
  /-- the image slots A and B of R30, as far as the boot record marks them valid -/
  slotA : Option ImageInfo := some {}
  slotB : Option ImageInfo := none
  /-- the running image: none in RECOVERY -/
  run : Option ImageInfo := some {}
  /-- the boot slot, and the slot of the running image: true is B -/
  bootB : Bool := false
  runB : Bool := false
  request : Option TrialReq := none
  /-- R523: the trial runs: the FRC at which the health timer expires -/
  trial : Option Nat := none
  /-- R525: the trial of a slot, B for true, has ended in fallback; the next boot acts on it -/
  fell : Option Bool := none
  /-- the resident loader stays in RECOVERY -/
  recovery : Bool := false
  /-- UPD_SECVER -/
  secver : Nat := 0
deriving DecidableEq, Repr

/-! ## Power states, boot and background work (22) -/

/-- The power state (R530, R538): OFF, STANDBY, or MAIN powered (SHOW, IDLE, and the boot before them). -/
inductive PowerState | off | standby | up
deriving DecidableEq, Repr

/-- R531: the kinds of reset. -/
inductive ResetKind | powerOn | pin | warm | update
deriving DecidableEq, Repr

/-- RESET and POWER: the state machine, the supplies, the clocks' locks, and the standby domain's flags. -/
structure PowerSt where
  state : PowerState := .up
  /-- R538: SHOW holds -/
  inShow : Bool := false
  /-- R536: show-ready -/
  ready : Bool := false
  /-- the boot that follows the last reset has not ended; the reset's kind; it followed a wake -/
  bootDue : Bool := true
  kind : ResetKind := .powerOn
  woke : Bool := false
  /-- R539: a transition waits for the next boundary: true to SHOW, false to IDLE -/
  request : Option Bool := none
  /-- R540: entry to STANDBY has begun -/
  entering : Bool := false
  /-- the supplies within range -/
  v12 : Bool := true
  v33 : Bool := true
  /-- R541, R530: a wake is held: MAIN is powering down, or 12 V is absent -/
  wake : Bool := false
  /-- R537: stage overruns in a row -/
  overruns : Nat := 0
  /-- R36: PLL_MAIN has locked since the last reset; what has lost lock since, with the ports whose links it took down, or the
  PCIe link's parameters -/
  pllUp : Bool := false
  lost : List (ClockUnit × List Nat) := []
  /-- R36: lanes whose receive clock recovery has locked -/
  recovered : List Nat := []
  /-- R497: 3.3 V has come up since the last boot ended -/
  newSupply : Bool := true
  /-- R548, R35: the time since 3.3 V came up, less FRC, in cycles of 0.8 ns; it goes on while FRC stands still -/
  rtc : Int := 0
  /-- R540: the MACn_ADDR copies of the wake ports, by port -/
  wakeAddr : List (Nat × Nat) := []
  /-- R548: pattern filter words, by 64 × filter + word -/
  pattern : List (Nat × Word) := []
  /-- R384: the ports in wake-only mode -/
  wakeOnly : List Nat := []
deriving DecidableEq, Repr

/-- WINNOW and DRAM: what Winnow and the DRAM controllers keep besides their registers. -/
structure WinnowSt where
  /-- R535: the stored training results are marked invalid -/
  trainInvalid : Bool := false
  /-- R534: the training results in the configuration store, by register offset -/
  train : Option (List (Nat × Word)) := none
  /-- R533, R523: the engines that failed the known-answer test of the last boot; none before it -/
  kat : Option (List Nat) := none
  /-- R542: FRC at which the running DRAM sweep, the last SRAM sweep and the running flash refresh began -/
  dramAt : Nat := 0
  sramAt : Nat := 0
  flashAt : Nat := 0
  /-- R542: FRC of the last measurement of class 0 -/
  scAt : Nat := 0
  /-- R30: the bytes of the flash's configuration store, log and spare areas, by flash offset; an unlisted byte is erased, 0xFF -/
  flash : List Host.Cell := []
  /-- R545: the erases of flash so far -/
  erases : Nat := 0
deriving DecidableEq, Repr

/-! ## Pins (23) -/

/-- PINS: the levels at the balls and behind the glitch filters (R432, R433, R565): the numbers of the GPIO balls that are 1. -/
structure PinsSt where
  ball : List Nat := []
  filt : List Nat := []
deriving DecidableEq, Repr

/-! ## The whole device -/

/-- The state of the KZ9160. -/
structure State where
  /-- registers whose live value differs from their reset value, by canonical BAR0 offset -/
  regs : List (Nat × Word)
  /-- R47: shadows of RWB fields that differ from their reset value -/
  shadow : List (Nat × Word)
  /-- R55: configuration words whose parity bit does not match, live and shadow -/
  badLive : List Nat
  badShadow : List Nat
  /-- R50: the staging copies of the strobed groups -/
  staged : List Staged
  /-- R64: lower words of wide values last written -/
  latch : List (Nat × Word)
  /-- R60: the posted write of each slow domain whose BUSY bit is 1 -/
  posted : List (Nat × (Nat × Word))
  /-- R66: registers whose WO1 field has been written -/
  wo1Used : List Nat
  /-- the 16 GiB of DRAM; an unlisted byte reads 0 -/
  dram : List Host.Cell
  time : TimeSt
  ingest : IngestSt
  kennel : KennelSt
  /-- CALIB (06) -/
  calib : CalibSt
  /-- PLAN (07) -/
  plan : PlanSt
  /-- VOCON (08) -/
  vocon : VoconSt
  /-- HEEL and verification (09) -/
  heel : HeelSt
  /-- FIXTURE (10) -/
  fixture : FixtureSt
  /-- the UARTs (11) -/
  uart : UartSt
  /-- HUB and SIGMAP (12) -/
  hub : HubSt
  /-- the MACs (13) -/
  mac : MacSt
  /-- HOST (14) -/
  host : HostSt
  /-- FARBR (15) -/
  far : FarSt
  /-- INTC (16) -/
  intc : IntcSt
  /-- BRACE (17) -/
  brace : BraceSt
  /-- SHEAF (18) -/
  sheaf : SheafSt
  /-- SEC (19) -/
  sec : SecSt
  /-- CHECK (20) -/
  check : CheckSt
  /-- UPD (21) -/
  upd : UpdSt
  /-- WINNOW and DRAM (22) -/
  winnow : WinnowSt
  /-- PINS (23) -/
  pins : PinsSt
  power : PowerSt
  /-- what left the device in the last step -/
  out : List Sent
  /-- what the last bus read returned -/
  bus : Word
  /-- the MODEL's own: how many free values have been taken -/
  freeCtr : Nat
  /-- commands that wait, first in, first out -/
  pending : List Instr
deriving DecidableEq, Repr

/-- The machine right after a power-on reset. -/
def State.reset : State where
  regs := []
  shadow := []
  badLive := []
  badShadow := []
  staged := []
  latch := []
  posted := []
  wo1Used := []
  dram := []
  time := {}
  ingest := {}
  kennel := {}
  calib := {}
  plan := {}
  vocon := {}
  heel := {}
  fixture := {}
  uart := {}
  hub := {}
  mac := {}
  host := {}
  far := {}
  intc := {}
  brace := {}
  sheaf := {}
  sec := {}
  check := {}
  upd := {}
  winnow := {}
  pins := {}
  power := {}
  out := []
  bus := 0
  freeCtr := 0
  pending := []

end Sys2Proof.Machine
end

