-- ==== Sys2Proof/Machine/Ops.lean ====
section
/-! DEFINITION. The named operations over registers and memory: live registers and shadows, status bits and counters, WDROP and
LOCKERR (R69), the software write of a register under its access codes (R6, R47, R65–R67, R570), DRAM (R25, R26) and free
values. Everything a command does to a register or to memory goes through these. -/

namespace Sys2Proof.Machine

/-- R44: the canonical offset of the register that an offset reaches. -/
def canonOf (a : Nat) : Nat := match resolve a with
  | .at b i l => canon b i l
  | _ => a / 4 * 4

namespace State

/-! ## Registers -/

/-- The live value of the register at a canonical offset. -/
def reg (s : State) (a : Nat) : Word := Sparse.get (resetOf a) s.regs a

/-- The hardware's write of a register. -/
def setReg (s : State) (a : Nat) (v : Word) : State := { s with regs := Sparse.put (resetOf a) s.regs a v }

/-- The shadow of the register at a canonical offset (R47). -/
def sh (s : State) (a : Nat) : Word := Sparse.get (resetOf a) s.shadow a

/-- A write into a shadow. -/
def setSh (s : State) (a : Nat) (v : Word) : State := { s with shadow := Sparse.put (resetOf a) s.shadow a v }

/-- A hardware load of an RWB register: shadow and live value alike. -/
def setBoth (s : State) (a : Nat) (v : Word) : State := (s.setReg a v).setSh a v

/-- Field [hi:lo] of a live register. -/
def field (s : State) (a hi lo : Nat) : Nat := fld (s.reg a) hi lo

/-- Bit b of a live register. -/
def flag (s : State) (a b : Nat) : Bool := bit (s.reg a) b

/-- The hardware sets field [hi:lo] of a register. -/
def setField (s : State) (a hi lo v : Nat) : State := s.setReg a (setFld (s.reg a) hi lo v)

/-- The hardware sets bit b of a status register. -/
def raise (s : State) (a b : Nat) : State := s.setReg a (s.reg a ||| BitVec.ofNat 32 (2 ^ b))

/-- The hardware clears bit b of a register. -/
def lower (s : State) (a b : Nat) : State := s.setReg a (s.reg a &&& ~~~ BitVec.ofNat 32 (2 ^ b))

/-- Bit b of a register made equal to v. -/
def putBit (s : State) (a b : Nat) (v : Bool) : State := if v then s.raise a b else s.lower a b

/-- A counter counts n events; 32-bit counters wrap (DEDUCED: no rule makes them saturate, log entry 6). -/
def count (s : State) (a : Nat) (n : Nat) : State := s.setReg a (s.reg a + BitVec.ofNat 32 n)

/-- A counter counts one event. -/
def bump (s : State) (a : Nat) : State := s.count a 1

/-- A status bit is set when c holds. -/
def raiseIf (s : State) (c : Bool) (a b : Nat) : State := if c then s.raise a b else s

/-- A counter counts when c holds. -/
def bumpIf (s : State) (c : Bool) (a : Nat) : State := if c then s.bump a else s

/-- R69: a block's WDROP bit is set. -/
def wdrop (s : State) (b : Block) (i : Nat) : State := s.raise (b.status i).1 (b.status i).2.1

/-- R69: a block's LOCKERR bit is set. -/
def lockerr (s : State) (b : Block) (i : Nat) : State := s.raise (b.status i).1 (b.status i).2.2

/-- SHOW holds (R538, R539). -/
def inShow (s : State) : Bool := s.power.inShow

/-- R39, R35: the MAIN domain is powered and no clock fault holds it. -/
def mainRuns (s : State) : Bool := s.power.state == .up && !s.sec.raw.contains 5

/-- R537: the MAIN domain works: it runs, and not in RECOVERY, where only the service protocol does. -/
def mainOn (s : State) : Bool := s.mainRuns && !s.upd.recovery

/-- R545: an erase of flash counts towards its life. -/
def flashErase (s : State) : State :=
  let s : State := { s with winnow := { s.winnow with erases := s.winnow.erases + 1 } }
  s.setReg R.WIN_FLASH_LIFE (w32 (Config.flashLife s.winnow.erases % 256))

/-- R37: unit u has lost lock. -/
def unitLost (s : State) (u : ClockUnit) : Bool := (s.power.lost.lookup u).isSome

/-- The text, frame or edge x leaves the device. -/
def send (s : State) (x : Sent) : State := { s with out := s.out ++ [x] }

/-! ## Software writes -/

/-- R67: whether a block's RWL fields are locked. Only GLOBAL and SEC have RWL fields; their LOCK bit is bit 31. -/
def locked (s : State) (b : Block) : Bool :=
  match b with
  | .global => s.flag R.GLOBAL_CTRL 31
  | .sec => s.flag R.SEC_CTRL 31
  | _ => false

/-- The parity bit of a live word and of its shadow is computed anew by a write (R55, R59). -/
def fixLive (s : State) (a : Nat) : State := { s with badLive := s.badLive.filter (· != a) }
def fixShadow (s : State) (a : Nat) : State := { s with badShadow := s.badShadow.filter (· != a) }

/-- R66: the WO1 field of a register that also holds other fields. Answers the field's new bits, whether it counts as written
from now on, and whether LOCKERR is set. -/
def wo1Write (used : Bool) (m cur reset v : Word) : Word × Bool × Bool :=
  if m = 0 then (cur &&& m, used, false)
  else if used then (cur &&& m, true, (v &&& m) != (cur &&& m))
  else if (v &&& m) == (reset &&& m) then (cur &&& m, false, false)
  else (v &&& m, true, false)

/-- The software write of word v to the register of row r at offset a, instance i of block b: each field under its own access
code, with the SHOW rule of R570, the write-once rule of R66 and the lock rule of R67. RO and WO fields are not changed. -/
def writeRow (s : State) (b : Block) (i a : Nat) (r : RegRow) (v : Word) : State :=
  if s.inShow && r.out == 0xFFFFFFFF then s.wdrop b i
  else
    let outM : Word := if s.inShow then BitVec.ofNat 32 r.out else 0
    let cur := s.reg a
    let sh := s.sh a
    let rwbM := r.mask .rwb
    let present := blend cur sh rwbM
    let wo1M := r.mask .wo1
    let rwlM := r.mask .rwl
    let w := wo1Write (s.wo1Used.contains a) wo1M cur (resetOf a) v
    let wasLocked := s.locked b
    let lockNow := wasLocked || (w.1 != cur &&& wo1M)
    let rwlDiff := (v &&& rwlM) != (cur &&& rwlM)
    let lockErr := w.2.2 || (rwlM != 0 && (if wo1M != 0 then lockNow && rwlDiff else wasLocked))
    let rwM := (r.mask .rw &&& ~~~ outM) ||| (if lockNow then 0 else rwlM)
    let live := blend cur v rwM
    let live := live &&& ~~~ (v &&& r.mask .w1c)
    let live := live ||| (v &&& r.mask .w1s)
    let live := blend live w.1 wo1M
    let s := s.setReg a live
    let s := if rwM = 0 && wo1M = 0 then s else s.fixLive a
    let rwbNow := rwbM &&& ~~~ outM
    let s := if rwbM = 0 then s else (s.setSh a (blend sh v rwbNow)).fixShadow a
    let s := if w.2.1 && !s.wo1Used.contains a then { s with wo1Used := a :: s.wo1Used } else s
    let s := if (v ^^^ present) &&& outM = 0 then s else s.wdrop b i
    if lockErr then s.lockerr b i else s

/-- R60, R61: a write to a posted register acts, or is dropped while BUSY; the BUSY bit has key k. -/
def ifFree (s : State) (b : Block) (i k : Nat) (f : State → State) : State :=
  if (s.posted.lookup k).isSome then s.wdrop b i else f s

/-! ## Memory (R25, R26) -/

/-- The size of the DRAM space. -/
def dramSize : Nat := 0x400000000

/-- R26: the first byte of the firmware's region. -/
def fwBase : Nat := 0x3F0000000

/-- One byte of DRAM. -/
def rd8 (s : State) (a : Nat) : Byte := Sparse.get 0 s.dram a

/-- One byte written to DRAM; an address outside the space is not written. -/
def wr8 (s : State) (a : Nat) (v : Byte) : State :=
  if a < dramSize then { s with dram := Sparse.put 0 s.dram a v } else s

/-- n bytes of DRAM from address a. -/
def rdBytes (s : State) (a : Nat) : Nat → Bytes
  | 0 => []
  | n + 1 => s.rd8 a :: rdBytes s (a + 1) n

/-- Bytes written to DRAM from address a upwards. -/
def wrBytes (s : State) (a : Nat) : Bytes → State
  | [] => s
  | b :: t => wrBytes (s.wr8 a b) (a + 1) t

/-- A little-endian field of k bytes in DRAM (R5). -/
def rdLE (s : State) (a k : Nat) : Nat := leNat (s.rdBytes a k)

/-- A little-endian field of k bytes written to DRAM. -/
def wrLE (s : State) (a k v : Nat) : State := s.wrBytes a (leBytes k v)

/-- A DRAM base held in a register pair _LO and _HI. -/
def base (s : State) (lo hi : Nat) : Nat := (s.reg hi).toNat % 4 * 2 ^ 32 + (s.reg lo).toNat

/-! ## Free values -/

/-- A fresh free value: a number nothing constrains, drawn from `Config.freeValue`. -/
def fresh (s : State) : Nat × State := (Config.freeValue s.freeCtr, { s with freeCtr := s.freeCtr + 1 })

end State

/-- Memory.wf: the canonical form of DRAM: addresses strictly rising, no listed byte equal to what an unlisted one reads as. -/
def Memory.wf (m : List Host.Cell) : Bool := Sparse.wf (fun _ => (0 : Byte)) m

end Sys2Proof.Machine
end

