-- ==== Sys2Proof/Machine/Flags.lean ====
section
/-! DEFINITION. Status bits and interrupt sources: the asserted level of each of the 2,048 sources (R431, R432 and the rule of
each block: R70, R102, R133, R136, R180, R204, R231, R267, R289, R315, R337, R366, R391, R413, R430, R469, R484, R504, R513,
R528, R551, R565), how the controller samples them (R434), how an offer is withdrawn (R438), and `done`, with which every
command ends. -/

namespace Sys2Proof.Machine

namespace State

/-! ## Outputs (R459) -/

/-- R459: the device's outputs are on; in RECOVERY they are off (R525, R537). -/
def outputsOn (s : State) : Bool := (s.brace.state == .off || s.brace.state == .active) && !s.upd.recovery

/-! ## UART line status (R328–R331, R337) -/

/-- The state of UART n. -/
def uartOf (s : State) (n : Nat) : Uart := Sparse.get {} s.uart.port n

/-- The state of UART n replaced. -/
def setUart (s : State) (n : Nat) (u : Uart) : State :=
  { s with uart := { s.uart with port := Sparse.put {} s.uart.port n u } }

/-- R462: the port starts an entry; after a takeover its driver is enabled from there on. -/
def driveFrom (s : State) (n : Nat) : State :=
  if s.outputsOn then { s with uart := { s.uart with waiting := s.uart.waiting.filter (· != n) } } else s

/-- R318: the owner of a port: 0 raw, 1 hub, 2 DMX; 3 acts as 0. -/
def uartOwner (s : State) (n : Nat) : Nat := s.field (R.UARTn_CTRL n) 17 16 % 3

/-- R317: the port that RS422 of the even port below joins to it is inert. -/
def uartInert (s : State) (n : Nat) : Bool := n % 2 = 1 && s.flag (R.UARTn_CTRL (n - 1)) 8

/-- The port runs: EN = 1, and it is not the receive half of a joined pair. -/
def uartEn (s : State) (n : Nat) : Bool := s.flag (R.UARTn_CTRL n) 0 && !s.uartInert n

/-- R329: RX_REQ. -/
def uartRxReq (s : State) (n : Nat) : Bool :=
  let u := s.uartOf n
  let held := u.rx.length
  s.uartEn n && s.uartOwner n == 0 &&
    (decide (atLeast1 (s.field (R.UARTn_FIFO_CTRL n) 7 0) ≤ held)
      || (decide (1 ≤ held) && u.timedOut && s.field (R.UARTn_FIFO_CTRL n) 23 16 != 0))

/-- R330: TX_REQ. -/
def uartTxReq (s : State) (n : Nat) : Bool :=
  s.uartEn n && s.uartOwner n == 0 && decide ((s.uartOf n).tx.length ≤ s.field (R.UARTn_FIFO_CTRL n) 15 8)

/-- R331: TX_IDLE. -/
def uartTxIdle (s : State) (n : Nat) : Bool :=
  let u := s.uartOf n
  u.tx.isEmpty && u.shifter.isNone && (!u.driver || s.field (R.UARTn_CTRL n) 7 6 != 0)

/-- R331, R332, R334, R462: the driver is enabled now. -/
def uartDriving (s : State) (n : Nat) : Bool :=
  s.outputsOn && !s.uart.waiting.contains n && !s.flag (R.UARTn_CTRL n) 4 && (match s.field (R.UARTn_CTRL n) 7 6 with
    | 0 => (s.uartOf n).driver
    | 1 => s.uartEn n
    | _ => false)

/-! ## Rings (R413) -/

/-- The state of ring r. -/
def ringOf (s : State) (r : Nat) : Ring := Sparse.get {} s.host.ring r

/-- The state of ring r replaced. -/
def setRing (s : State) (r : Nat) (x : Ring) : State :=
  { s with host := { s.host with ring := Sparse.put {} s.host.ring r x } }

/-- R413: the level of source 128 + r. -/
def ringLevel (s : State) (r : Nat) : Bool :=
  let x := s.ringOf r
  x.state == .stopped
    || x.irqs.any (fun i => decide ((i + 65536 - x.cplHead) % 65536 < (x.cplTail + 65536 - x.cplHead) % 65536))

/-! ## Levels -/

/-- R391: the status bits of MAC n that drive its source b. -/
def macLevel (s : State) (n b : Nat) : Bool :=
  let st := s.reg (R.MACn_STATUS n)
  let any (l : List Nat) : Bool := l.any (fun i => bit st i)
  match b with
  | 0 => any [0, 8, 9]
  | 1 => any [1]
  | 2 => any [3]
  | 3 => any [4, 6]
  | 4 => any [5]
  | 5 => any [10, 11, 12, 13, 14]
  | 6 => any [2, 7]
  | _ => any [15, 16]

/-- R337: source b of UART n. -/
def uartLevel (s : State) (n b : Nat) : Bool :=
  match b with
  | 0 => s.uartRxReq n
  | 1 => s.uartTxReq n
  | 2 => (s.uartOf n).summary % 32 != 0
  | _ => s.field (R.UARTn_STATUS n) 6 0 != 0

/-- R70: sources 0–9. -/
def globalLevel (s : State) (k : Nat) : Bool :=
  if k < 5 then s.flag R.GLOBAL_STATUS k
  else match k with
    | 5 => s.reg R.HOST_STATUS != 0
    | 6 => s.reg R.INTC_STATUS != 0
    | 7 => s.reg R.PWR_STATUS != 0
    | 8 => s.reg R.PINS_STATUS != 0
    | _ => s.reg R.CLOCK_STATUS != 0

/-- R431: whether a source number is allocated; the others are reserved. -/
def srcExists (k : Nat) : Bool :=
  k < 10 || (64 ≤ k && k < 79) || (128 ≤ k && k < 201)
    || (256 ≤ k && k < 384 && (k % 8 < 3 || k % 8 == 4 || k % 8 == 5))
    || (384 ≤ k && k < 421) || (424 ≤ k && k < 436) || (448 ≤ k && k < 460) || (464 ≤ k && k < 475)
    || (512 ≤ k && k < 534) || (544 ≤ k && k < 552) || (576 ≤ k && k < 590) || (640 ≤ k && k < 936)
    || (1024 ≤ k && k < 1294) || (1312 ≤ k && k < 1319) || (1344 ≤ k && k < 1356) || (1408 ≤ k && k < 1424)
    || (1440 ≤ k && k < 1452) || (1472 ≤ k && k < 1482) || (1536 ≤ k && k < 1554) || (1600 ≤ k && k < 1608)
    || (1616 ≤ k && k < 1620) || (1664 ≤ k && k < 1728)

/-- The asserted level of source k, after filtering (INTC_RAW); a reserved source reads 0. -/
def level (s : State) (k : Nat) : Bool :=
  srcExists k &&
  (if k < 64 then s.globalLevel k
   else if k < 128 then s.flag R.TIME_STATUS (k - 64)
   else if k < 192 then s.ringLevel (k - 128)
   else if k < 256 then s.flag R.KNL_STATUS (k - 192)
   else if k < 384 then s.flag (R.REn_STATUS ((k - 256) / 8)) ((k - 256) % 8)
   else if k < 416 then s.flag (R.INGn_STATUS ((k - 384) / 4)) ((k - 384) % 4)
   else if k < 424 then s.flag R.INGEST_STATUS (k - 416)
   else if k < 448 then s.flag R.RASTER_STATUS (k - 424)
   else if k < 464 then s.flag R.CALIB_STATUS (k - 448)
   else if k < 512 then s.flag R.PLAN_STATUS (k - 464)
   else if k < 528 then s.flag R.VCN_STATUS (k - 512)
   else if k < 544 then s.flag R.HEEL_STATUS (k - 528)
   else if k < 576 then s.flag R.VER_STATUS (k - 544)
   else if k < 640 then s.flag R.FIX_STATUS (k - 576)
   else if k < 1024 then s.macLevel ((k - 640) / 8) ((k - 640) % 8)
   else if k < 1280 then s.uartLevel ((k - 1024) / 4) ((k - 1024) % 4)
   else if k < 1312 then s.flag R.HUB_STATUS (k - 1280)
   else if k < 1344 then s.flag R.SIGMAP_STATUS (k - 1312)
   else if k < 1408 then s.flag R.FARBR_STATUS (k - 1344)
   else if k < 1440 then s.flag R.BRACE_STATUS (k - 1408)
   else if k < 1472 then s.flag R.SHEAF_STATUS (k - 1440)
   else if k < 1536 then s.flag R.SEC_STATUS (k - 1472)
   else if k < 1544 then s.reg (R.CHECKn_STATUS (k - 1536)) != 0
   else if k < 1600 then s.flag R.UPD_STATUS (k - 1544)
   else if k < 1616 then s.flag R.WIN_STATUS (k - 1600)
   else if k < 1664 then s.flag R.DRAM_STATUS (k - 1616)
   else s.pins.filt.contains (k - 1664))

/-! ## The controller's view of its sources -/

/-- INTC_SRCs of source k. -/
def srcCfg (s : State) (k : Nat) : Word := Sparse.get 0 s.intc.src k

/-- SRC.EN. -/
def srcEn (s : State) (k : Nat) : Bool := bit (s.srcCfg k) 31

/-- SRC.EDGE: pin sources only (R432). -/
def srcEdge (s : State) (k : Nat) : Bool := bit (s.srcCfg k) 29

/-- PEND of source k. -/
def isPend (s : State) (k : Nat) : Bool := s.intc.pend.contains k

/-- MASK of source k. -/
def isMasked (s : State) (k : Nat) : Bool := s.intc.mask.contains k

/-- The state of core c as the controller holds it. -/
def coreOf (s : State) (c : Nat) : Core := Sparse.get {} s.intc.cores c

/-- The state of core c replaced. -/
def setCore (s : State) (c : Nat) (x : Core) : State :=
  { s with intc := { s.intc with cores := Sparse.put {} s.intc.cores c x } }

/-- R436: the running priority of core c. -/
def rp (s : State) (c : Nat) : Nat :=
  let l := (s.coreOf c).insvc
  if l.any (fun e => e.2.1) then 16
  else match l with
    | [] => s.field (R.INTC_Cc_TPR c) 3 0
    | _ => l.foldl (fun m e => max m e.2.2) 0

/-- R436: nothing in service, and sleeping while it waits for an interrupt. -/
def coreIdle (s : State) (c : Nat) : Bool := (s.coreOf c).insvc.isEmpty && (s.coreOf c).sleeping

/-- R435: nothing but what core c runs now keeps source k from it. -/
def routable (s : State) (k c : Nat) : Bool :=
  let v := s.srcCfg k
  s.flag R.INTC_CTRL 0 && bit v 31 && s.isPend k && !s.isMasked k && bit v (16 + c) && s.flag (R.INTC_Cc_CTRL c) 0
    && (s.coreOf c).ie && fld v 23 20 != 0

/-- R435: source k is deliverable to core c. -/
def deliverable (s : State) (k c : Nat) : Bool :=
  s.routable k c && (if bit (s.srcCfg k) 30 then !(s.coreOf c).insvc.any (fun e => e.2.1) else decide (s.rp c < fld (s.srcCfg k) 23 20))

/-- R443: the condition of vector v. -/
def vecCond (s : State) (v : Nat) : Bool :=
  s.intc.pend.any (fun k => let c := s.srcCfg k; bit c 31 && bit c 15 && !s.isMasked k && fld c 7 0 == v)

/-- R438: the offer of core c is taken back. Its source is offered again without a window (R442). -/
def reroute (s : State) (c k : Nat) : State :=
  let x := s.coreOf c
  (s.setCore c { x with offer := none, released := k :: x.released.filter (· != k) }).bump R.INTC_REROUTE_CNT

/-- R438: the offer of core c is withdrawn where its source is no longer deliverable to it. -/
def withdraw (s : State) (c : Nat) : State :=
  match (s.coreOf c).offer with
  | none => s
  | some k => if s.deliverable k c then s else s.reroute c k

/-- R438: RP of core c has risen, from `was`; an offered fast source whose PRIO it has reached is withdrawn. -/
def fastRises (s : State) (c was : Nat) : State :=
  match (s.coreOf c).offer with
  | none => s
  | some k =>
    let p := fld (s.srcCfg k) 23 20
    if bit (s.srcCfg k) 30 && decide (was < p) && decide (p ≤ s.rp c) then s.reroute c k else s

/-- R442: source k has been released by a window or taken back from a core, and is offered under R437 from then on. -/
def isReleased (s : State) (k : Nat) : Bool := [0, 1, 2, 3].any (fun d => (s.coreOf d).released.contains k)

/-- R434: PEND as the hardware holds it after a cycle: 0 while EN = 0; set by every asserted level source. -/
def sampled (s : State) : List Nat :=
  (s.intc.src.map (·.1)).filter (fun k => s.srcEn k && (s.isPend k || (s.level k && !s.srcEdge k)))

/-- R434: the controller samples its sources. -/
def sample (s : State) : State := { s with intc := { s.intc with pend := s.sampled } }

/-- R443: a vector whose condition has fallen may rise again. R442: a released source loses its release when it
is masked, disabled or routed to no core that takes interrupts, and keeps it while cores merely run at its PRIO or above (DEDUCED, log entry
36). -/
def fallen (s : State) : State :=
  { s with intc := { s.intc with
      risen := s.intc.risen.filter (fun v => s.vecCond v)
      held := s.intc.held.filter (fun v => s.vecCond v)
      cores := s.intc.cores.map (fun x => (x.1, { x.2 with released := x.2.released.filter (fun k => [0, 1, 2, 3].any (s.routable k)) })) } }

/-- SRC.MOD of a normal source. -/
def moderated (s : State) (k : Nat) : Bool := bit (s.srcCfg k) 27 && !bit (s.srcCfg k) 30

/-- R442: INTC_Cc_MOD.COUNT. -/
def modCount (s : State) (c : Nat) : Nat := s.field (R.INTC_Cc_MOD c) 7 0

/-- Whether source k is offered to some core. -/
def isOffered (s : State) (k : Nat) : Bool := [0, 1, 2, 3].any (fun c => (s.coreOf c).offer == some k)

/-- R442: moderated sources that have become deliverable to core c join its window while it is not idle. -/
def join (s : State) (c : Nat) : State :=
  let x := s.coreOf c
  if s.modCount c = 0 ∨ s.coreIdle c = true then s
  else
    let l := s.intc.pend.filter (fun k => s.moderated k && s.deliverable k c && !s.isOffered k && !x.window.contains k && !s.isReleased k)
    if l.isEmpty then s
    else s.setCore c { x with window := x.window ++ l, opened := if x.window.isEmpty then s.time.frc else x.opened }

/-- What the interrupt controller does in the cycles after any command: offers that no longer stand are withdrawn, vectors whose
condition fell are ready to rise again, the sources are sampled, and moderated sources join the windows of busy cores. -/
def settle (s : State) : State :=
  join (join (join (join (fallen (withdraw (withdraw (withdraw (withdraw s 0) 1) 2) 3)).sample 0) 1) 2) 3

/-- A command begins: nothing has left the device in this step yet. -/
def begun (s : State) : State := { s with out := [] }

end State

/-- Every command ends so: the next state, with the interrupt controller settled. -/
def done (s : State) : Host.Outcome State Fault Refusal := .next s.settle

/-- A command of the MAIN domain: without effect while MAIN is off (R39). -/
def onMain (s : State) (f : State → State) : Host.Outcome State Fault Refusal :=
  done (if s.mainOn then f s.begun else s.begun)

/-- R537: a command of the service protocol and of what it needs, which the resident loader runs in RECOVERY too. -/
def onLoader (s : State) (f : State → State) : Host.Outcome State Fault Refusal :=
  done (if s.mainRuns then f s.begun else s.begun)

/-- A command of port n: port 36 carries the service protocol. -/
def onPort (n : Nat) (s : State) (f : State → State) : Host.Outcome State Fault Refusal :=
  if n = 36 then onLoader s f else onMain s f

/-- A command that other domains carry out too. -/
def onAny (s : State) (f : State → State) : Host.Outcome State Fault Refusal := done (f s.begun)

end Sys2Proof.Machine
end

