-- ==== Sys2Proof/Machine/Clock.lean ====
section
/-! DEFINITION. Local time, the servo and the frame grid (R72–R78, R92–R95). Local time is an integer in units of 2⁻¹⁶ ns. -/

namespace Sys2Proof.Machine

namespace State

/-- Units of 2⁻¹⁶ ns in a nanosecond, and in a second. -/
def uNs : Int := 65536
def uSec : Int := 65536000000000

/-- R73: FRC × 0.8 ns × (1 + RATE × 2⁻⁴⁸), in units of 2⁻¹⁶ ns, truncated. -/
def elapsed (frc : Nat) (rate : Int) : Int := (frc : Int) * 262144 * (2 ^ 48 + rate) / (5 * 2 ^ 48)

/-- R73: local time at FRC value f, under the OFFSET and RATE in use. -/
def ltAt (s : State) (f : Nat) : Int := s.time.offset + elapsed f s.time.rate

/-- The CLK_ENGINE cycles for which the past of OFFSET and RATE is kept, about 3.4 s: more than any event that is stamped afterwards lasts. -/
def pastWindow : Nat := 2 ^ 32

/-- R73: local time as it was in a cycle gone by, under the OFFSET and RATE of that cycle. -/
def ltThen (s : State) (f : Nat) : Int :=
  match (s.time.past.filter (fun p => decide (f < p.1))).getLast? with
  | some (_, o, r) => o + elapsed f r
  | none => s.ltAt f

/-- R74: the OFFSET and RATE in use up to now are kept for stamps of earlier cycles. -/
def noteTime (s : State) : State :=
  let kept := s.time.past.filter (fun p => decide (s.time.frc ≤ p.1 + pastWindow))
  { s with time := { s.time with past := (s.time.frc, s.time.offset, s.time.rate) :: kept } }

/-- R73: local time now. -/
def lt (s : State) : Int := s.ltAt s.time.frc

/-- Local time now in whole nanoseconds, truncated (R73). -/
def ltNs (s : State) : Int := s.lt / uNs

/-- A local time in TS80 form (R73, R8). -/
def ts80Of (t : Int) : Ts80 := { sec := ((t / uSec) % 2 ^ 48).toNat, ns := ((t % uSec) / uNs).toNat }

/-- Local time now as TS80. -/
def now80 (s : State) : Ts80 := ts80Of s.lt

/-- Local time now as TS32 (R10). -/
def nowTs32 (s : State) : Word := BitVec.ofNat 32 (s.ltNs % 2 ^ 32).toNat

/-- The first FRC value at which local time is at or past t. -/
def frcAt (s : State) (t : Int) : Nat :=
  let num := (t - s.time.offset) * (5 * 2 ^ 48)
  let den := 262144 * (2 ^ 48 + s.time.rate)
  (-(-num / den)).toNat

/-- An event of local time t takes place in the first cycle at or past t; the FRC never runs backwards (log entry 3). -/
def waitFrc (s : State) (f : Nat) : State := { s with time := { s.time with frc := max s.time.frc f } }
def waitUntil (s : State) (t : Int) : State := { s with time := { s.time with frc := max s.time.frc (s.frcAt t) } }

/-- One CLK_ENGINE cycle (R72). While MAIN does not run, FRC stands still and only the standby domain's clock goes on (R35, R530);
with 3.3 V absent nothing does. -/
def tick (s : State) : State :=
  if s.mainRuns then { s with time := { s.time with frc := (s.time.frc + 1) % 2 ^ 64 } }
  else if s.power.state = .off then s
  else { s with power := { s.power with rtc := s.power.rtc + 1 } }

/-! ## RATE and OFFSET (R74, R75) -/

/-- R75: the clamp of RATE and I, from TIME_RATE_LIMIT in ppm. -/
def rateLimit (s : State) : Int :=
  ((clampNat 1 1000 (s.field R.TIME_RATE_LIMIT 9 0) : Nat) : Int) * 2 ^ 48 / 1000000

/-- R74: RATE changes; OFFSET is compensated so that local time is continuous. -/
def setRate (s : State) (r : Int) : State :=
  let s := s.noteTime
  { s with time := { s.time with
      rate := r
      offset := s.time.offset + elapsed s.time.frc s.time.rate - elapsed s.time.frc r } }

/-- R75: RATE and I clamped to a limit that group 0 has just applied. -/
def applyRateLimit (s : State) : State :=
  let l := s.rateLimit
  let r := clampInt (-l) l s.time.rate
  let i := clampInt (-l) l s.time.integ
  if r = s.time.rate ∧ i = s.time.integ then s
  else
    let s := s.setRate r
    let s : State := { s with time := { s.time with integ := i } }
    s.raise R.TIME_STATUS 12

/-! ## The frame grid (R92–R95) -/

/-- The least k for which instant k lies later than local time t: k × NUM/DEN s > t. -/
def firstAfter (num den : Nat) (t : Int) : Nat := (t * den / (num * uSec) + 1).toNat

/-- R93: local time of grid instant k, rounded up to 2⁻¹⁶ ns: local time is at or past the instant from there on. -/
def instantUp (num den k : Nat) : Int := -(-((k : Int) * num * uSec) / den)

/-- R93: local time of grid instant k, truncated to 2⁻¹⁶ ns. -/
def instantDown (num den k : Nat) : Int := (k : Int) * num * uSec / den

/-- R96, R268: the next boundary's instant, truncated. -/
def nextDown (s : State) : Int := instantDown s.time.num s.time.den s.time.kNext

/-- R93: local time of the next boundary's instant. -/
def nextInstant (s : State) : Int := instantUp s.time.num s.time.den s.time.kNext

/-- R94: the next boundary after a change of local time that is not a rate change, with the count of skipped epochs. -/
def regridAfterStep (s : State) : State :=
  let k := max (s.time.kLast + 1) (firstAfter s.time.num s.time.den s.lt)
  let skipped := k - s.time.kLast - 1
  let passes := s.time.kNext < k
  let s : State := { s with time := { s.time with kNext := k } }
  if passes then (s.count R.TIME_EPOCH_SKIP_CNT skipped).raise R.TIME_STATUS 5 else s

/-- The frame period in effect, in nanoseconds, truncated. -/
def periodNs (s : State) : Nat := s.time.num * 1000000000 / s.time.den

/-- Half the frame period in effect, in nanoseconds, truncated. -/
def halfPeriodNs (s : State) : Nat := s.time.num * 500000000 / s.time.den

/-! ## The servo (R76–R78) -/

/-- R78: LOCKED is left for ACQUIRE. -/
def leaveLocked (s : State) : State :=
  if s.time.servo = .locked then
    let s : State := { s with time := { s.time with servo := .acquire } }
    s.raise R.TIME_STATUS 1
  else s

/-- R269, R287: HEEL_LEAD and HEEL_GAP in nanoseconds, clamped. -/
def heelLead (s : State) : Nat := min (max 20 (s.field R.HEEL_LEAD 15 0) * 1000) s.halfPeriodNs
def heelGap (s : State) : Nat := atLeast1 (s.field R.HEEL_GAP 11 0) * 1000

/-- R269: the scheduled local time of copy k of an epoch. -/
def heelCopyTime (s : State) (e : HeelEp) (k : Nat) : Int := e.t - s.heelLead * uNs + ((k * s.heelGap : Nat) : Int) * uNs

/-- R270: copies not yet sent that a step from local time `old` has carried local time past. -/
def notePassed (s : State) (old : Int) : State :=
  let now := s.lt
  { s with heel := { s.heel with eps := s.heel.eps.map (fun e => { e with
      passed := e.passed ++ [0, 1, 2].filter (fun k =>
        decide (e.copy ≤ k) && decide (old ≤ s.heelCopyTime e k) && decide (s.heelCopyTime e k < now)) }) } }

/-! ## HEEL_OUT targets (R97–R99) -/

def hoOf (s : State) (n : Nat) : HoPin := Sparse.get {} s.time.ho n
def setHo (s : State) (n : Nat) (p : HoPin) : State := { s with time := { s.time with ho := Sparse.put {} s.time.ho n p } }

/-- R98: TIME_HOn_CTRL.MODE; 6 and 7 act as 0. -/
def hoMode (s : State) (n : Nat) : Nat := let m := s.field (R.TIME_HOn_CTRL n) 2 0; if m < 6 then m else 0

/-- R98: the pulse width, clamped to 10 ns to 1 s. -/
def hoWidth (s : State) (n : Nat) : Nat := clampNat 10 1000000000 (s.reg (R.TIME_HOn_WIDTH n)).toNat

/-- R98: the period, at least 100 ns and at least the width plus 10 ns. -/
def hoPeriod (s : State) (n : Nat) : Nat := max (s.reg (R.TIME_HOn_PERIOD n)).toNat (max 100 (s.hoWidth n + 10))

/-- R97: TIME_HOn_DLY × 50 ps, in units of 2⁻¹⁶ ps. -/
def hoDly (s : State) (n : Nat) : Int := signed 8 (s.field (R.TIME_HOn_DLY n) 7 0) * 50 * 65536

/-- R97: the launch time of a target (a fraction of 2⁻¹⁶ ns), as a fraction of that unit too. -/
def hoLaunch (s : State) (n : Nat) (t : Int × Nat) : Int × Nat := (t.1 * 1000 + s.hoDly n * t.2, 1000 * t.2)

/-- R99: k targets of a pin are discarded as late. -/
def hoLate (s : State) (n k : Nat) (p : HoPin) : State :=
  if k = 0 then s.setHo n p else (s.setHo n { p with lateCnt := min 65535 (p.lateCnt + k) }).raise R.TIME_STATUS 7

/-- R97: the cycle and the delay-line step at which launch time l (a fraction of 2⁻¹⁶ ns) leaves: the last cycle at or before l, and
the remainder in steps of 50 ps, halves rounded up; 16 steps are the next cycle. -/
def launch (s : State) (l : Int × Nat) : Nat × Nat :=
  let f := let g := s.frcAt (l.1 / l.2); if s.ltAt g * l.2 ≤ l.1 then g else g - 1
  let r := l.1 - s.ltAt f * l.2
  let steps := ((r * 1000 * 2 + 50 * 65536 * l.2) / (2 * 50 * 65536 * l.2)).toNat
  if 16 ≤ steps then (f + 1, 0) else (f, steps)

/-- R98, R99: the target at the head of pin n's queue, or the next one of its series, is discarded when it is at or before local time,
and so are those that then come to the head and are. The first target of MODE 2 counts for its series when it is discarded, and so do
the series' later targets that are past (DESIGN CHOICE, log entry 57). -/
def hoJudge (s : State) (n : Nat) : State :=
  let p := s.hoOf n
  let now := s.lt
  if s.hoMode n = 2 then
    match p.base.orElse (fun _ => p.queue.head?) with
    | none => s
    | some b =>
      if b ≤ now then
        let per : Int := (s.hoPeriod n : Nat) * uNs
        let k := ((now - b) / per + 1).toNat
        s.hoLate n k { p with base := some (b + k * per), queue := if p.base.isNone then p.queue.tail else p.queue }
      else s
  else
    let k := (p.queue.takeWhile (fun x => decide (x ≤ now))).length
    s.hoLate n k { p with queue := p.queue.drop k }

/-- R98: the targets of MODE 3, 4 and 5 about now, in order: boundary instants, the T of HEEL, whole seconds. -/
def hoAround (s : State) (n : Nat) : List (Int × Nat) := match s.hoMode n with
  | 3 => [s.time.mark, ((s.time.kNext : Int) * s.time.num * uSec, s.time.den)]
  | 4 => (s.heel.eps.reverse).map (fun e => (e.t, 1))
  | 5 => [(s.lt / uSec * uSec, 1), ((s.lt / uSec + 1) * uSec, 1)]
  | _ => []

/-- R97, R98: a target of MODE 3 to 5 is still to be launched: it is not done with, and neither the cycle that launches it nor the first
cycle at or past it is over. -/
def hoAhead (s : State) (n : Nat) (t : Int × Nat) : Bool :=
  (match (s.hoOf n).fired with
    | some f => decide (f < t.1 / t.2)
    | none => true)
  && decide (s.time.frc ≤ max (s.launch (s.hoLaunch n t)).1 (s.frcAt (-(-t.1 / t.2))))

/-- R97, R98: pin n's next target, as an exact fraction of 2⁻¹⁶ ns. -/
def hoNext (s : State) (n : Nat) : Option (Int × Nat) := match s.hoMode n with
  | 0 => none
  | 1 => (s.hoOf n).queue.head?.map (fun t => (t, 1))
  | 2 => ((s.hoOf n).base.orElse (fun _ => (s.hoOf n).queue.head?)).map (fun t => (t, 1))
  | _ => (s.hoAround n).find? (s.hoAhead n)

/-- R99: what a forward step from local time `old` does to pin n's queue, whatever its mode: each target that it overtook is discarded,
and one that so reaches the head is judged. In MODE 2 a series that it overtook goes on behind local time. -/
def hoOvertaken (old : Int) (s : State) (n : Nat) : State :=
  let gone (t : Int) : Bool := decide (old < t) && decide (t ≤ s.lt)
  let p := s.hoOf n
  let s := match (if s.hoMode n = 2 then p.base.orElse (fun _ => p.queue.head?) else none) with
    | some b => if gone b then s.hoJudge n else s
    | none => s
  let p := s.hoOf n
  let late := p.queue.filter gone
  let s' := s.hoLate n late.length { p with queue := p.queue.filter (fun t => !gone t) }
  if s.hoMode n ≠ 2 ∧ p.queue.head?.any gone then s'.hoJudge n else s'

/-- R99: what a step does to pin n, whose next target before it, from local time `old`, was t: the targets that it overtook are
discarded. A backward step lets MODE 5 mark again the seconds that local time comes to again (DESIGN CHOICE, log entry 57). -/
def hoStep (old : Int) (t : Option (Int × Nat)) (s : State) (n : Nat) : State :=
  let s := s.hoOvertaken old n
  if s.hoMode n < 3 then s
  else
    let p := s.hoOf n
    let missed := match t with
      | some (a, d) => decide (old * d < a) && decide (a ≤ s.lt * d)
      | none => false
    let p := if missed then { p with fired := t.map (fun x => x.1 / x.2) }
      else if s.hoMode n = 5 ∧ s.lt < old then { p with fired := none } else p
    s.hoLate n (b2n missed) p

/-- R76, R77: a step of OFFSET by d (2⁻¹⁶ ns): STEP, TIME_STEP_CNT, the in-threshold count, LOCKED left, and the grid by R94. -/
def stepBy (s : State) (d : Int) : State :=
  let old := s.lt
  let next := s.hoNext
  let s := s.noteTime
  let s : State := { s with time := { s.time with offset := s.time.offset + d, inThresh := 0 } }
  let s := (List.range 8).foldl (fun s n => s.hoStep old (next n) n) (s.notePassed old)
  ((s.raise R.TIME_STATUS 3).bump R.TIME_STEP_CNT).leaveLocked.regridAfterStep

/-- R76, R77: in SHOW with STEP_IN_SHOW = 0 a step is refused. -/
def stepRefused (s : State) : Bool := s.inShow && !s.flag R.TIME_CTRL 15

/-- R76 case 3: the integrator's update, clamped; answers whether it clamped. -/
def newInteg (s : State) (e : Int) : Int × Bool :=
  let l := s.rateLimit
  let v := s.time.integ + e * (s.reg R.TIME_KI).toNat
  (clampInt (-l) l v, clampInt (-l) l v != v)

/-- R76: the servo acts on a measurement that is not rejected. -/
def servoAct (s : State) (e : Int) : State :=
  let l := s.rateLimit
  let stepLimit : Int := (s.reg R.TIME_STEP_LIMIT).toNat
  if stepLimit < e.natAbs ∧ !s.stepRefused then s.stepBy (e * uNs)
  else
    let big := stepLimit < (e.natAbs : Int)
    let (i, ic) := s.newInteg e
    let s := { s with time := { s.time with integ := i } }
    let want : Int := i + e * (s.reg R.TIME_KP).toNat
    let r : Int := if big then (if 0 < e then l else -l) else clampInt (-l) l want
    let s := s.setRate r
    let s := s.raiseIf (ic || big || r != want) R.TIME_STATUS 12
    s.raiseIf big R.TIME_STATUS 4

/-- R78: the lock state after an accepted measurement that did not step. -/
def servoLock (s : State) (e : Int) : State :=
  let th : Nat := s.field R.TIME_LOCK_CFG 31 16
  let s : State := if e.natAbs ≤ th then { s with time := { s.time with inThresh := min 255 (s.time.inThresh + 1) } }
           else { s with time := { s.time with inThresh := 0 } }
  if s.time.servo = .locked then (if 4 * th < e.natAbs then s.leaveLocked else s)
  else if s.time.servo = .acquire ∧ atLeast1 (s.field R.TIME_LOCK_CFG 7 0) ≤ s.time.inThresh then
    let s : State := { s with time := { s.time with servo := .locked } }
    s.raise R.TIME_STATUS 0
  else s

/-- R76, R78: one measurement of e nanoseconds reaches the servo. -/
def measure (s : State) (e0 : Int) : State :=
  if !s.flag R.TIME_CTRL 3 then s
  else
    let e := clampInt (-(2 ^ 31)) (2 ^ 31 - 1) e0
    let s : State := if s.time.servo = .free ∨ s.time.servo = .holdover
      then { s with time := { s.time with servo := .acquire } } else s
    let outlier := s.time.servo == .locked && decide ((s.reg R.TIME_OUTLIER).toNat < e.natAbs) && decide (s.time.rejects < 2)
    if outlier then
      let s : State := { s with time := { s.time with rejects := s.time.rejects + 1 } }
      (s.bump R.TIME_OUTLIER_CNT).raise R.TIME_STATUS 11
    else
      let steps := decide ((s.reg R.TIME_STEP_LIMIT).toNat < e.natAbs) && !s.stepRefused
      let s : State := { s with time := { s.time with rejects := 0, measFrc := s.time.frc } }
      let s := s.setReg R.TIME_LAST_ERR (i32 e)
      let s := s.servoAct e
      if steps then s else s.servoLock e

/-- TIME_CTRL.SRC. -/
def servoSrc (s : State) : Nat := s.field R.TIME_CTRL 2 0

end State

end Sys2Proof.Machine
end

