-- ==== Sys2Proof/Machine/Crc.lean ====
section
/-! DEFINITION. The cyclic redundancy checks of the manual: CRC-32C (R239), and the reflected and plain forms the check units
use (R505). A CRC state is a number of the CRC's width. -/

namespace Sys2Proof.Machine

/-- One bit of a reflected CRC. -/
def crcBit (poly c : Nat) : Nat := if c % 2 = 1 then (c / 2) ^^^ poly else c / 2

/-- One byte of a reflected CRC with (reversed) polynomial poly. -/
def crcByte (poly c b : Nat) : Nat := (List.range 8).foldl (fun c _ => crcBit poly c) (c ^^^ b)

/-- One bit of a CRC of w bits that shifts left. -/
def crcBitL (w poly c : Nat) : Nat := if 2 ^ (w - 1) ≤ c then ((2 * c) ^^^ poly) % 2 ^ w else 2 * c

/-- One byte of a CRC of w bits (8 or more) that shifts left. -/
def crcByteL (w poly c b : Nat) : Nat := (List.range 8).foldl (fun c _ => crcBitL w poly c) (c ^^^ (b * 2 ^ (w - 8)))

/-- R239: the running state of CRC-32C over more bytes. -/
def crc32cMore (c : Nat) (l : Bytes) : Nat := l.foldl (fun c b => crcByte 0x82F63B78 c b.toNat) c

/-- R239: the final inversion. -/
def crc32cEnd (c : Nat) : Nat := c ^^^ 0xFFFFFFFF

/-- R239: CRC-32C of a byte string. -/
def crc32c (l : Bytes) : Nat := crc32cEnd (crc32cMore 0xFFFFFFFF l)

/-- R369: CRC-32 as ALG 0 of R505 computes it. -/
def crc32 (l : Bytes) : Nat := (l.foldl (fun c b => crcByte 0xEDB88320 c b.toNat) 0xFFFFFFFF) ^^^ 0xFFFFFFFF

end Sys2Proof.Machine
end

