-- ==== Sys2Proof/Machine/Check.lean ====
section
/-! DEFINITION. Check units (R505–R511): algorithms, feeding, INIT, and the unit's side of a serial port. -/

namespace Sys2Proof.Machine

/-- R505: an algorithm: width, polynomial, initial value, REFIN, REFOUT, final XOR. -/
structure CheckAlg where
  w : Nat
  poly : Nat
  init : Nat
  refin : Bool
  refout : Bool
  xorout : Nat
deriving DecidableEq, Repr

/-- The low w bits of a number in reversed order. -/
def reverseBits : Nat → Nat → Nat
  | 0, _ => 0
  | w + 1, v => v % 2 * 2 ^ w + reverseBits w (v / 2)

/-- R506: one bit of a byte is fed, from bit i. -/
def checkBit (a : CheckAlg) (b r i : Nat) : Nat :=
  let top := (r >>> (a.w - 1) ^^^ b >>> i) % 2
  let r := 2 * r % 2 ^ a.w
  if top = 1 then r ^^^ a.poly else r

/-- R506: one byte. -/
def checkByte (a : CheckAlg) (r b : Nat) : Nat :=
  let b := if a.refin then reverseBits 8 b else b
  [7, 6, 5, 4, 3, 2, 1, 0].foldl (checkBit a b) r

namespace State

/-- R505: ALG; 7 acts as 1. -/
def checkAlgNo (s : State) (n : Nat) : Nat := let a := s.field (R.CHECKn_CTRL n) 2 0; if a = 7 then 1 else a

/-- R505: the algorithm of a unit. XOR8 and SUM16 stand with their widths. -/
def checkAlg (s : State) (n : Nat) : CheckAlg :=
  match s.checkAlgNo n with
  | 0 => ⟨32, 0x04C11DB7, 0xFFFFFFFF, true, true, 0xFFFFFFFF⟩
  | 1 => ⟨32, 0x1EDC6F41, 0xFFFFFFFF, true, true, 0xFFFFFFFF⟩
  | 2 => ⟨16, 0x1021, 0xFFFF, false, false, 0⟩
  | 3 => ⟨8, 0x07, 0, false, false, 0⟩
  | 4 => ⟨8, 0, 0, false, false, 0⟩
  | 5 => ⟨16, 0, 0, false, false, 0⟩
  | _ =>
    let x := s.field (R.CHECKn_CTRL n) 21 16
    let w := if x = 0 ∨ 32 < x then 32 else x
    ⟨w, (s.reg (R.CHECKn_POLY n)).toNat % 2 ^ w, (s.reg (R.CHECKn_INIT n)).toNat % 2 ^ w, s.flag (R.CHECKn_CTRL n) 8,
      s.flag (R.CHECKn_CTRL n) 9, (s.reg (R.CHECKn_XOROUT n)).toNat % 2 ^ w⟩

/-- R506: RESULT. -/
def checkResult (s : State) (n : Nat) : Nat :=
  let a := s.checkAlg n
  let r := (s.reg (R.CHECKn_VALUE n)).toNat % 2 ^ a.w
  (if a.refout then reverseBits a.w r else r) ^^^ a.xorout

/-- R506, R508: one byte is fed. -/
def checkFeed (s : State) (n : Nat) (b : Nat) : State :=
  let a := s.checkAlg n
  let r := (s.reg (R.CHECKn_VALUE n)).toNat % 2 ^ a.w
  let v := match s.checkAlgNo n with
    | 4 => r ^^^ b
    | 5 => (r + b) % 65536
    | _ => checkByte a r b
  (s.setReg (R.CHECKn_VALUE n) (w32 v)).bump (R.CHECKn_BYTES n)

/-- R506, R508: CMD.INIT. -/
def checkInit (s : State) (n : Nat) : State := (s.setReg (R.CHECKn_VALUE n) (w32 (s.checkAlg n).init)).setReg (R.CHECKn_BYTES n) 0

def unitOf (s : State) (n : Nat) : CheckUnit := Sparse.get {} s.check.unit n
def setUnit (s : State) (n : Nat) (u : CheckUnit) : State := { s with check := { s.check with unit := Sparse.put {} s.check.unit n u } }

/-- R511: the unit that serves port p in a direction. -/
def unitFor (s : State) (p dir : Nat) : Option Nat :=
  (List.range 8).find? (fun n => let u := s.unitOf n; u.dir == dir && u.port == p)

/-- R511: K. -/
def checkK (s : State) (n : Nat) : Nat := ((s.checkAlg n).w + 7) / 8

/-- R511: the bytes of a value of K bytes in ORDER. -/
def checkOrder (s : State) (n v : Nat) : Bytes :=
  if s.flag (R.CHECKn_CTRL n) 28 then leBytes (s.checkK n) v else beBytes (s.checkK n) v

/-- R510: a host write to units 0 to 3 is ignored, and so is one of the brace partner, which has the rules of a host access (R466);
the others act. -/
def checkBy (s : State) (i : Initiator) (n : Nat) (f : State → State) : State :=
  if 8 ≤ n then s else if (i = .host ∨ i = .partner) ∧ n < 4 then s.wdrop .check n else f s

/-- R508: a feed of k bytes, least significant first. -/
def checkFeedWord (s : State) (n k : Nat) (v : Word) : State :=
  if !s.flag (R.CHECKn_CTRL n) 31 || (s.unitOf n).dir != 0 then s.wdrop .check n
  else (leBytes k v.toNat).foldl (fun s b => s.checkFeed n b.toNat) s

/-- R511: what a write of CHECKn_CTRL does to the attachment. A unit that serves its port on is left as it is; entries held back
by one that stops are discarded (DEDUCED). -/
def checkAttach (s : State) (n : Nat) : State :=
  let u := s.unitOf n
  let c := s.reg (R.CHECKn_CTRL n)
  let want := if bit c 31 then (let a := fld c 30 29; if a = 3 then 0 else a) else 0
  let p := fld c 27 22
  if want = 0 then s.setUnit n {}
  else if u.dir = want ∧ u.port = p then s
  else if s.uartOwner p = 0 ∧ s.uartEn p = true ∧ (s.unitFor p want).all (· == n) = true then s.setUnit n { dir := want, port := p }
  else (s.setUnit n {}).raise (R.CHECKn_STATUS n) 4

/-- R511: the port leaves raw ownership, or is disabled. -/
def checkDetach (s : State) (p : Nat) : State :=
  ((List.range 8).filter (fun n => let u := s.unitOf n; u.dir != 0 && u.port == p && (s.uartOwner p != 0 || !s.uartEn p))).foldl
    (fun s n => (s.setUnit n {}).raise (R.CHECKn_STATUS n) 4) s

/-- R507: at entry to SHOW, units with ALG 6 stop. -/
def checkShowEntry (s : State) : State :=
  ((List.range 8).filter (fun n => s.checkAlgNo n == 6)).foldl (fun s n =>
    ((s.lower (R.CHECKn_CTRL n) 31).raise (R.CHECKn_STATUS n) 3).checkAttach n) s

/-- R511: a received frame ends. A frame without a character is none (DEDUCED). -/
def checkFrameEnd (s : State) (n : Nat) : State :=
  let u := s.unitOf n
  if u.dir ≠ 2 ∨ u.chars = 0 then s
  else
    let k := s.checkK n
    let ok := decide (k < u.chars) && !u.bad && u.held.map (fun x => BitVec.ofNat 8 x.1) == s.checkOrder n (s.checkResult n)
    let s := if ok then (s.bump (R.CHECKn_MATCH_CNT n)).raise (R.CHECKn_STATUS n) 0
      else (s.bump (R.CHECKn_FAIL_CNT n)).raise (R.CHECKn_STATUS n) 1
    (s.setUnit n { u with held := [], chars := 0, bad := false }).checkInit n

end State

/-! ## Meanings -/

def execCheckFeed8 (init : Initiator) (unit : Nat) (value : Word) (s : State) : Host.Outcome State Fault Refusal :=
  onMain s (fun s => s.checkBy init unit (·.checkFeedWord unit 1 value))

def execCheckFeed16 (init : Initiator) (unit : Nat) (value : Word) (s : State) : Host.Outcome State Fault Refusal :=
  onMain s (fun s => s.checkBy init unit (·.checkFeedWord unit 2 value))

def execCheckFeed32 (init : Initiator) (unit : Nat) (value : Word) (s : State) : Host.Outcome State Fault Refusal :=
  onMain s (fun s => s.checkBy init unit (·.checkFeedWord unit 4 value))

def execCheckInit (init : Initiator) (unit : Nat) (s : State) : Host.Outcome State Fault Refusal :=
  onMain s (fun s => s.checkBy init unit (·.checkInit unit))

end Sys2Proof.Machine
end

