-- ==== Sys2Proof/Machine/SacnFmt.lean ====
section
/-! DEFINITION. The packets of ANSI E1.31-2018 as UDP payloads (R290, R300–R306), and the checksums of ANSI E1.20 (R312). -/

namespace Sys2Proof.Machine

/-- A flags-and-length word: 0x7 and the length of the PDU. -/
def flen (n : Nat) : Bytes := beBytes 2 (0x7000 + n)

/-- The root layer up to the CID: preamble, identifier, PDU length, vector. -/
def acnRoot (n vector : Nat) (cid : Bytes) : Bytes :=
  beBytes 2 0x10 ++ beBytes 2 0 ++ beBytes 12 0x4153432D45312E3137000000 ++ flen (n - 16) ++ beBytes 4 vector ++ cid

/-- A data packet: CID, source name (64 bytes), priority, synchronization address, sequence number, options, universe, property
values. -/
def sacnData (cid name : Bytes) (prio sync seq options uni : Nat) (values : Bytes) : Bytes :=
  let n := 125 + values.length
  acnRoot n 4 cid ++ flen (n - 38) ++ beBytes 4 2 ++ name ++ beBytes 1 prio ++ beBytes 2 sync ++ beBytes 1 seq
    ++ beBytes 1 options ++ beBytes 2 uni ++ flen (n - 115) ++ [0x02, 0xA1] ++ beBytes 2 0 ++ beBytes 2 1
    ++ beBytes 2 values.length ++ values

/-- A synchronisation packet. E1.31 gives it no options octet: Force_Synchronization (R302) stands in the first reserved octet, at
the place it has in a data packet's options (DESIGN CHOICE). -/
def sacnSync (cid : Bytes) (seq addr : Nat) (force : Bool) : Bytes :=
  acnRoot 49 8 cid ++ flen 11 ++ beBytes 4 1 ++ beBytes 1 seq ++ beBytes 2 addr ++ [if force then 0x20 else 0, 0]

/-- A received data packet. -/
structure SacnIn where
  cid : Nat
  prio : Nat
  sync : Nat
  seq : Nat
  terminated : Bool
  uni : Nat
  values : Bytes
deriving DecidableEq, Repr

/-- The root layer of a packet is well formed, and its vector. -/
def acnRootOf (l : Bytes) : Option Nat :=
  if beAt l 0 2 = 0x10 ∧ beAt l 2 2 = 0 ∧ beAt l 4 12 = 0x4153432D45312E3137000000 ∧ l.length = beAt l 16 2 % 4096 + 16
      ∧ beAt l 16 2 / 4096 = 7
  then some (beAt l 18 4) else none

/-- A data packet read; none where it is malformed under E1.31. -/
def sacnRead (l : Bytes) : Option SacnIn :=
  let n := beAt l 123 2
  if acnRootOf l = some 4 ∧ 125 ≤ l.length ∧ beAt l 40 4 = 2 ∧ beAt l 38 2 = 0x7000 + (l.length - 38)
      ∧ beAt l 115 2 = 0x7000 + (l.length - 115) ∧ beAt l 117 1 = 2 ∧ beAt l 118 1 = 0xA1 ∧ beAt l 119 2 = 0 ∧ beAt l 121 2 = 1
      ∧ l.length = 125 + n ∧ beAt l 108 1 ≤ 200
  then some { cid := beAt l 22 16, prio := beAt l 108 1, sync := beAt l 109 2, seq := beAt l 111 1
              terminated := beAt l 112 1 / 64 % 2 == 1, uni := beAt l 113 2, values := slice l 125 n }
  else none

/-- A synchronisation packet's address; none where it is malformed. -/
def sacnSyncRead (l : Bytes) : Option Nat :=
  if acnRootOf l = some 8 ∧ l.length = 49 ∧ beAt l 40 4 = 1 ∧ beAt l 38 2 = 0x700B then some (beAt l 45 2) else none

/-- Universe discovery: ignored by R290. -/
def sacnDiscovery (l : Bytes) : Bool := acnRootOf l == some 8 && beAt l 40 4 == 2

/-- E1.20: the checksum of a message: the sum of its bytes, 16 bits. -/
def rdmSum (l : Bytes) : Nat := (l.map (·.toNat)).sum % 65536

/-- A response's checksum is valid. -/
def rdmOk (l : Bytes) : Bool := decide (3 ≤ l.length) && rdmSum (l.take (l.length - 2)) == beAt l (l.length - 2) 2

/-- A DISC_UNIQUE_BRANCH response without its preamble: up to 7 bytes 0xFE and the separator 0xAA. -/
def discBody : Nat → Bytes → Option Bytes
  | _, [] => none
  | 0, b :: t => if b = 0xAA then some t else none
  | n + 1, b :: t => if b = 0xAA then some t else if b = 0xFE then discBody n t else none

/-- A DISC_UNIQUE_BRANCH response decodes with a valid checksum. -/
def discOk (l : Bytes) : Bool := match discBody 7 l with
  | none => false
  | some b =>
    b.length == 16 && rdmSum (b.take 12) == (beAt b 12 1 &&& beAt b 13 1) * 256 + (beAt b 14 1 &&& beAt b 15 1)

end Sys2Proof.Machine
end

