-- ==== Sys2Proof/Machine/CalibBank.lean ====
section
/-! DEFINITION. The calibration banks in DRAM (R181–R187): their bases, the zone, tile and pixel entries of the live bank, and what
R199 protects. -/

namespace Sys2Proof.Machine

/-- R184: a zone entry. -/
structure Zone where
  pmax : Nat := 0
  w0 : Nat := 0
  w1 : Nat := 0
  w2 : Nat := 0
  bright : Nat := 0xFFFF
  down : Nat := 1
  up : Nat := 1
  safeUp : Nat := 1
  safeDefault : Nat := 0
  safeTmo : Nat := 0
  safeEn : Bool := false
  pwrEn : Bool := false
deriving DecidableEq, Repr

/-- R185: a tile entry. -/
structure TileCal where
  pixOff : Nat
  w : Nat
  h : Nat
  valid : Bool
  tcEn : Bool
  smooth : Nat
  zone : Nat
  tRef : Int
  tFallback : Int
deriving DecidableEq, Repr

namespace State

/-- R181: the base of bank A (false) or B (true). -/
def bankBase (s : State) (b : Bool) : Nat :=
  if b then s.field R.CALIB_BANKB_HI 1 0 * 2 ^ 32 + s.field R.CALIB_BANKB_LO 31 16 * 65536
  else s.field R.CALIB_BANKA_HI 1 0 * 2 ^ 32 + s.field R.CALIB_BANKA_LO 31 16 * 65536

/-- CALIB_BANK_SIZE in bytes. -/
def bankSize (s : State) : Nat := clampNat 5 8192 (s.field R.CALIB_BANK_SIZE 13 0) * 1048576

/-- The live bank. -/
def liveBank (s : State) : Option Nat := if s.calib.valid then some (s.bankBase s.calib.bankB) else none

/-- R184: a step: 0 acts as 1, above 65,536 as 65,536. -/
def stepVal (v : Nat) : Nat := clampNat 1 65536 v

/-- R184: zone entry z of a bank. -/
def zoneAt (s : State) (bank z : Nat) : Zone :=
  let e := s.rdBytes (bank + 0x1000 + 32 * z) 32
  { pmax := leAt e 0 4, w0 := leAt e 4 2, w1 := leAt e 6 2, w2 := leAt e 8 2, bright := leAt e 10 2
    down := stepVal (leAt e 12 4), up := stepVal (leAt e 16 4), safeUp := stepVal (leAt e 20 4)
    safeDefault := min 65536 (leAt e 24 4), safeTmo := leAt e 28 2
    safeEn := leAt e 30 1 / 2 % 2 == 1, pwrEn := leAt e 30 1 % 2 == 1 }

/-- R192: the zone table as read: all zeros with BRIGHT_MAX = 0xFFFF without a live bank. -/
def zoneOf (s : State) (z : Nat) : Zone := match s.liveBank with
  | some b => s.zoneAt b z
  | none => {}

/-- R185: the tile entry of tile t of a bank. -/
def tileAt (s : State) (bank t : Nat) : TileCal :=
  let e := s.rdBytes (bank + 0x4000 + 128 * t) 32
  { pixOff := leAt e 0 8, w := leAt e 8 2, h := leAt e 10 2, valid := leAt e 12 1 % 2 == 1, tcEn := leAt e 12 1 / 2 % 2 == 1
    smooth := min 8 (leAt e 13 1), zone := leAt e 14 1, tRef := signed 16 (leAt e 16 2), tFallback := signed 16 (leAt e 18 2) }

/-- R185: temperature coefficient K[c][i] of tile t. -/
def coeffK (s : State) (bank t c i : Nat) : Int := signed 32 (s.rdLE (bank + 0x4000 + 128 * t + 0x20 + 16 * c + 4 * i) 4)

/-- R187: the live tile entry a record's TAG names, when its lookup does not miss; TAG[15:0] of 0x8000 and above names none. -/
def calTile (s : State) (tag : Nat) : Option TileCal :=
  match s.liveBank with
  | none => none
  | some b =>
    let t := tag % 65536
    if tag = 0xFFFFFFFF ∨ 32768 ≤ t then none
    else
      let e := s.tileAt b t
      if e.valid then some e else none

/-- R186: the DRAM address of the pixel entry of (tx, ty). -/
def pixelEntry (bank : Nat) (e : TileCal) (tx ty : Nat) : Nat := bank + 0x410000 + e.pixOff + (ty * e.w + tx) * 32

/-! ## Protection (R199) -/

/-- R199: whether DRAM address a lies in a protected bank. -/
def protectedAt (s : State) (a : Nat) : Bool :=
  let inBank (b : Bool) : Bool := decide (s.bankBase b ≤ a) && decide (a < s.bankBase b + s.bankSize)
  s.flag R.CALIB_CTRL 0 && ((s.calib.valid && inBank s.calib.bankB)
    || (match s.calib.run with
        | some (.commit _ _) => inBank (!s.calib.bankB)
        | _ => false))

/-- R199: whether any of n bytes from address a lies in a protected bank. -/
def protectedRange (s : State) (a n : Nat) : Bool :=
  let meets (b : Bool) : Bool := decide (s.bankBase b < a + n) && decide (a < s.bankBase b + s.bankSize)
  s.flag R.CALIB_CTRL 0 && decide (0 < n) && ((s.calib.valid && meets s.calib.bankB)
    || (match s.calib.run with
        | some (.commit _ _) => meets (!s.calib.bankB)
        | _ => false))

/-- R199: a write transaction lost bytes. -/
def protCount (s : State) : State := (s.bump R.CALIB_PROT_CNT).raise R.CALIB_STATUS 3

/-- R199, R409: the bytes of a transfer that land: those that a bank protected by now does not drop. Answers how many were dropped. -/
def landBytes (s : State) (a : Nat) : Bytes → Nat × State
  | [] => (0, s)
  | b :: t =>
    if s.protectedAt a then let (n, s) := landBytes s (a + 1) t; (n + 1, s)
    else landBytes (s.wr8 a b) (a + 1) t

end State

end Sys2Proof.Machine
end

