-- ==== Sys2Proof/Machine/RingCore.lean ====
section
/-! DEFINITION. Descriptor rings, the part every family shares (R396–R405, R411): a ring's parameters, its owner's memory, the
command in starting position, and the completion. -/

namespace Sys2Proof.Machine

/-- R14: the status codes. -/
def stOk : Nat := 0
def stBadOpcode : Nat := 1
def stBadLength : Nat := 2
def stBadAddress : Nat := 3
def stNoResource : Nat := 4
def stConflict : Nat := 5
def stLocked : Nat := 6
def stTimeout : Nat := 7
def stFarError : Nat := 8
def stCheckFail : Nat := 9
def stTampered : Nat := 10
def stStaleEpoch : Nat := 11
def stAborted : Nat := 12

namespace State

/-- R415: K, clamped to 4 to 16; OWNER; PRIO. -/
def ringK (s : State) (r : Nat) : Nat := clampNat 4 16 (s.field (R.HOST_RINGr_CTRL r) 20 16)
def coreOwned (s : State) (r : Nat) : Bool := s.flag (R.HOST_RINGr_CTRL r) 4
def ringPrio (s : State) (r : Nat) : Nat := s.field (R.HOST_RINGr_CTRL r) 9 8

/-- R415: the bases of the command ring and of the completion ring. -/
def cmdBase (s : State) (r : Nat) : Nat := (s.reg (R.HOST_RINGr_CMD_HI r)).toNat * 2 ^ 32 + (s.reg (R.HOST_RINGr_CMD_LO r)).toNat
def cplBase (s : State) (r : Nat) : Nat := (s.reg (R.HOST_RINGr_CPL_HI r)).toNat * 2 ^ 32 + (s.reg (R.HOST_RINGr_CPL_LO r)).toNat

/-! ## The owner's memory (R396) -/

/-- One byte of host memory. -/
def hostRd8 (s : State) (a : Nat) : Byte := Sparse.get 0 s.host.mem (a % 2 ^ 64)

def hostWr8 (s : State) (a : Nat) (v : Byte) : State :=
  { s with host := { s.host with mem := Sparse.put 0 s.host.mem (a % 2 ^ 64) v } }

/-- n bytes of the memory of ring r's owner from address a. -/
def ownRead (s : State) (r a : Nat) : Nat → Bytes
  | 0 => []
  | n + 1 => (if s.coreOwned r then s.rd8 a else s.hostRd8 a) :: ownRead s r (a + 1) n

/-- Bytes written to the memory of ring r's owner from address a. A byte of a core-owned ring that meets a bank protected by R199 is
dropped (log entry 62). -/
def ownWrite (s : State) (r a : Nat) : Bytes → State
  | [] => s
  | b :: t => ownWrite (if s.coreOwned r then (if decide (a < fwBase) && !s.protectedAt a then s.wr8 a b else s) else s.hostWr8 a b) r (a + 1) t

/-! ## Commands in flight (R411) -/

/-- The opcodes that some chapter defines (R406, R418, R466, R468, R482, R493, R526). -/
def opcodeKnown (op : Nat) : Bool :=
  (1 ≤ op && op ≤ 9) || op == 0x20 || op == 0x21 || (0x30 ≤ op && op ≤ 0x32) || op == 0x3C || (0x40 ≤ op && op ≤ 0x45)
    || (0x50 ≤ op && op ≤ 0x54)

/-- R411: the next command of a ring to start: the first that has not started, once its FENCE allows it. -/
def startable (s : State) (r : Nat) : Option Cmd :=
  match (s.ringOf r).cmds.find? (fun c => !c.started) with
  | none => none
  | some c => if c.desc.fence && ((s.ringOf r).cmds.head?.map Cmd.idx) != some c.idx then none else some c

/-- The command that a row of opcode op runs on ring r. -/
def opReady (s : State) (r op : Nat) : Option Cmd :=
  match s.startable r with
  | some c => if c.desc.opcode == op && decide (r < 64) then some c else none
  | none => none

/-- A fetched command of a ring, by its index. -/
def cmdOf (s : State) (r i : Nat) : Option Cmd := (s.ringOf r).cmds.find? (fun c => c.idx == i)

/-- The command of index i has started, and waits for `w`. -/
def cmdWork (s : State) (r i : Nat) (w : Work) : State :=
  let x := s.ringOf r
  s.setRing r { x with cmds := x.cmds.map (fun c => if c.idx == i then { c with started := true, work := w } else c) }

/-- The started commands, over all rings, whose work satisfies p: ring and command. -/
def cmdsWith (s : State) (p : Cmd → Bool) : List (Nat × Cmd) :=
  s.host.ring.flatMap (fun x => (x.2.cmds.filter (fun c => c.started && p c)).map (fun c => (x.1, c)))

/-! ## Completion (R401, R405) -/

/-- R405: the 32 bytes of the completion at index i. -/
def cplBytes (s : State) (k i : Nat) (irq : Bool) (c : Cmd) (status r0 r1 detail : Nat) : Bytes :=
  let phase := 1 - (i / 2 ^ k) % 2
  leBytes 2 c.desc.tag ++ leBytes 1 status ++ leBytes 1 (2 * b2n irq + phase) ++ leBytes 2 c.idx ++ leBytes 1 c.desc.opcode ++ [0]
    ++ leBytes 4 r0 ++ leBytes 4 r1 ++ leBytes 4 s.time.epoch.toNat ++ leBytes 4 s.nowTs32.toNat ++ leBytes 4 detail ++ leBytes 4 0

/-- R401, R402: the completion of a command is written and CPL_TAIL advances; under error 0x03 none is written. -/
def completeOne (s : State) (r i status r0 r1 detail : Nat) : State :=
  let x := s.ringOf r
  match x.cmds.find? (fun c => c.idx == i) with
  | none => s
  | some c =>
    let x := { x with cmds := x.cmds.filter (fun c => c.idx != i) }
    if x.err = 3 then s.setRing r x
    else
      let irq := c.desc.irq || s.flag (R.HOST_RINGr_CTRL r) 1
      let k := s.ringK r
      let s := s.ownWrite r (s.cplBase r + 32 * (x.cplTail % 2 ^ k)) (s.cplBytes k x.cplTail irq c status r0 r1 detail)
      let kept := x.irqs.filter (fun j => decide (0 < (x.cplTail + 65536 - j) % 65536 ∧ (x.cplTail + 65536 - j) % 65536 < 2 ^ k))
      let s := s.setRing r { x with cplTail := (x.cplTail + 1) % 65536, irqs := kept ++ (if irq then [x.cplTail] else []) }
      s.bump (R.HOST_RINGr_DONE_CNT r)

/-- R406: commands of an unknown opcode complete with BAD_OPCODE as soon as they could start; the argument is fuel. -/
def reap (s : State) (r : Nat) : Nat → State
  | 0 => s
  | n + 1 => match s.startable r with
    | none => s
    | some c => if opcodeKnown c.desc.opcode then s else reap (s.completeOne r c.idx stBadOpcode 0 0 0) r n

/-- A command completes, and unknown opcodes that stood behind it. -/
def complete (s : State) (r i status : Nat) (r0 r1 detail : Nat := 0) : State :=
  (s.completeOne r i status r0 r1 detail).reap r ((s.ringOf r).cmds.length + 1)

/-- A command starts and waits for `w`. -/
def startCmd (s : State) (r i : Nat) (w : Work) : State := (s.cmdWork r i w).reap r ((s.ringOf r).cmds.length + 1)

/-- R402: a ring stops. -/
def stopRing (s : State) (r err : Nat) : State :=
  (s.setRing r { s.ringOf r with state := .stopped, err := err }).raise R.HOST_STATUS 0

/-- R402, R395: a transfer of ring r over PCIe has failed, or its link is lost: the ring stops with 0x03; one that drains goes on
draining under 0x03 (R403). -/
def pcieFail (s : State) (r : Nat) : State := match (s.ringOf r).state with
  | .disabled => s
  | .draining => s.setRing r { s.ringOf r with err := 3 }
  | _ => s.stopRing r 3

/-- What a row of opcode op does on ring r: nothing where no such command stands ready. -/
def runDesc (s : State) (r op : Nat) (f : State → Cmd → State) : State :=
  match s.opReady r op with
  | none => s
  | some c => f s c

end State

end Sys2Proof.Machine
end

