-- ==== Sys2Proof/Machine/Calib.lean ====
section
/-! DEFINITION. Calibration (06): temperatures and gains (R190–R196), the bank commands (R197, R198), the protected ranges
(R199), and the self-calibration coefficients (R200, R201). -/

namespace Sys2Proof.Machine

namespace State

def setCalib (s : State) (c : CalibSt) : State := { s with calib := c }

/-! ## Temperatures and gains (R190–R193) -/

/-- R190: T_u of a tile of the live bank: T_FALLBACK where no other value is kept. -/
def usedTemp (s : State) (t : Nat) (e : TileCal) : Int := (s.calib.used.lookup t).getD e.tFallback

/-- R190: a tile's temperature report. -/
def tempReport (s : State) (t : Nat) (temp : Int) (e : Epoch) : State :=
  let c := s.calib
  s.setCalib { c with report := (t, (temp, e)) :: c.report.filter (fun x => x.1 != t)
                      since := if c.since.contains t then c.since else t :: c.since }

/-- R190: the update of T_u of tile t for the frame of render epoch r. -/
def updateTemp (bank : Nat) (r : Epoch) (s : State) (t : Nat) : State :=
  let c := s.calib
  let e := s.tileAt bank t
  let ageMax := atLeast1 (s.field R.CALIB_TC_AGE 15 0)
  let rest := c.used.filter (fun x => x.1 != t)
  match (if c.since.contains t then c.report.lookup t else none) with
  | some (tr, er) =>
    if (r - er).toNat ≤ ageMax then
      let u := s.usedTemp t e
      s.setCalib { c with used := (t, u + (tr - u) / 2 ^ e.smooth) :: rest
                          fresh := if c.fresh.contains t then c.fresh else t :: c.fresh }
    else if c.fresh.contains t then
      ((s.setCalib { c with used := rest, fresh := c.fresh.filter (· != t) }).bump R.CALIB_TEMP_STALE_CNT).raise R.CALIB_STATUS 5
    else s.setCalib { c with used := rest }
  | none => s.setCalib { c with used := rest }

/-- R190, R192, R193: a frame of render epoch r has completed or been dropped: temperatures, the frame's sums, gain work. -/
def calibFrameEnd (s : State) (r : Epoch) (completed : Bool) : State :=
  let s := match s.liveBank with
    | some b => s.calib.since.foldl (updateTemp b r) s
    | none => s
  let c := s.calib
  s.setCalib { c with work := some completed, ready := false, sum := [], lastSum := if completed then c.sum else c.lastSum }

/-- R191: one component's gain from its four coefficients and d. -/
def tempGain (k : Nat → Int) (d : Int) : Nat :=
  (clampInt 0 65535 ((k 0 + k 1 * d + k 2 * d ^ 2 + k 3 * d ^ 3 + 0x2000) / 2 ^ 14)).toNat

/-- R191: G_c of tile t of a bank; 16,384 each where TC_EN = 0. -/
def tileGains (s : State) (bank t : Nat) : Nat × Nat × Nat :=
  let e := s.tileAt bank t
  let d := clampInt (-1600) 1600 (s.usedTemp t e - e.tRef)
  let g (c : Nat) : Nat := tempGain (s.coeffK bank t c) d
  (g 0, g 1, g 2)

/-- R193: the power gain of zone z, from its live value towards the target that S_z sets. -/
def powerGain (e : Zone) (sum live : Nat) : Nat :=
  if !e.pwrEn then 65536
  else
    let target := if sum ≤ e.pmax * 2 ^ 16 then 65536 else e.pmax * 2 ^ 32 / sum
    if target < live then max target (live - e.down) else min target (live + e.up)

/-- The live P_z and S′_z, and g_z. -/
def powerOf (s : State) (z : Nat) : Nat := Sparse.get 65536 s.calib.power z
def safeOf (s : State) (z : Nat) : Nat := Sparse.get 65536 s.calib.safe z

/-- R191, R193, R195: the gain work of the last frame finishes. -/
def calibGainsDone (s : State) : State :=
  let c := s.calib
  match c.work with
  | none => s
  | some completed =>
    if c.ready then s
    else
      let gains := match s.liveBank with
        | none => []
        | some b => (List.range 32768).filterMap (fun t =>
            let e := s.tileAt b t
            if e.valid && e.tcEn then some (t, s.tileGains b t) else none)
      let power := if completed then (List.range 256).foldl (fun l z =>
          Sparse.put 65536 l z (powerGain (s.zoneOf z) (Sparse.get 0 c.lastSum z % 2 ^ 48) (s.powerOf z))) []
        else c.power
      s.setCalib { c with nextGain := gains, nextPower := power, ready := true }

/-! ## The safety gain (R194, R195) -/

/-- R194: whether zone z's safety input is stale at the boundary that starts epoch e. -/
def safeStaleAt (s : State) (v : Zone) (e : Epoch) (z : Nat) : Bool :=
  v.safeTmo != 0 && (match s.calib.safeAt.lookup z with
    | none => true
    | some w => decide (v.safeTmo < (e - w).toNat))

/-- R194: S′_z and STALE of zone z at the boundary that starts epoch e, then g_z (R195). -/
def safeStep (e : Epoch) (s : State) (z : Nat) : State :=
  let v := s.zoneOf z
  let stale := v.safeEn && s.safeStaleAt v e z
  let x := if stale then v.safeDefault else min 65536 (s.field (R.CALIB_SAFE_INz z) 16 0)
  let old := s.safeOf z
  let g := if !v.safeEn then 65536 else if x < old then x else min x (old + v.safeUp)
  let c := s.calib
  let rest := c.safeStale.filter (· != z)
  (s.setCalib { c with safe := Sparse.put 65536 c.safe z g, safeStale := if stale then z :: rest else rest
                       gz := Sparse.put 65536 c.gz z ((s.powerOf z * g + 32768) / 65536) }).raiseIf stale R.CALIB_STATUS 6

/-- R194: a write of CALIB_SAFE_INz. -/
def safeIn (s : State) (z : Nat) (v : Word) : State :=
  if 256 ≤ z then s
  else
    let s := s.setReg (R.CALIB_SAFE_INz z) (v &&& 0x1FFFF)
    s.setCalib { s.calib with safeAt := (z, s.time.epoch) :: s.calib.safeAt.filter (fun x => x.1 != z) }

/-! ## The bank commands (R197, R198) -/

/-- CALIB_CMD_STAT is loaded, with RUNNING = 0. -/
def calibStat (s : State) (status idx : Nat) : State := s.setReg R.CALIB_CMD_STAT (w32 (idx * 65536 + status))

/-- The running command ends with a status. -/
def calibEnd (s : State) (status idx : Nat) : State :=
  let o := s.calib.owner
  let s := (s.setCalib { s.calib with run := none, owner := none }).calibStat status idx
  match o with
  | some (r, i) => s.complete r i status 0 0 idx
  | none => s

/-- A COMMIT fails. -/
def commitFail (s : State) (status idx : Nat) : State := (s.raise R.CALIB_STATUS 1).calibEnd status idx

/-- R197: the bytes of the live bank whose offset satisfies p are copied into the pending bank. -/
def copyBank (s : State) (p : Nat → Bool) : State :=
  let src := s.bankBase s.calib.bankB
  let dst := s.bankBase (!s.calib.bankB)
  let n := s.bankSize
  let inside (b : Nat) (c : Host.Cell) : Bool := decide (b ≤ c.1) && decide (c.1 < b + n)
  let offs := ((s.dram.filter (inside src)).map (fun c => c.1 - src) ++ (s.dram.filter (inside dst)).map (fun c => c.1 - dst)).filter p
  let old := s
  offs.foldl (fun s o => s.wr8 (dst + o) (old.rd8 (src + o))) s

/-- R197: a command that is refused with CONFLICT or BAD_OPCODE. -/
def calibRefuse (s : State) (status : Nat) (o : Option (Nat × Nat)) : State :=
  let s := if s.calib.run.isSome then s.wdrop .calib 0 else s.calibStat status 0
  match o with
  | some (r, i) => s.complete r i status
  | none => s

/-- A COPY or COMMIT begins, on behalf of descriptor o: RUNNING reads 1 beside the status of the last command. -/
def calibBegin (s : State) (x : CalibRun) (o : Option (Nat × Nat)) : State :=
  let s := (s.setCalib { s.calib with run := some x, owner := o }).raise R.CALIB_CMD_STAT 8
  match o with
  | some (r, i) => s.startCmd r i .calib
  | none => s

/-- R197: COPY. -/
def calibCopy (s : State) (o : Option (Nat × Nat)) : State :=
  if s.calib.run.isSome || !s.calib.valid then s.calibRefuse stConflict o else s.calibBegin .copy o

/-- R198: COMMIT. -/
def calibCommit (s : State) (atEpoch : Bool) (o : Option (Nat × Nat)) : State :=
  if s.calib.run.isSome then s.calibRefuse stConflict o
  else
    let target := s.reg R.CALIB_COMMIT_EPOCH
    if atEpoch && !later target s.time.epoch then
      let s := (s.raise R.CALIB_STATUS 1).calibStat stStaleEpoch 0
      match o with
      | some (r, i) => s.complete r i stStaleEpoch
      | none => s
    else s.calibBegin (.commit (if atEpoch then some target else none) false) o

/-- R197: the command that CANCEL stops ends with ABORTED; of a COPY, which bytes had been copied is not stated. -/
def calibStop (s : State) : State :=
  match s.calib.run with
  | none => s
  | some .copy =>
    let (mix, s) := s.fresh
    ((s.copyBank (fun o => mix.testBit o)).raise R.CALIB_STATUS 2).calibEnd stAborted 0
  | some (.commit _ _) => s.calibEnd stAborted 0

/-- R197: CANCEL. -/
def calibCancel (s : State) (o : Option (Nat × Nat)) : State :=
  let stops := s.calib.run.isSome
  let s := if stops then s.calibStop else s.calibStat stOk 0
  match o with
  | some (r, i) => s.complete r i (if stops then stAborted else stOk)
  | none => s

/-- R197: CALIB command number c. -/
def calibCmd (s : State) (c : Nat) (atEpoch : Bool) (o : Option (Nat × Nat)) : State :=
  match c with
  | 1 => s.calibCopy o
  | 2 => s.calibCommit atEpoch o
  | 3 => s.calibCancel o
  | _ => s.calibRefuse stBadOpcode o

/-- R197: a COPY finishes. -/
def calibCopyDone (s : State) : State :=
  match s.calib.run with
  | some .copy => ((s.copyBank (fun _ => true)).raise R.CALIB_STATUS 2).calibEnd stOk 0
  | _ => s

/-- R198: the first failed check of a bank: status and index. -/
def bankCheck (s : State) (b : Nat) : Option (Nat × Nat) :=
  let h := s.rdBytes b 64
  let pix := leAt h 16 8
  let tiles := (List.range 32768).filter (fun t => (s.tileAt b t).valid)
  if leAt h 0 4 ≠ 0x4C41434B ∨ leAt h 4 2 ≠ 1 then some (stCheckFail, 0xFFFF)
  else if pix % 32 ≠ 0 ∨ s.bankSize < 0x410000 + pix then some (stBadLength, 0xFFFF)
  else match tiles.find? (fun t => let e := s.tileAt b t; e.w == 0 || decide (16384 < e.w) || e.h == 0 || decide (16384 < e.h)) with
    | some t => some (stBadLength, t)
    | none => (tiles.find? (fun t => let e := s.tileAt b t; e.pixOff % 32 != 0 || decide (pix < e.pixOff + e.w * e.h * 32))).map
        (fun t => (stBadAddress, t))

/-- R198: validation of the pending bank finishes. -/
def commitValidated (s : State) : State :=
  match s.calib.run with
  | some (.commit target false) =>
    match s.bankCheck (s.bankBase (!s.calib.bankB)) with
    | some (status, idx) => s.commitFail status idx
    | none => s.setCalib { s.calib with run := some (.commit target true) }
  | _ => s

/-- R198: the swap. -/
def bankSwap (s : State) : State :=
  let b := !s.calib.bankB
  let s := s.setCalib { s.calib with valid := true, bankB := b, used := [], since := [], fresh := [] }
  let s := s.setReg R.CALIB_LIVE_GEN (w32 (s.rdLE (s.bankBase b + 8) 4))
  ((s.bump R.CALIB_COMMIT_CNT).raise R.CALIB_STATUS 0).calibEnd stOk 0

/-- R198: a commit that is due at the boundary that starts epoch e. -/
def commitStep (s : State) (e : Epoch) : State :=
  match s.calib.run with
  | some (.commit (some t) ok) => if !reached t e then s else if ok then s.bankSwap else s.commitFail stTimeout 0xFFFF
  | some (.commit none true) => s.bankSwap
  | _ => s

/-! ## Self-calibration coefficients (R200, R201) -/

/-- R200: the class of the coefficient at a register offset; for class 1, its lane. -/
def scClass (a : Nat) : Option Nat :=
  match resolve a with
  | .at .time _ l => if 0x200 ≤ l ∧ l < 0x200 + 8 * 37 then some 0 else none
  | .at .mac i l => if i < 32 ∧ (l = 0x104 ∨ l = 0x108) then some 1 else none
  | .at .dram _ l => if 0x100 ≤ l ∧ l < 0x200 then some 2 else none
  | .at .uart _ l => if l = 0x2C then some 3 else none
  | _ => none

/-- The lane of a class 1 coefficient. -/
def scLane (a : Nat) : Nat := match resolve a with
  | .at .mac i _ => i
  | _ => 64

/-- The bits of a coefficient that a write sets. -/
def scMask (a : Nat) : Word := match resolve a with
  | .at b i l => match rowAt b i l with
    | some r => r.mask .rw
    | none => 0
  | _ => 0

/-- A pending coefficient becomes live. -/
def scApply (s : State) (a : Nat) : State :=
  match s.calib.scPend.lookup a with
  | none => s
  | some v =>
    let s := (s.setReg a (blend (s.reg a) v (scMask a))).fixLive a
    s.setCalib { s.calib with scPend := s.calib.scPend.filter (fun x => x.1 != a), scDue := s.calib.scDue.filter (· != a) }

/-- R335: the receiver of the UART whose trim stands at an offset holds a character. -/
def scBusy (s : State) (a : Nat) : Bool := match resolve a with
  | .at .uart i _ => (s.uartOf i).held.isSome
  | _ => false

/-- R200, R335: a pending coefficient takes effect, that of a UART between characters. -/
def scDueNow (s : State) (a : Nat) : State :=
  if s.scBusy a then s.setCalib { s.calib with scDue := a :: s.calib.scDue.filter (· != a) } else s.scApply a

/-- R200: a value enters the pending copy of a coefficient, and in IDLE takes effect, class 1 at the next inter-frame gap. -/
def scPut (s : State) (a : Nat) (v : Word) : State :=
  match scClass a with
  | none => s
  | some c =>
    let s := s.setCalib { s.calib with scPend := (a, v) :: s.calib.scPend.filter (fun x => x.1 != a) }
    if s.inShow || c == 1 then s else s.scDueNow a

/-- R200, R335: a software write of a coefficient; those of a UART are posted (R60) and disarm it, BUSY or not (R328). -/
def scWrite (s : State) (offset : Nat) (v : Word) : State :=
  let a := canonOf offset
  match resolve a with
  | .at .uart i _ => (s.setUart i { s.uartOf i with armed := 0 }).ifFree .uart i (canon .uart i 0) (·.scPut a v)
  | _ => s.scPut a v

/-- The pending coefficients of a class. -/
def scOf (s : State) (c : Nat) : List Nat := (s.calib.scPend.map (·.1)).filter (fun a => scClass a == some c)

/-- R200: step 2 of a boundary in SHOW. In IDLE classes 0, 2 and 3 have nothing pending. -/
def scStep (s : State) : State :=
  let s := (s.scOf 0 ++ s.scOf 3).foldl scDueNow s
  s.setCalib { s.calib with scDue := s.calib.scDue.filter (fun a => scClass a == some 3) ++ s.scOf 1 }

/-- R200: entry to IDLE applies class 2. -/
def scIdle (s : State) : State := (s.scOf 2).foldl scApply s

/-- R200: an inter-frame gap on a lane. -/
def scGap (s : State) (lane : Nat) : State :=
  ((s.scOf 1).filter (fun a => scLane a == lane && (!s.inShow || s.calib.scDue.contains a))).foldl scApply s

/-! ## Step 2 of the boundary (R195, R196) -/

/-- R195, R196: gains: the pending G_c and P_z become live, or are discarded as late; then S′_z and g_z. -/
def gainStep (s : State) (e : Epoch) : State :=
  let c := s.calib
  let s := match c.work with
    | none => s
    | some _ =>
      if c.ready then s.setCalib { c with gain := c.nextGain, power := c.nextPower, work := none, ready := false }
      else (s.setCalib { c with work := none }).raise R.CALIB_STATUS 7
  (List.range 256).foldl (safeStep e) s

/-- R196: step 2 of the boundary that starts epoch e. -/
def calibStep (s : State) (e : Epoch) : State := ((s.commitStep e).scStep).gainStep e

end State

/-! ## Meanings -/

def execCalibGainsDone (s : State) : Host.Outcome State Fault Refusal := onMain s (·.calibGainsDone)

def execCalibCopy (s : State) : Host.Outcome State Fault Refusal := onMain s (·.calibCopy none)

def execCalibCopyDone (s : State) : Host.Outcome State Fault Refusal := onMain s (·.calibCopyDone)

def execCalibCommit (atEpoch : Bool) (s : State) : Host.Outcome State Fault Refusal := onMain s (·.calibCommit atEpoch none)

def execCommitValidated (s : State) : Host.Outcome State Fault Refusal := onMain s (·.commitValidated)

def execCalibCancel (s : State) : Host.Outcome State Fault Refusal := onMain s (·.calibCancel none)

def execSafeInWrite (zone : Nat) (value : Word) (s : State) : Host.Outcome State Fault Refusal := onMain s (·.safeIn zone value)

def execScCoeffWrite (offset : Nat) (value : Word) (s : State) : Host.Outcome State Fault Refusal :=
  onMain s (·.scWrite offset value)

def execScApplyIfg (lane : Nat) (s : State) : Host.Outcome State Fault Refusal := onMain s (·.scGap lane)

/-- R406, R407: opcode CALIB. -/
def execCalibOp (ring : Nat) (s : State) : Host.Outcome State Fault Refusal :=
  onMain s (fun s => s.runDesc ring 5 (fun s c =>
    let cmd := fld (c.desc.args.getD 0 0) 3 0
    if c.desc.atEpoch && !later c.desc.epoch s.time.epoch && 1 ≤ cmd && cmd ≤ 3 then s.complete ring c.idx stStaleEpoch
    else if cmd == 2 && (s.ringOf ring).state == .draining then s.complete ring c.idx stAborted
    else
      let s := if c.desc.atEpoch && 1 ≤ cmd && cmd ≤ 3 then s.setReg R.CALIB_COMMIT_EPOCH c.desc.epoch else s
      s.calibCmd cmd c.desc.atEpoch (some (ring, c.idx))))

end Sys2Proof.Machine
end

