-- ==== Sys2Proof/Machine/HubRx.lean ====
section
/-! DEFINITION. Clodar's receiver (R338, R339): sentences built from the entries of hub-owned ports. -/

namespace Sys2Proof.Machine

namespace State

def setHub (s : State) (h : HubSt) : State := { s with hub := h }

/-- R364: HUB_CTRL.EN, and a port's MAXLEN. -/
def hubEn (s : State) : Bool := s.flag R.HUB_CTRL 0
def maxLen (s : State) (p : Nat) : Nat := max 82 (s.field (R.HUB_PORTn_CFG p) 15 8)

def setBuilding (s : State) (p : Nat) (b : Option (Bytes × Int)) : State :=
  s.setHub { s.hub with building := (match b with
    | some x => [(p, x)]
    | none => []) ++ s.hub.building.filter (fun x => x.1 != p) }

/-- R340, R364: a sentence is discarded: its counter, and a status bit. -/
def hubDiscard (s : State) (cnt b : Nat) : State := (s.bump cnt).raise R.HUB_STATUS b

/-- R339: one receive entry of port p, with the local time of its start edge. A sentence whose LF arrives waits for
SENTENCE_COMPLETE, with its epoch (R342). -/
def hubEntry (s : State) (p e : Nat) (start : Int) : State :=
  let c := if 256 ≤ e % 512 then 0xFF else e % 256
  let under := s.hub.building.lookup p
  if e / 512 % 32 ≠ 0 then
    match under with
    | some _ => (s.setBuilding p none).hubDiscard R.HUB_ERRCHAR_CNT 0
    | none => s
  else if e % 512 = 0x24 ∨ e % 512 = 0x21 then
    let s := match under with
      | some _ => s.hubDiscard R.HUB_MALFORMED_CNT 0
      | none => s
    s.setBuilding p (some ([BitVec.ofNat 8 c], start))
  else match under with
    | none => s
    | some (l, t) =>
      let l := l ++ [BitVec.ofNat 8 c]
      if s.maxLen p < l.length then (s.setBuilding p none).hubDiscard R.HUB_OVERLEN_CNT 2
      else if e % 512 = 0x0A then
        let s := s.setBuilding p none
        s.setHub { s.hub with ready := s.hub.ready ++
          [{ port := p, chars := l, time := t, epoch := s.time.epoch, rules := s.hub.live.rules }] }
      else s.setBuilding p (some (l, t))

/-- R338: Clodar takes what the receive FIFO of a hub-owned port holds. -/
def hubDrain (s : State) (p : Nat) : State :=
  if s.hubEn && s.uartOwner p == 1 then
    let u := s.uartOf p
    u.rx.foldl (fun s x => s.hubEntry p x.1 x.2) (s.setUart p { u with rx := [] })
  else s

end State

end Sys2Proof.Machine
end

