-- ==== Sys2Proof/Machine/Line.lean ====
section
/-! DEFINITION. Serial ports: the character format (R320, R321), the level that a port's receiver sees (R332), and UARTn_LSR (R336). -/

namespace Sys2Proof.Machine

namespace State

/-! ## Format (R320) -/

/-- R336: D, of a value of UARTn_FMT. -/
def fmtBits (f : Word) : Nat := let d := fld f 2 0; if 4 < d then 8 else 5 + d

/-- R320: the parity bit of a character under a format, where one is present. -/
def fmtParity (f : Word) (data : Nat) : Option Bool :=
  let odd := popcount (fmtBits f) data % 2 == 1
  match fld f 6 4 with
  | 1 => some odd
  | 2 => some !odd
  | 3 => some true
  | 4 => some false
  | _ => none

/-- R321: the format in effect at a cycle: the oldest value that a later write replaced, or the one that stands. -/
def formatAt (s : State) (p t : Nat) : Word :=
  match ((s.uartOf p).formats.filter (fun x => decide (t < x.1))).getLast? with
  | some x => x.2
  | none => s.reg (R.UARTn_FMT p)

/-! ## The line (R332, R336) -/

/-- R320: the level of bit i of a character on the line, under a format. -/
def charLevel (f : Word) (d i : Nat) : Bool :=
  if i = 0 then false else if i ≤ fmtBits f then d.testBit (i - 1) else if i = fmtBits f + 1 then (fmtParity f d).getD true else true

/-- The level of a DMX packet after a number of FRC ticks: its break, its mark, and slots of 11 bits, 5,000 ticks each (R309). -/
def packetLevel (x : DmxOut) (t : Nat) : Bool :=
  let head := 5 * (x.low + x.mark) / 4
  if t < 5 * x.low / 4 then false
  else if t < head then true
  else
    let i := (t - head) / 5000
    i / 11 ≥ x.data.length || charLevel 0x103 (x.data.getD (i / 11) 0).toNat (i % 11)

/-- R320, R330: the level at the transmitter's output. -/
def txLevel (s : State) (p : Nat) : Bool :=
  let u := s.uartOf p
  let now := s.time.frc
  match u.packets.find? (fun x => decide (x.start ≤ now) && decide (now < x.ends)), u.shifter with
  | some x, _ => packetLevel x (now - x.start)
  | none, some e =>
    if !u.packets.isEmpty || decide (u.sentEnds ≤ now) then true
    else if e / 2048 % 2 = 1 then decide (5 * u.sentBrk.1 / 4 ≤ now - u.sentAt)
    else
      let f := s.formatAt p u.sentAt
      charLevel f (e % 512 % 2 ^ fmtBits f) (32 * (now - u.sentAt) / atLeast1 u.sentDiv)
  | none, none => true

/-- R332: the receiver hears the transmitter: under LOOP, or with ECHO while a half-duplex port drives the line. -/
def uartOwn (s : State) (p : Nat) : Bool :=
  let c := s.reg (R.UARTn_CTRL p)
  bit c 4 || (bit c 5 && !bit c 8 && s.uartDriving p)

/-- R332: the receiver sees a constant mark: half duplex, its driver enabled, no ECHO. -/
def uartMuted (s : State) (n : Nat) : Bool :=
  s.uartDriving n && !s.flag (R.UARTn_CTRL n) 8 && !s.flag (R.UARTn_CTRL n) 5

/-- R336: LINE, the level at the receiver. Its filter's delay of some cycles is left out (log entry 28). -/
def rxLevel (s : State) (n : Nat) : Bool := if s.uartOwn n then s.txLevel n else (s.uartOf n).line || s.uartMuted n

/-- R336: UARTn_LSR as it reads. -/
def uartLsr (s : State) (n : Nat) : Word :=
  let u := s.uartOf n
  w32 (u.summary % 32 + 64 * b2n (s.uartRxReq n) + 128 * b2n (s.uartTxReq n) + 256 * b2n (s.uartTxIdle n)
    + 512 * b2n u.stuck + 1024 * b2n (s.rxLevel n))

end State

end Sys2Proof.Machine
end

