-- ==== Sys2Proof/Machine/KeyStore.lean ====
section
/-! DEFINITION. The key store as its engines see it (R488, R489). -/

namespace Sys2Proof.Machine

namespace State

def setSec (s : State) (x : SecSt) : State := { s with sec := x }

/-- R488: a VALID slot. -/
def slotAt (s : State) (n : Nat) : Option KeySlot := s.sec.slots.lookup n

/-- R489: a slot that is VALID and issued to an engine. -/
def issued (s : State) (n engine : Nat) : Bool := match s.slotAt n with
  | some k => k.engine == engine
  | none => false

/-- R489: an engine asks for the key of a slot; a refusal counts. -/
def askKey (s : State) (n engine : Nat) : Option Bytes × State :=
  match s.slotAt n with
  | some k => if k.engine = engine then (some k.key, s) else (none, (s.bump R.SEC_DENY_CNT).raise R.SEC_STATUS 2)
  | none => (none, (s.bump R.SEC_DENY_CNT).raise R.SEC_STATUS 2)

end State

end Sys2Proof.Machine
end

