-- ==== Sys2Proof/Machine/MacStat.lean ====
section
/-! DEFINITION. A MAC's own state, its statistics counters (R382, R383), and MACsec on the control ports (R386–R389). The layout of
the SecTAG and the construction of the IV are those of IEEE 802.1AE-2018, which R386 names (log entry 13). -/

namespace Sys2Proof.Machine

namespace State

def macOf (s : State) (n : Nat) : MacPort := Sparse.get {} s.mac.port n
def setMac (s : State) (n : Nat) (m : MacPort) : State := { s with mac := { s.mac with port := Sparse.put {} s.mac.port n m } }

/-- MACn_CTRL.EN. -/
def macEn (s : State) (n : Nat) : Bool := n < 37 && s.flag (R.MACn_CTRL n) 0

/-- R384: the port is in wake-only mode. -/
def isWakeOnly (s : State) (n : Nat) : Bool := s.power.wakeOnly.contains n

/-- R369, R384: the port takes frames in: enabled, RX_EN = 1, its link up and not in wake-only mode. -/
def rxReady (s : State) (n : Nat) : Bool := s.macEn n && s.flag (R.MACn_CTRL n) 2 && (s.macOf n).up && !s.isWakeOnly n

/-! ## Statistics -/

/-- R383: whether counter k counts on port n. -/
def statExists (n k : Nat) : Bool := k < 28 || (32 ≤ k && k < 52) || (52 ≤ k && k < 63 && 32 ≤ n)

/-- R382: counter k of MAC n counts v; bit k of STAT_HALF and STAT_WRAP is set as the count passes 2³¹ and wraps. -/
def macStat (s : State) (n k v : Nat) : State :=
  if !statExists n k || v == 0 then s
  else
    let old := (s.reg (R.MACn_STATk n k)).toNat
    let s := s.count (R.MACn_STATk n k) v
    let half := if k < 32 then R.MACn_STAT_HALF_LO n else R.MACn_STAT_HALF_HI n
    let wrap := if k < 32 then R.MACn_STAT_WRAP_LO n else R.MACn_STAT_WRAP_HI n
    let s := if old < 2 ^ 31 ∧ 2 ^ 31 ≤ old + v then (s.raise half (k % 32)).raise (R.MACn_STATUS n) 1 else s
    if 2 ^ 32 ≤ old + v then (s.raise wrap (k % 32)).raise (R.MACn_STATUS n) 2 else s

/-- R383: the length bin of counters 8–14 and 39–45. -/
def lenBin (len : Nat) : Nat :=
  if len ≤ 64 then 0 else if len ≤ 127 then 1 else if len ≤ 255 then 2 else if len ≤ 511 then 3 else if len ≤ 1023 then 4
  else if len ≤ 1518 then 5 else 6

/-- The address type of a frame: 0 unicast, 1 multicast, 2 broadcast. -/
def castOf (l : Bytes) : Nat :=
  if l.take 6 == List.replicate 6 0xFF then 2 else if (l.getD 0 0).toNat % 2 == 1 then 1 else 0

/-- R390: queue q of port n is express; queue 7 always is. -/
def isExpress (s : State) (n q : Nat) : Bool := q == 7 || s.flag (R.MACn_PREEMPT n) (16 + q)

/-- R385: octets that a control port has received and sent count towards its traffic. -/
def traffic (s : State) (n rx tx : Nat) : State :=
  if n < 32 then s else s.setMac n { s.macOf n with dsRx := (s.macOf n).dsRx + rx, dsTx := (s.macOf n).dsTx + tx }

/-- R383: a frame of len octets has been sent, from an express queue or not. -/
def txStats (s : State) (n : Nat) (express : Bool) (cast len : Nat) : State :=
  (((((s.macStat n 32 len).macStat n 33 1).macStat n (34 + cast) 1).macStat n (39 + lenBin len) 1).macStat n 48 (b2n express)).traffic n 0 len

/-! ## MACsec -/

/-- R386, R390: MACsec runs on the port. -/
def msOn (s : State) (n : Nat) : Bool := 32 ≤ n && n < 37 && s.flag (R.MACn_MS_CTRL n) 0

/-- The EtherType at offset 12. -/
def etype (l : Bytes) : Nat := beAt l 12 2

/-- The EtherType and the payload behind one 802.1Q tag, where there is one. -/
def inner (l : Bytes) : Nat × Bytes := if etype l = 0x8100 then (beAt l 16 2, l.drop 18) else (etype l, l.drop 14)

/-- The destination and source address, the UDP source and destination port and the payload of an IPv4 datagram. -/
def udpOf (l : Bytes) : Option (Nat × Nat × Nat × Bytes) :=
  let (t, p) := inner l
  let ihl := 4 * (beAt p 0 1 % 16)
  if t = 0x0800 ∧ beAt p 0 1 / 16 = 4 ∧ beAt p 9 1 = 17 ∧ 20 ≤ ihl then
    some (beAt p 16 4, beAt p 12 4, beAt p (ihl + 2) 2, (p.drop (ihl + 8)).take (beAt p (ihl + 4) 2 - 8))
  else none

/-- R387: PTP frames. -/
def isPtp (l : Bytes) : Bool := (inner l).1 == 0x88F7 || (match udpOf l with
  | some (_, _, p, _) => p == 319 || p == 320
  | none => false)

/-- R387, R388: frames that pass MACsec untouched. -/
def msBypass (s : State) (n : Nat) (l : Bytes) : Bool :=
  etype l == 0x888E || (isPtp l && s.flag (R.MACn_MS_CTRL n) 7)

/-- The SA whose PN or key has failed: MS_OUT_DISCARD. -/
def msDiscard (s : State) (n : Nat) : Option Bytes × State := (none, s.macStat n 62 1)

/-- R387: a frame as MACsec sends it, or none where it is not sent. -/
def msOut (s : State) (n : Nat) (l : Bytes) : Option Bytes × State :=
  if !s.msOn n then (some l, s)
  else if s.msBypass n l then (some l, s.macStat n 61 1)
  else if !s.flag (R.MACn_MS_CTRL n) 1 then (some l, s)
  else
    let a := s.field (R.MACn_MS_CTRL n) 9 8
    if !s.flag (R.MACn_TXSAa_CTRL n a) 0 then s.msDiscard n
    else if (s.macOf n).spent.contains a then
      ((s.raise (R.MACn_TXSAa_CTRL n a) 31).raise (R.MACn_STATUS n) 12).msDiscard n
    else
      let (k, s) := s.askKey (s.field (R.MACn_TXSAa_CTRL n a) 13 8) (n - 29)
      match k with
      | none => s.msDiscard n
      | some k =>
        let pn := atLeast1 (s.reg (R.MACn_TXSAa_NEXT_PN n a)).toNat
        let conf := s.flag (R.MACn_MS_CTRL n) 2
        let sci := beBytes 4 (s.reg (R.MACn_MS_SCI_HI n)).toNat ++ beBytes 4 (s.reg (R.MACn_MS_SCI_LO n)).toNat
        let inc := s.flag (R.MACn_MS_CTRL n) 3
        let data := l.drop 12
        let tag := beBytes 2 0x88E5 ++ beBytes 1 (32 * b2n inc + 12 * b2n conf + a)
          ++ beBytes 1 (if data.length < 48 then data.length else 0) ++ beBytes 4 pn ++ (if inc then sci else [])
        let iv := sci ++ beBytes 4 pn
        let out := if conf then l.take 12 ++ tag ++ Config.gcmSeal k iv (l.take 12 ++ tag) data
          else l.take 12 ++ tag ++ data ++ Config.gcmSeal k iv (l.take 12 ++ tag ++ data) []
        let s := s.setReg (R.MACn_TXSAa_NEXT_PN n a) (w32 (pn + 1))
        let s := if pn = 2 ^ 32 - 1 then s.setMac n { s.macOf n with spent := a :: (s.macOf n).spent } else s
        let s := s.raiseIf (pn + 1 == (s.reg (R.MACn_MS_PN_THRESH n)).toNat) (R.MACn_STATUS n) 11
        (some out, s.macStat n (if conf then 60 else 59) 1)

/-- The fields of a SecTAG: E and C, the AN, the short length, the PN, the SCI where it is there, the bytes behind it. -/
structure SecTag where
  conf : Bool
  an : Nat
  sl : Nat
  pn : Nat
  sci : Option Bytes
  tag : Bytes
  rest : Bytes
deriving DecidableEq, Repr

/-- A well-formed SecTAG of a frame of EtherType 0x88E5. -/
def secTag (l : Bytes) : Option SecTag :=
  let tci := beAt l 14 1
  let sl := beAt l 15 1
  let sc := tci / 32 % 2 == 1
  let n := if sc then 16 else 8
  let conf := tci / 4 % 4 == 3
  let rest := l.drop (12 + n)
  let size := if sl = 0 then rest.length - 16 else sl
  if 128 ≤ tci ∨ (tci / 4 % 4 ≠ 0 ∧ tci / 4 % 4 ≠ 3) ∨ (sc = true ∧ (tci / 16 % 2 = 1 ∨ tci / 64 % 2 = 1)) ∨ 48 ≤ sl
    ∨ beAt l 16 4 = 0 ∨ rest.length < size + 16 ∨ size = 0 then none
  else some { conf := conf, an := tci % 4, sl := sl, pn := beAt l 16 4, sci := if sc then some (slice l 20 8) else none
              tag := slice l 12 n, rest := rest.take (size + 16) }

/-- R388: the receive SC of a tag: by its SCI, or the one SC that is enabled; with the SCI. -/
def msSc (s : State) (n : Nat) (t : SecTag) : Option (Nat × Bytes) :=
  let en := (List.range 8).filter (fun c => s.flag (R.MACn_RXSCc_CTRL n c) 0)
  let sciOf (c : Nat) : Bytes := beBytes 4 (s.reg (R.MACn_RXSCc_SCI_HI n c)).toNat ++ beBytes 4 (s.reg (R.MACn_RXSCc_SCI_LO n c)).toNat
  match t.sci with
  | some x => (en.find? (fun c => sciOf c == x)).map (fun c => (c, x))
  | none => match en with
    | [c] => some (c, sciOf c)
    | _ => none

/-- A received frame counted in counter k and discarded with MS_RX_ERR. -/
def msRefuse (s : State) (n k : Nat) : Option Bytes × State := (none, (s.macStat n k 1).raise (R.MACn_STATUS n) 10)

/-- R388: a received frame as MACsec delivers it, or none where it discards it. Under VALIDATE 0 a tagged frame is delivered
whatever its integrity check gives (IEEE 802.1AE, log entry 13). -/
def msIn (s : State) (n : Nat) (l : Bytes) : Option Bytes × State :=
  let val := min 2 (s.field (R.MACn_MS_CTRL n) 5 4)
  if !s.msOn n || s.msBypass n l then (some l, s)
  else if etype l ≠ 0x88E5 then (if val = 2 then s.msRefuse n 52 else (some l, s.macStat n 52 1))
  else match secTag l with
    | none => s.msRefuse n 53
    | some t => match s.msSc n t with
      | none => s.msRefuse n 54
      | some (c, sci) =>
        if !s.flag (R.MACn_RXSCc_SAa_CTRL n c t.an) 0 then s.msRefuse n 54
        else
          let np := R.MACn_RXSCc_SAa_NEXT_PN n c t.an
          let next := atLeast1 (s.reg np).toNat
          if s.flag (R.MACn_MS_CTRL n) 6 && decide (t.pn < next - (s.reg (R.MACn_MS_REPLAY_WIN n)).toNat) then s.msRefuse n 56
          else
            let (k, s) := s.askKey (s.field (R.MACn_RXSCc_SAa_CTRL n c t.an) 13 8) (n - 29)
            match k with
            | none => s.msRefuse n 54
            | some k =>
              let iv := sci ++ beBytes 4 t.pn
              let body := t.rest.take (t.rest.length - 16)
              let open_ := if t.conf then Config.gcmOpen k iv (l.take 12 ++ t.tag) t.rest
                else (Config.gcmOpen k iv (l.take 12 ++ t.tag ++ body) (t.rest.drop (t.rest.length - 16))).map (fun _ => body)
              match open_ with
              | some d =>
                let s := if next ≤ t.pn then s.setReg np (w32 (min (t.pn + 1) (2 ^ 32 - 1))) else s
                (some (l.take 12 ++ d), s.macStat n 58 1)
              | none =>
                if val = 2 then s.msRefuse n 55
                else (some (l.take 12 ++ body), if val = 1 then s.macStat n 57 1 else s)

/-- R389: a write of an SA control register: VALID needs a key that is issued to the MACsec engine of the port. -/
def saWrite (s : State) (n a : Nat) (v : Word) : State :=
  let ok := s.issued (fld v 13 8) (n - 29)
  let s := s.setReg a (w32 (fld v 13 8 * 256 + b2n (bit v 0 && ok)))
  s.raiseIf (bit v 0 && !ok) (R.MACn_STATUS n) 14

/-- R389: a transmit SA; its EXHAUSTED bit and a spent PN end with the write (DEDUCED, log entry 13). -/
def txSaWrite (s : State) (n an : Nat) (v : Word) : State :=
  (s.setMac n { s.macOf n with spent := (s.macOf n).spent.filter (· != an) }).saWrite n (R.MACn_TXSAa_CTRL n an) v

def rxSaWrite (s : State) (n c an : Nat) (v : Word) : State := s.saWrite n (R.MACn_RXSCc_SAa_CTRL n c an) v

/-- A write of a transmit SA's NEXT_PN. -/
def txPnWrite (s : State) (n an : Nat) (v : Word) : State :=
  ((s.setMac n { s.macOf n with spent := (s.macOf n).spent.filter (· != an) }).lower (R.MACn_TXSAa_CTRL n an) 31).setReg
    (R.MACn_TXSAa_NEXT_PN n an) v

/-- The SA control registers of a port. -/
def saRegs (n : Nat) : List Nat :=
  (List.range 4).map (R.MACn_TXSAa_CTRL n) ++ (List.range 8).flatMap (fun c => (List.range 4).map (R.MACn_RXSCc_SAa_CTRL n c))

/-- R491: whether a MACsec SA with VALID = 1 names a slot. -/
def saNames (s : State) (slot : Nat) : Bool :=
  (List.range 5).any (fun i => (saRegs (32 + i)).any (fun a => s.flag a 0 && s.field a 13 8 == slot))

/-- R389: tamper has erased a slot: every SA that names it reads VALID 0. -/
def saKeyLost (s : State) (slot : Nat) : State :=
  (List.range 5).foldl (fun s i =>
    let hit := (saRegs (32 + i)).filter (fun a => s.flag a 0 && s.field a 13 8 == slot)
    let s := hit.foldl (fun s a => s.lower a 0) s
    s.raiseIf (!hit.isEmpty) (R.MACn_STATUS (32 + i)) 13) s

end State

end Sys2Proof.Machine
end

