-- ==== Sys2Proof/Machine/Ingest.lean ====
section
/-! DEFINITION. Canvas ingest (04): receivers, path merge, the epoch of a frame, placement, commit and substitution, audio lag and
envelope (R103–R122). -/

namespace Sys2Proof.Machine

namespace State

/-! ## Canvas geometry (R111, R115) -/

/-- N: ring frames; 0 and 1 act as 2, 9–15 as 8. -/
def canvN (s : State) : Nat := clampNat 2 8 (s.field R.CANVAS_CTRL 7 4)

/-- R119: D, clamped to 1 to N − 1. -/
def canvD (s : State) : Nat := clampNat 1 (s.canvN - 1) (s.field R.CANVAS_CTRL 11 8)

/-- NCOMP: the components stored. -/
def canvComps (s : State) : Nat := s.field R.CANVAS_CTRL 1 0 + 1

/-- R111: PIXB. -/
def pixBytes (s : State) : Nat := match s.canvComps with
  | 1 => 2
  | 2 => 4
  | _ => 8

/-- R115: a side of the canvas or of a stream: 0 acts as 1, above 16,384 as 16,384. -/
def side (v : Nat) : Nat := clampNat 1 16384 v

/-- R115: W and H of CANVAS_SIZE. -/
def canvW (s : State) : Nat := side (s.field R.CANVAS_SIZE 14 0)
def canvH (s : State) : Nat := side (s.field R.CANVAS_SIZE 30 16)

/-- R115: the area limit. -/
def areaLimit (s : State) : Nat := if s.time.den ≤ 120 * s.time.num then 2 ^ 24 else 2 ^ 23

/-- R115: W × H exceeds the limit. -/
def oversize (s : State) : Bool := decide (s.areaLimit < s.canvW * s.canvH)

/-- R115: the canvas height for the raster and the previews. -/
def rasterH (s : State) : Nat := if s.oversize then s.areaLimit / s.canvW else s.canvH

/-- R111: the DRAM address of component c of pixel (x, y) in slot k. -/
def canvAddr (s : State) (k x y c : Nat) : Nat :=
  (s.reg R.CANVAS_BASE_HI).toNat % 4 * 2 ^ 32 + s.field R.CANVAS_BASE_LO 31 16 * 65536
    + k * (s.field R.CANVAS_SLOT_STRIDE 15 0 * 65536) + y * (s.field R.CANVAS_LINE_STRIDE 9 0 * 256) + x * s.pixBytes + 2 * c

/-- CANVAS_FILL, component c. -/
def canvFill (s : State) (c : Nat) : Nat :=
  match c with
  | 0 => s.field R.CANVAS_FILL01 15 0
  | 1 => s.field R.CANVAS_FILL01 31 16
  | 2 => s.field R.CANVAS_FILL23 15 0
  | _ => s.field R.CANVAS_FILL23 31 16

/-- R116: the geometry that group 1 must meet, read from a register function. -/
def canvasGeomOk (get : Nat → Word) : Bool :=
  let w := side (fld (get R.CANVAS_SIZE) 14 0)
  let h := side (fld (get R.CANVAS_SIZE) 30 16)
  let n := clampNat 2 8 (fld (get R.CANVAS_CTRL) 7 4)
  let pixb := match fld (get R.CANVAS_CTRL) 1 0 with
    | 0 => 2
    | 1 => 4
    | _ => 8
  let line := fld (get R.CANVAS_LINE_STRIDE) 9 0 * 256
  let slot := fld (get R.CANVAS_SLOT_STRIDE) 15 0 * 65536
  let base := (get R.CANVAS_BASE_HI).toNat % 4 * 2 ^ 32 + fld (get R.CANVAS_BASE_LO) 31 16 * 65536
  decide (w * pixb ≤ line) && decide (line * h ≤ slot) && decide (base + n * slot ≤ fwBase)

/-! ## Receivers -/

def rxOf (s : State) (n : Nat) : Receiver := Sparse.get {} s.ingest.rx n
def setRx (s : State) (n : Nat) (x : Receiver) : State :=
  { s with ingest := { s.ingest with rx := Sparse.put {} s.ingest.rx n x } }

/-- SAMPLING; 4–7 act as EN = 0. -/
def rxSampling (s : State) (n : Nat) : Nat := s.field (R.INGn_V_CTRL n) 6 4

/-- A receiver receives video. -/
def rxOn (s : State) (n : Nat) : Bool := decide (n < 8) && s.flag (R.INGn_V_CTRL n) 0 && decide (s.rxSampling n < 4)

/-- DEPTH in bits. -/
def rxDepth (s : State) (n : Nat) : Nat := match s.field (R.INGn_V_CTRL n) 9 8 with
  | 0 => 8
  | 1 => 10
  | 2 => 12
  | _ => 16

/-- R109: LAG, clamped to N − 1 − D. -/
def rxLag (s : State) (n : Nat) : Nat := min (s.field (R.INGn_V_CTRL n) 17 16) (s.canvN - 1 - s.canvD)

/-- RATE_DIV: 1, 2 or 4. -/
def rxRateDiv (s : State) (n : Nat) : Nat := match s.field (R.INGn_V_CTRL n) 21 20 with
  | 0 => 1
  | 1 => 2
  | _ => 4

/-- The stream's width and height. -/
def rxW (s : State) (n : Nat) : Nat := side (s.field (R.INGn_V_SIZE n) 14 0)
def rxH (s : State) (n : Nat) : Nat := side (s.field (R.INGn_V_SIZE n) 30 16)

/-- R113: the crop: origin and size. -/
def cropX (s : State) (n : Nat) : Nat :=
  let x := s.field (R.INGn_V_CROP_XY n) 14 0
  if s.rxSampling n = 0 then x / 2 * 2 else x
def cropY (s : State) (n : Nat) : Nat := s.field (R.INGn_V_CROP_XY n) 30 16
def cropW (s : State) (n : Nat) : Nat :=
  let w := s.field (R.INGn_V_CROP_WH n) 14 0
  let room := s.rxW n - s.cropX n
  if w = 0 then room else min w room
def cropH (s : State) (n : Nat) : Nat :=
  let h := s.field (R.INGn_V_CROP_WH n) 30 16
  let room := s.rxH n - s.cropY n
  if h = 0 then room else min h room
def dstX (s : State) (n : Nat) : Nat := s.field (R.INGn_V_DST n) 14 0
def dstY (s : State) (n : Nat) : Nat := s.field (R.INGn_V_DST n) 30 16

/-- R113: the placement runs past the canvas. -/
def placeClips (s : State) (n : Nat) : Bool :=
  decide (s.canvW < s.dstX n + s.cropW n) || decide (s.canvH < s.dstY n + s.cropH n)

/-- R114: the placement of receiver n covers canvas pixel (x, y). -/
def placeCovers (s : State) (n x y : Nat) : Bool :=
  s.rxOn n && decide (s.dstX n ≤ x) && decide (x < s.dstX n + s.cropW n) && decide (s.dstY n ≤ y) && decide (y < s.dstY n + s.cropH n)

/-- R114: the kind of a placement: key or colour. -/
def rxIsKey (s : State) (n : Nat) : Bool := s.rxSampling n == 3

/-- R114: precedence within a kind, as one number: LAYER, then the receiver number. -/
def rxRank (s : State) (n : Nat) : Nat := s.field (R.INGn_V_CTRL n) 26 24 * 8 + n

/-- R114: the receiver whose placement of a kind is on top at (x, y). -/
def topPlace (s : State) (key : Bool) (x y : Nat) : Option Nat :=
  (List.range 8).foldl (fun best n =>
    if s.rxIsKey n == key && s.placeCovers n x y then
      match best with
      | none => some n
      | some b => if s.rxRank b < s.rxRank n then some n else some b
    else best) none

/-- CANVAS_SRCs: the source entry of receiver r in slot k; 8 is none. -/
def srcEntry (s : State) (k r : Nat) : Nat := s.field (R.CANVAS_SRCs k) (4 * r + 3) (4 * r)

/-- The slot of an epoch's frame. -/
def slotOf (s : State) (e : Epoch) : Nat := e.toNat % s.canvN

/-- R114, R124: the slot from which component c of canvas pixel (x, y) of the frame of epoch e is read: the source entry of the top
placement of its kind; none where the fill value stands: outside the canvas, uncovered, or with no frame committed. -/
def canvSlot (s : State) (e : Epoch) (h x y c : Nat) : Option Nat :=
  if s.canvW ≤ x ∨ h ≤ y then none
  else match s.topPlace (c == 3) x y with
    | none => none
    | some r =>
      let k := s.srcEntry (s.slotOf e) r
      if 8 ≤ k then none else some k

/-- R114, R124: component c of canvas pixel (x, y) of the frame of epoch e. -/
def canvComp (s : State) (e : Epoch) (h x y c : Nat) : Nat := match s.canvSlot e h x y c with
  | none => s.canvFill c
  | some k => s.rdLE (s.canvAddr k x y c) 2

/-- R128, R176: the same for a reader that may ask for a component at or beyond NCOMP: where it would come from DRAM, which holds none,
it is a free value (log entry 12). -/
def canvAny (s : State) (e : Epoch) (x y c : Nat) : Nat × State :=
  if s.canvComps ≤ c ∧ (s.canvSlot e s.rasterH x y c).isSome then let (v, s) := s.fresh; (v % 65536, s)
  else (s.canvComp e s.rasterH x y c, s)

/-- All NCOMP components of a canvas pixel, for the raster and the previews. -/
def canvPixel (s : State) (e : Epoch) (x y : Nat) : List Nat :=
  (List.range s.canvComps).map (fun c => s.canvComp e s.rasterH x y c)

/-! ## Matching (R104, R105) -/

/-- R448: brace is enabled. -/
def braceOn (s : State) : Bool := s.flag R.BRACE_CTRL 0

/-- R105: ports 30 and 31 while brace is enabled. -/
def bracePort (s : State) (p : Nat) : Bool := s.braceOn && (p == 30 || p == 31)

/-- A receiver's registers for one stream: control, port, addresses and UDP. -/
def streamBase (n : Nat) (audio : Bool) : Nat := if audio then R.INGn_A_CTRL n else R.INGn_V_CTRL n
def streamPort (s : State) (n : Nat) (audio pathB : Bool) : Nat :=
  let p := s.reg (streamBase n audio + 4)
  if pathB then fld p 21 16 else fld p 5 0
def streamMerge (s : State) (n : Nat) (audio : Bool) : Bool := s.flag (streamBase n audio) 1

/-- R104: the path a packet of this port comes by: none, A (false) or B (true). -/
def streamPath (s : State) (n : Nat) (audio : Bool) (port : Nat) : Option Bool :=
  if 36 ≤ port then none
  else if port = s.streamPort n audio false then some false
  else if s.streamMerge n audio && port == s.streamPort n audio true then some true
  else none

/-- The addresses, the UDP port and, with PT_CHECK, the payload type agree. -/
def streamHears (s : State) (n : Nat) (audio : Bool) (h : RtpHdr) : Bool :=
  let b := streamBase n audio
  let udp := s.reg (b + 0x10)
  h.dstIp == s.reg (b + 8) && (s.reg (b + 0xC) == 0 || h.srcIp == s.reg (b + 0xC)) && h.udp == fld udp 15 0
    && (!bit udp 23 || h.payloadType == fld udp 22 16)

/-! ## Video (R106–R114) -/

/-- R112: a sample of d bits expanded to 16 bits by bit replication. -/
def expand16 (d v : Nat) : Nat :=
  match d with
  | 8 => v * 256 + v
  | 10 => v * 64 + v / 16
  | 12 => v * 16 + v / 256
  | _ => v

/-- The i-th sample of d bits of a big-endian bit string. -/
def sampleAt (l : Bytes) (d i : Nat) : Nat :=
  let b := i * d
  let first := b / 8
  let last := (b + d - 1) / 8
  let v := beNat ((l.drop first).take (last + 1 - first))
  v / 2 ^ ((last + 1) * 8 - (b + d)) % 2 ^ d

/-- Whole pixels in a segment of this many bytes. -/
def srdPixels (s : State) (n len : Nat) : Nat :=
  let bits := len * 8
  let d := s.rxDepth n
  match s.rxSampling n with
  | 0 => bits / (4 * d) * 2
  | 3 => bits / d
  | _ => bits / (3 * d)

/-- R106: the packet is malformed. -/
def videoBad (s : State) (n : Nat) (l : List Srd) : Bool :=
  l.any (fun d => d.length == 0 || decide (d.data.length < d.length) || decide (s.rxH n ≤ d.row)
    || decide (s.rxW n < d.offset + s.srdPixels n d.length))

/-- R107: the expected timestamp of grid instant k. -/
def expectedTs (s : State) (n k : Nat) : Word :=
  BitVec.ofNat 32 (k * s.time.num * 90000 / s.time.den) + s.reg (R.INGn_V_RTP_OFFSET n)

/-- The distance of two timestamps, modulo 2³². -/
def tsDist (a b : Word) : Nat := min (a - b).toNat (b - a).toNat

/-- R107, R108: the grid instant a timestamp belongs to: of the instants within TS_TOL, the one whose expected timestamp is
nearest; the search is around the media time nearest to local time now (log entry 11). -/
def matchInstant (s : State) (n : Nat) (ts : Word) : Option Nat :=
  let tol := s.field (R.INGn_V_TS_TOL n) 7 0
  let now := s.lt * 90000 / uSec
  let ticks := ts32Extend now (ts - s.reg (R.INGn_V_RTP_OFFSET n))
  let k0 := (ticks * s.time.den / (s.time.num * 90000)).toNat
  let cands := (List.range 5).map (fun i => k0 + i - 2)
  let best := cands.foldl (fun b k =>
    let d := tsDist ts (s.expectedTs n k)
    if tol < d then b
    else match b with
      | none => some (k, d)
      | some (k', d') => if d < d' then some (k, d) else some (k', d')) none
  match best with
  | some (k, _) => if k % s.rxRateDiv n = 0 then some k else none
  | none => none

/-- R107: the ingest epoch of instant k. -/
def ingestEpoch (s : State) (n k : Nat) : Epoch := BitVec.ofNat 32 k + s.time.adj + BitVec.ofNat 32 (s.rxLag n)

/-- R130: preview n's link is trained. -/
def trainedOf (s : State) (n : Nat) : Bool := Sparse.get false s.ingest.trained n

/-- R123, R129: the raster, or a preview output that is on, will fetch the frame of epoch f in epoch f + D. -/
def willFetch (s : State) (f : Epoch) : Bool :=
  s.flag R.RASTER_CTRL 0 || [0, 1].any (fun n => s.flag (R.PVn_CTRL n) 0 && s.trainedOf n
    && (!s.flag (R.PVn_CTRL n) 16 || (f.toNat + s.canvD) % 2 == 0))

/-- R118: the receiver's slot for epoch e is the source entry of a frame that the raster or a preview has still to fetch, in an epoch
to come, or is fetching. -/
def slotHeld (s : State) (n : Nat) (e : Epoch) : Bool :=
  let held (f : Epoch) : Bool := s.srcEntry (s.slotOf f) n == s.slotOf e
  (List.range (s.canvD - 1)).any (fun i => let f := s.time.epoch - BitVec.ofNat 32 (i + 1); s.willFetch f && held f)
    || (s.ingest.raster :: s.ingest.preview.map (·.2)).any (fun x => x.run && !x.done && held x.frame)

/-- One component of one stream pixel put into slot k of the canvas, where the receiver's placement is on top (R113, R114). -/
def putComp (s : State) (n k px py c v : Nat) : State :=
  let cx := s.cropX n
  let cy := s.cropY n
  if px < cx ∨ py < cy ∨ cx + s.cropW n ≤ px ∨ cy + s.cropH n ≤ py ∨ s.canvComps ≤ c then s
  else
    let x := s.dstX n + px - cx
    let y := s.dstY n + py - cy
    if s.canvW ≤ x ∨ s.canvH ≤ y then s
    else if s.topPlace (s.rxIsKey n) x y = some n then s.wrLE (s.canvAddr k x y c) 2 v
    else s

/-- The key under which the chroma of an even pixel waits for its right neighbour. -/
def chromaKey (k x y : Nat) : Nat := (k * 16384 + y) * 16384 + x

/-- R112: the chroma of the odd pixel right of even pixel x, once both its neighbours are known or it has no right one. -/
def oddChroma (s : State) (n k x y : Nat) : State :=
  let ch := (s.rxOf n).chroma
  match ch.find? (fun e => e.1 == chromaKey k x y) with
  | none => s
  | some (_, (cb, cr)) =>
    if s.rxW n ≤ x + 1 then s
    else if s.rxW n ≤ x + 2 then (s.putComp n k (x + 1) y 1 cb).putComp n k (x + 1) y 2 cr
    else match ch.find? (fun e => e.1 == chromaKey k (x + 2) y) with
      | none => s
      | some (_, (cb2, cr2)) =>
        (s.putComp n k (x + 1) y 1 ((cb + cb2 + 1) / 2)).putComp n k (x + 1) y 2 ((cr + cr2 + 1) / 2)

/-- One pixel of a 4:2:2 pair stored: Y, and for the even pixel Cb and Cr, with the odd neighbours they complete. -/
def put422 (s : State) (n k x y cb y0 cr y1 : Nat) : State :=
  let s := s.putComp n k x y 0 y0
  let s := s.putComp n k (x + 1) y 0 y1
  let s := (s.putComp n k x y 1 cb).putComp n k x y 2 cr
  let r := s.rxOf n
  let s := s.setRx n { r with chroma := (chromaKey k x y, (cb, cr)) :: r.chroma.filter (fun e => e.1 != chromaKey k x y) }
  let s := s.oddChroma n k x y
  if 2 ≤ x then s.oddChroma n k (x - 2) y else s

/-- R112: the pixels of one segment, expanded and filled into slot k. -/
def putSrd (s : State) (n k : Nat) (d : Srd) : State :=
  let bits := s.rxDepth n
  let smp (i : Nat) : Nat := expand16 bits (sampleAt d.data bits i)
  let pixels := s.srdPixels n d.length
  match s.rxSampling n with
  | 0 => (List.range (pixels / 2)).foldl (fun s i =>
      s.put422 n k (d.offset + 2 * i) d.row (smp (4 * i)) (smp (4 * i + 1)) (smp (4 * i + 2)) (smp (4 * i + 3))) s
  | 3 => (List.range pixels).foldl (fun s i => s.putComp n k (d.offset + i) d.row 3 (smp i)) s
  | 1 => (List.range pixels).foldl (fun s i =>
      ((s.putComp n k (d.offset + i) d.row 1 (smp (3 * i))).putComp n k (d.offset + i) d.row 0 (smp (3 * i + 1))).putComp
        n k (d.offset + i) d.row 2 (smp (3 * i + 2))) s
  | _ => (List.range pixels).foldl (fun s i =>
      ((s.putComp n k (d.offset + i) d.row 0 (smp (3 * i))).putComp n k (d.offset + i) d.row 1 (smp (3 * i + 1))).putComp
        n k (d.offset + i) d.row 2 (smp (3 * i + 2))) s

/-- Sequence number p is q, or later by less than half of their range. -/
def seqFrom (q p : Nat) : Bool := decide ((p + 2 ^ 32 - q) % 2 ^ 32 < 2 ^ 31)

/-- A marker put in its place among those met, highest sequence number first; one met again keeps the epoch it was accepted for. -/
def putMarker (m : Marker) : List Marker → List Marker
  | [] => [m]
  | x :: t =>
    if x.seq = m.seq then { m with epoch := m.epoch.or x.epoch } :: t
    else if seqFrom x.seq m.seq then m :: x :: t
    else x :: putMarker m t

/-- The sender has started anew at lower sequence numbers: a marker accepted for epoch e stands, by its number, before one that x shows
to be older: accepted for an epoch before e, or met more than 8 epochs ago (DESIGN CHOICE, log entry 11). -/
def outdates (now e : Epoch) (q : Nat) (x : Marker) : Bool :=
  x.seq != q && seqFrom q x.seq && (match x.epoch with
    | some f => later e f
    | none => later now (x.met + 8))

/-- The marker of a frame is remembered with the epoch it closes (none: the frame is not written), R110. After a sender's new start what
lies ahead of it by number is forgotten. -/
def noteMarker (s : State) (n : Nat) (marker : Bool) (seq : Word) (e : Option Epoch) : State :=
  let r := s.rxOf n
  let q := seq.toNat
  let now := s.time.epoch
  if !marker then s
  else
    let anew := e.any (fun e => r.markers.any (outdates now e q))
    let r := if anew then { r with markers := r.markers.filter (fun x => !seqFrom q x.seq), seen := r.seen.filter (fun p => p == q || !seqFrom q p) }
      else r
    s.setRx n { r with markers := (putMarker { seq := q, epoch := e, met := now } r.markers).take 8 }

/-- The unmatched frames whose packets may come mixed, each counted once (DESIGN CHOICE, log entry 11). -/
def missDepth : Nat := 16

/-- R107–R114, R118: a packet that is neither malformed nor a duplicate. A packet that is discarded here is not accepted: a later copy of it
is judged anew and counts no DUP (DESIGN CHOICE, log entry 11). -/
def videoAccepted (s : State) (n : Nat) (pathB : Bool) (seq ts : Word) (marker : Bool) (l : List Srd) : State :=
  match s.matchInstant n ts with
  | none =>
    let s := s.noteMarker n marker seq none
    let r := s.rxOf n
    if r.missTs.contains ts then s
    else ((s.setRx n { r with missTs := (ts :: r.missTs).take missDepth }).bump (R.INGn_V_TSMISS_CNT n)).raise (R.INGn_STATUS n) 4
  | some k =>
    let e := s.ingestEpoch n k
    let now := s.time.epoch
    if later (e - BitVec.ofNat 32 (s.rxLag n)) now then (s.noteMarker n marker seq none).bump (R.INGn_V_EARLY_CNT n)
    else if later now e then (s.noteMarker n marker seq none).bump (R.INGn_V_LATE_CNT n)
    else if s.slotHeld n e then (s.noteMarker n marker seq none).raise R.INGEST_STATUS 2
    else
      let s := s.noteMarker n marker seq (some e)
      let r := s.rxOf n
      let s := s.setRx n { r with seen := seq.toNat :: r.seen }
      let s := s.bump (if pathB then R.INGn_V_PATHB_CNT n else R.INGn_V_PATHA_CNT n)
      let s := s.raiseIf (s.placeClips n) (R.INGn_STATUS n) 8
      l.foldl (fun s d => s.putSrd n (s.slotOf e) d) s

/-- R104: one path of a receiver's stream is in use. -/
def pathUsed (s : State) (n : Nat) (audio pathB : Bool) : Bool :=
  (if audio then decide (n < 8) && s.flag (R.INGn_A_CTRL n) 0 else s.rxOn n)
    && decide (s.streamPort n audio pathB < 36) && (!pathB || s.streamMerge n audio)

/-- R104: the path is heard now. -/
def hearPath (s : State) (n : Nat) (audio pathB : Bool) : State :=
  let r := s.rxOf n
  s.setRx n { r with heardAt := let k := 2 * b2n audio + b2n pathB; Sparse.insertAt (Sparse.erase r.heardAt k) k s.time.frc }

/-- A packet of an ST 2110-20 stream reaches receiver n (R104–R107). -/
def videoPacket (s : State) (n : Nat) (h : RtpHdr) (seq ts : Word) (marker : Bool) (l : List Srd) : State :=
  if !s.rxOn n || !s.rxReady h.port then s
  else match s.streamPath n false h.port with
    | none => s
    | some pathB =>
      if s.bracePort h.port then s.raise (R.INGn_STATUS n) 7
      else if !s.streamHears n false h then s
      else
        let s := s.hearPath n false pathB
        if s.videoBad n l then (s.bump (R.INGn_V_MALFORMED_CNT n)).raise (R.INGn_STATUS n) 5
        else if s.streamMerge n false && (s.rxOf n).seen.contains seq.toNat then s.bump (R.INGn_V_DUP_CNT n)
        else s.videoAccepted n pathB seq ts marker l

/-! ## Commit (R108, R110, R117) -/

/-- R110: all sequence numbers from the one after p up to q have been accepted. -/
def allSeen (seen : List Nat) (p : Nat) : Nat → Bool
  | 0 => true
  | k + 1 => seen.contains ((p + k + 1) % 2 ^ 32) && allSeen seen p k

/-- The marker that closed the frame of epoch e, with the one before it. -/
def framePair : List Marker → Epoch → Option (Nat × Nat)
  | m :: p :: t, e => if m.epoch = some e then some (p.seq, m.seq) else framePair (p :: t) e
  | _, _ => none

/-- R110: the receiver's frame of epoch e is complete. -/
def frameWhole (r : Receiver) (e : Epoch) : Bool :=
  match framePair r.markers e with
  | some (p, q) =>
    let len := (q + 2 ^ 32 - p) % 2 ^ 32
    decide (len ≤ r.seen.length) && allSeen r.seen p len
  | none => false

/-- R108: an epoch for which the receiver expects no frame. -/
def rxExempt (s : State) (n : Nat) (e : Epoch) : Bool :=
  (e - s.time.adj - BitVec.ofNat 32 (s.rxLag n)).toNat % s.rxRateDiv n != 0

/-- Source entry r of slot k. -/
def setSrcEntry (s : State) (k r v : Nat) : State := s.setField (R.CANVAS_SRCs k) (4 * r + 3) (4 * r) v

/-- What a receiver keeps after the frame of epoch e was judged: the sequence numbers from its last markers onwards. -/
def pruneRx (s : State) (n : Nat) (e : Epoch) : State :=
  let r := s.rxOf n
  let ms := r.markers.take 4
  let old := match ms.getLast? with
    | some m => m.seq
    | none => 0
  let k := s.slotOf e
  s.setRx n { r with
    markers := ms
    seen := if ms.isEmpty then r.seen else r.seen.filter (seqFrom old)
    chroma := r.chroma.filter (fun c => c.1 / (16384 * 16384) != k) }

/-- R117: the source entry of receiver n for the frame of the epoch just ended. -/
def commitRx (e : Epoch) (s : State) (n : Nat) : State :=
  let k := s.slotOf e
  if !s.rxOn n then
    s.setRx n { s.rxOf n with seen := [], markers := [], chroma := [], missTs := [] }
  else if frameWhole (s.rxOf n) e then
    ((((s.setSrcEntry k n k).bump (R.INGn_V_FRAMES n)).setReg (R.INGn_V_LAST_EPOCH n) e)).pruneRx n e
  else
    let s := s.setSrcEntry k n (s.srcEntry (s.slotOf (e - 1)) n)
    let s := if s.rxExempt n e then s else (s.bump (R.INGn_V_INCOMPLETE_CNT n)).raise (R.INGn_STATUS n) 0
    s.pruneRx n e

/-- R114: a receiver that an application of group 1 enables has committed no frame yet: its source entries are none. -/
def rxEnable (old : State) (s : State) (n : Nat) : State :=
  if old.rxOn n || !s.rxOn n then s
  else ((List.range 8).foldl (fun s k => s.setSrcEntry k n 8) s).setRx n
    { s.rxOf n with seen := [], markers := [], chroma := [], missTs := [] }

/-- R104, R120: silence is counted from the application of group 1 that takes a path, or audio, into use. -/
def hearFrom (old : State) (s : State) (n : Nat) : State :=
  let s := [false, true].foldl (fun s audio => [false, true].foldl (fun s pathB =>
    if s.pathUsed n audio pathB && !old.pathUsed n audio pathB then s.hearPath n audio pathB else s) s) s
  if s.flag (R.INGn_A_CTRL n) 0 && !old.flag (R.INGn_A_CTRL n) 0 then s.setRx n { s.rxOf n with aAt := s.time.frc, aSeen := [], aHigh := none } else s

/-- What an application of group 1 starts. -/
def ingestEnable (old s : State) : State := (List.range 8).foldl (fun s n => hearFrom old (rxEnable old s n) n) s

/-- Step 4 of R22: the commit of the epoch just ended, e (R117), and the envelopes of R121. -/
def ingestCommit (s : State) (e : Epoch) : State :=
  let s := (List.range 8).foldl (commitRx e) s
  let s := (List.range 8).foldl (fun s n => s.setReg (R.INGn_A_ENV n) (w32 ((s.rxOf n).env / 128))) s
  s.setReg R.INGEST_COMMIT_EPOCH e

/-! ## Audio (R104, R106, R120, R121) -/

def audOn (s : State) (n : Nat) : Bool := decide (n < 8) && s.flag (R.INGn_A_CTRL n) 0
def audChannels (s : State) (n : Nat) : Nat := clampNat 1 64 (s.field (R.INGn_A_CTRL n) 22 16)
def audBytes (s : State) (n : Nat) : Nat := if s.flag (R.INGn_A_CTRL n) 5 then 3 else 2
def audRate (s : State) (n : Nat) : Nat := if s.flag (R.INGn_A_CTRL n) 4 then 96000 else 48000

/-- Samples per channel in one packet time. -/
def audSamples (s : State) (n : Nat) : Nat := s.audRate n / (if s.flag (R.INGn_A_CTRL n) 6 then 8000 else 1000)

/-- R121: one sample time of the envelope. -/
def envStep (atk rel env mag : Nat) : Nat :=
  if env < mag then env + (mag - env) / 2 ^ atk else env - (env - mag) / 2 ^ rel

/-- R121: FIRST and LAST. -/
def envRange (s : State) (n : Nat) : Nat × Nat :=
  let c := s.audChannels n
  let f := min (s.field (R.INGn_A_ENV_CFG n) 5 0) (c - 1)
  let l := min (s.field (R.INGn_A_ENV_CFG n) 13 8) (c - 1)
  (f, max f l)

/-- R121: the magnitude of a sample of b bytes at offset o, expanded to 24 bits and clamped. -/
def magAt (l : Bytes) (o b : Nat) : Nat :=
  let v := signed 24 (beAt l o b * (if b = 2 then 256 else 1))
  min v.natAbs 0x7FFFFF

/-- R121: the largest magnitude among channels FIRST to LAST at sample time i. -/
def magOf (s : State) (n : Nat) (l : Bytes) (i : Nat) : Nat :=
  let b := s.audBytes n
  let (f, t) := s.envRange n
  (List.range (t + 1 - f)).foldl (fun m c => max m (magAt l ((i * s.audChannels n + f + c) * b) b)) 0

/-- R121: the envelope over a list of magnitudes. -/
def feedEnv (s : State) (n : Nat) (mags : List Nat) : State :=
  let cfg := s.reg (R.INGn_A_ENV_CFG n)
  let r := s.rxOf n
  s.setRx n { r with env := mags.foldl (envStep (fld cfg 19 16) (fld cfg 23 20)) r.env }

/-- R104: a 16-bit sequence number extended to the value nearest the highest so far. -/
def audExtend (high : Option Nat) (q : Nat) : Nat :=
  match high with
  | none => 65536 + q
  | some h =>
    let d := (q + 65536 - h % 65536) % 65536
    if d < 32768 then h + d else h + d - 65536

/-- R120: the lag of a packet with timestamp ts that arrives now, saturated to 32 bits. -/
def audLag (s : State) (n : Nat) (ts : Word) : Int :=
  let fs : Int := s.audRate n
  let ext := ts32Extend (s.lt * fs / uSec) ts
  clampInt (-(2 ^ 31)) (2 ^ 31 - 1) ((s.lt - ext * uSec / fs) / uNs)

/-- An ST 2110-30 packet reaches receiver n. Which accepted sequence numbers are remembered for DUP is the model's choice: the last 32,768
since audio was enabled (log entry 11). -/
def audioPacket (s : State) (n : Nat) (h : RtpHdr) (seq : Nat) (ts : Word) (l : Bytes) : State :=
  if !s.audOn n || !s.rxReady h.port then s
  else match s.streamPath n true h.port with
    | none => s
    | some pathB =>
      if s.bracePort h.port then s.raise (R.INGn_STATUS n) 7
      else if !s.streamHears n true h then s
      else
      let s := s.hearPath n true pathB
      if l.length ≠ s.audChannels n * s.audBytes n * s.audSamples n then
        (s.bump (R.INGn_A_MALFORMED_CNT n)).raise (R.INGn_STATUS n) 6
      else
        let r := s.rxOf n
        let q := audExtend r.aHigh seq
        if s.streamMerge n true && r.aSeen.contains q then s.bump (R.INGn_V_DUP_CNT n)
        else
          let lag := s.audLag n ts
          let s := s.setRx n { r with
            aSeen := (q :: r.aSeen).take 32768
            aAt := s.time.frc
            aHigh := some (match r.aHigh with
              | none => q
              | some x => max x q)
            lag := some (match r.lag with
              | none => (lag, lag)
              | some (a, b) => (min a lag, max b lag)) }
          let s := s.bump (R.INGn_A_PKT_CNT n)
          s.feedEnv n ((List.range (s.audSamples n)).map (s.magOf n l))

/-- R103: the packet time in cycles of FRC. -/
def packetTime (s : State) (n : Nat) : Nat := if s.flag (R.INGn_A_CTRL n) 6 then 156250 else 1250000

/-- R120: no packet within a packet time of the last: at its end the gap is counted, and the next packet time begins. -/
def audioGap (s : State) (n : Nat) : State :=
  if s.audOn n then
    let due := (s.rxOf n).aAt + s.packetTime n
    let s := (s.waitFrc due).setRx n { s.rxOf n with aAt := due }
    ((s.raise (R.INGn_STATUS n) 2).bump (R.INGn_A_GAP_CNT n)).feedEnv n (List.replicate (s.audSamples n) 0)
  else s

/-- R120: the lags of the second just ended; with no packet in it they are free values (log entry 11). -/
def lagSecond (s : State) (n : Nat) : State :=
  if !s.audOn n then s
  else
    let r := s.rxOf n
    let (a, b, s) := match r.lag with
      | some (a, b) => (i32 a, i32 b, s)
      | none => let (x, s) := s.fresh; let (y, s) := s.fresh; (w32 x, w32 y, s)
    ((s.setReg (R.INGn_A_LAG_MIN n) a).setReg (R.INGn_A_LAG_MAX n) b).setRx n { r with lag := none }

/-- R104, R131: a path in use has delivered nothing for PATH_TMO milliseconds, 0 acting as 1: at that instant it is judged silent, once
until its next packet. -/
def pathTimeout (s : State) (n : Nat) (audio pathB : Bool) : State :=
  let r := s.rxOf n
  let key := 2 * b2n audio + b2n pathB
  match (if s.pathUsed n audio pathB then r.heardAt.lookup key else none) with
  | none => s
  | some t =>
    let s := s.waitFrc (t + atLeast1 (s.field (R.INGn_V_PATH_TMO n) 15 0) * 1250000)
    (s.setRx n { r with heardAt := r.heardAt.filter (fun x => x.1 != key) }).raise (R.INGn_STATUS n) (if audio then 3 else 1)

/-- R105: receivers that name a port brace owns: by an enabled stream, and by PORT_B where MERGE is 1 (DESIGN CHOICE, log entry 11). -/
def portConflicts (s : State) : State :=
  (List.range 8).foldl (fun s n =>
    let names (audio : Bool) : Bool :=
      s.bracePort (s.streamPort n audio false) || (s.streamMerge n audio && s.bracePort (s.streamPort n audio true))
    s.raiseIf ((s.rxOn n && names false) || (s.audOn n && names true)) (R.INGn_STATUS n) 7) s

end State

/-! ## Meanings -/

def execVideoPacketRx (rx : Nat) (hdr : RtpHdr) (seq ts : Word) (marker : Bool) (srds : List Srd) (s : State) :
    Host.Outcome State Fault Refusal := onMain s (·.videoPacket rx hdr seq ts marker srds)

def execAudioPacketRx (rx : Nat) (hdr : RtpHdr) (seq : BitVec 16) (ts : Word) (payload : Bytes) (s : State) :
    Host.Outcome State Fault Refusal := onMain s (·.audioPacket rx hdr seq.toNat ts payload)

def execPathTimeout (rx : Nat) (audio pathB : Bool) (s : State) : Host.Outcome State Fault Refusal :=
  onMain s (·.pathTimeout rx audio pathB)

def execAudioGap (rx : Nat) (s : State) : Host.Outcome State Fault Refusal := onMain s (·.audioGap rx)

def execAudioLagSecond (s : State) : Host.Outcome State Fault Refusal :=
  onMain s (fun s => (List.range 8).foldl State.lagSecond (s.waitUntil (-(-s.lt / State.uSec) * State.uSec)))

end Sys2Proof.Machine
end

