-- ==== Sys2Proof/Machine/NetFrame.lean ====
section
/-! DEFINITION. Frames on their way out: the transmit queues of the MACs (R370, R372), the
Ethernet, IPv4 and UDP headers, the brace frames (R450), and whether the device's outputs are on (R459, R462, R463). -/

namespace Sys2Proof.Machine

namespace State

/-! ## MACs -/

/-- R390: MACn_MAX_FRAME, clamped. -/
def maxFrame (s : State) (n : Nat) : Nat := clampNat 1518 9216 (s.field (R.MACn_MAX_FRAME n) 13 0)

/-- R369: MACn_ADDR, byte 0 first. -/
def macAddr (s : State) (n : Nat) : Bytes :=
  beBytes 2 (s.field (R.MACn_ADDR_HI n) 15 0) ++ beBytes 4 (s.reg (R.MACn_ADDR_LO n)).toNat

/-- R370: bytes of a frame on the wire without FCS: padded to 60. -/
def padded (l : Bytes) : Bytes := l ++ List.replicate (60 - l.length) 0

/-- R248: a resent fragment stands ahead of the first sends of its queue. -/
def isFirstSend (f : TxFrame) : Bool := match f.use with
  | .plan _ _ _ false => true
  | _ => false

/-- A frame enters the transmit queues of port n (R372). -/
def enqueue (s : State) (n : Nat) (f : TxFrame) : State :=
  let m := s.macOf n
  let resend := match f.use with
    | .plan _ _ _ r => r
    | _ => false
  let q := if resend then m.txq.takeWhile (fun x => !isFirstSend x) ++ f :: m.txq.dropWhile (fun x => !isFirstSend x)
    else m.txq ++ [f]
  s.setMac n { m with txq := q }

/-! ## Headers -/

/-- An Ethernet frame of a port: destination, MACn_ADDR, an 802.1Q tag where there is one, EtherType, payload. -/
def ether (s : State) (n : Nat) (dst : Bytes) (vlan : Option Nat) (etype : Nat) (payload : Bytes) : Bytes :=
  dst ++ s.macAddr n ++ (match vlan with
    | some tci => beBytes 2 0x8100 ++ beBytes 2 tci
    | none => []) ++ beBytes 2 etype ++ payload

/-- The ones'-complement sum of a header's 16-bit words. -/
def onesSum : Bytes → Nat
  | a :: b :: t => let v := a.toNat * 256 + b.toNat + onesSum t; if 65536 ≤ v then v - 65535 else v
  | [a] => a.toNat * 256
  | [] => 0

/-- An IPv4 header with a UDP header in front of a payload. Identification, the DF bit and the UDP checksum are not stated: they
come from the free value v. -/
def udp4 (v dscp ttl src dst sport dport : Nat) (payload : Bytes) : Bytes :=
  let head (sum : Nat) : Bytes := beBytes 1 0x45 ++ beBytes 1 (4 * dscp) ++ beBytes 2 (28 + payload.length) ++ beBytes 2 v
    ++ beBytes 2 (0x4000 * (v / 65536 % 2)) ++ beBytes 1 ttl ++ beBytes 1 17 ++ beBytes 2 sum ++ beBytes 4 src ++ beBytes 4 dst
  head (65535 - onesSum (head 0)) ++ beBytes 2 sport ++ beBytes 2 dport ++ beBytes 2 (8 + payload.length) ++ beBytes 2 (v / 131072) ++ payload

/-- The group MAC address of an IPv4 multicast group (RFC 1112). -/
def groupMac (ip : Nat) : Bytes := beBytes 3 0x01005E ++ beBytes 3 (ip % 2 ^ 23)

/-! ## Brace -/

/-- R459: the code of BRACE_STATE. -/
def braceCode (s : State) : Nat := match s.brace.state with
  | .off => 0
  | .seek => 1
  | .sync => 2
  | .standby => 3
  | .active => 4
  | .released => 5

/-- R462, R463: the traffic of render epoch e is sent. -/
def sendsEpoch (s : State) (e : Epoch) : Bool :=
  match s.brace.state with
  | .off => true
  | .active => (match s.brace.outFrom with
      | some f => reached f e
      | none => true)
  | .standby => (match s.brace.outUntil with
      | some u => later u e
      | none => false)
  | _ => false

/-- R459, R232: while outputs are off no PTP message leaves a port on which Vocon runs. -/
def ptpBarred (s : State) (p : Nat) : Bool := !s.outputsOn && decide (p < 32) && s.flag R.VCN_PORTS p && !s.bracePort p

/-- R241, R459, R463: a Vocon frame queued on port p for a tile that may not leave any more, the key being lost or the
outputs off for it; or a PTP message that may not. -/
def vcnBarred (s : State) (p : Nat) (f : TxFrame) : Bool :=
  let lost := decide (s.field R.VCN_CTRL 3 2 ≠ 0) && s.flag R.VCN_KEY_STATE 1
  match f.use with
  | .plan _ e _ _ => lost || !s.sendsEpoch e
  | .heel e _ => lost || !s.sendsEpoch e
  | .cfg _ _ => lost || !s.outputsOn
  | .far _ _ _ _ _ => !s.bracePort p && (lost || !s.outputsOn)
  | .ptp _ _ _ _ => s.ptpBarred p
  | _ => false

/-- R234: header FLAGS.ROLE. -/
def role (s : State) : Nat := match s.brace.state with
  | .off => 0
  | .active => 1
  | _ => 2

/-- R266: VCN_DEV_ID, clamped. -/
def devId (s : State) : Nat := clampNat 0x8000 0xFFFE (s.field R.VCN_DEV_ID 15 0)

/-- R450: a brace frame leaves on both brace ports. What is to happen when it has left rides on the copy of a port that is up. -/
def braceSend (s : State) (type : Nat) (payload : Bytes) (use : TxUse := .plain) : State :=
  let head := beBytes 2 0x4252 ++ [1] ++ beBytes 1 type ++ beBytes 1 s.braceCode ++ [0] ++ beBytes 2 payload.length
    ++ beBytes 4 s.time.epoch.toNat ++ beBytes 2 s.brace.txSeq ++ beBytes 2 s.devId
  let body := head ++ payload ++ beBytes 4 (crc32c (head ++ payload))
  let s : State := { s with brace := { s.brace with txSeq := (s.brace.txSeq + 1) % 65536 } }
  let put (s : State) (p : Nat) (use : TxUse) : State :=
    s.enqueue p { queue := 5, bytes := s.ether p (beBytes 6 0x034B5A425200) none (s.field R.BRACE_ETHERTYPE 15 0) body, use := use }
  let first := (s.macOf 30).up
  put (put s 30 (if first then use else .plain)) 31 (if first then .plain else use)

end State

end Sys2Proof.Machine
end

