-- ==== Sys2Proof/Machine/Uart.lean ====
section
/-! DEFINITION. Serial ports (R316–R337): the receiver, its FIFO and line status, the transmitter and its driver, and what a write
of UARTn_CTRL does. -/

namespace Sys2Proof.Machine

namespace State

/-! ## Samples (R321, R322) -/

/-- R321: a write of UARTn_FMT. What it replaces is remembered for longer than the longest character lasts, 13 bits at 300 bit/s. -/
def noteFormat (s : State) (p : Nat) : State :=
  let u := s.uartOf p
  s.setUart p { u with formats := (s.time.frc, s.reg (R.UARTn_FMT p)) :: u.formats.filter (fun x => decide (s.time.frc < x.1 + 55000000)) }

/-- R322: the glitch filter, which passes a change once the line has held its new level for n cycles: the filtered levels from level q
on, with k cycles of the other level behind. -/
def glitch (n : Nat) (q : Bool) (k : Nat) : Samples → Samples
  | [] => []
  | x :: t => if x == q then q :: glitch n q 0 t else if n ≤ k + 1 then x :: glitch n x 0 t else q :: glitch n q (k + 1) t

/-- R322: the three filtered samples that decide a bit, under a format. -/
def deciding (f : Word) (l : Samples) : Samples :=
  let x := glitch (fld f 18 16) (l.headD true) 0 l
  x.drop (x.length - 3)

/-- R322: a bit as its three samples decide it by majority, and whether they disagree. -/
def lineBit (f : Word) (l : Samples) : Bool := decide (2 ≤ (deciding f l).count true)
def lineNoisy (f : Word) (l : Samples) : Bool := (deciding f l).contains true && (deciding f l).contains false

/-- R320, R322: the data bits of a character, least significant first, and whether a bit of the character is noisy. -/
def lineData (f : Word) (data : List Samples) : Nat := ((List.range (fmtBits f)).map (fun i => 2 ^ i * b2n (lineBit f (data.getD i [])))).sum
def charNoisy (f : Word) (data : List Samples) (parity stop start : Samples) : Bool :=
  (start :: stop :: data.take (fmtBits f)).any (lineNoisy f) || ((fmtParity f 0).isSome && lineNoisy f parity)

/-- R319: DIV. A bit period is DIV / 32 FRC ticks. -/
def uartDiv (s : State) (p : Nat) : Nat := clampNat 2000 133333333 (s.field (R.UARTn_BAUD p) 27 0)

/-- R320: the bits of a character under a format, its stop bits with them. -/
def charBits (f : Word) : Nat := 1 + fmtBits f + b2n (fmtParity f 0).isSome + 1 + b2n (bit f 8)

/-- R319, R320: a character time in ns, rounded up. -/
def charTimeNs (s : State) (p : Nat) : Nat := (charBits (s.reg (R.UARTn_FMT p)) * s.uartDiv p + 39) / 40

/-- R319: the FRC ticks of a number of quarter-bits at a DIV, rounded up. -/
def quarterTicks (div n : Nat) : Nat := (n * div + 127) / 128

/-! ## The receive FIFO (R326–R329) -/

/-- R328: summary flags are set; an armed clear of one that is set again is disarmed. -/
def uartSummary (s : State) (p m : Nat) : State :=
  let u := s.uartOf p
  s.setUart p { u with summary := u.summary ||| m, armed := u.armed &&& (31 - m) }

/-- R327: a character is lost. -/
def uartLost (s : State) (p : Nat) : State :=
  let s := ((s.bump (R.UARTn_OVR_CNT p)).uartSummary p 8)
  s.setUart p { s.uartOf p with ovrNext := true }

/-- R511: the frame of the unit that serves the port has a character that carries OVR. -/
def frameOvr (s : State) (p : Nat) : State :=
  match s.unitFor p 2 with
  | some n => s.setUnit n { s.unitOf n with bad := true }
  | none => s

/-- R326, R327: an entry is pushed into the receive FIFO, or lost. A break that carries OVR is no character of a frame (log entry 54). -/
def uartPush (s : State) (p e : Nat) (start : Int) : State :=
  let u := s.uartOf p
  if 256 ≤ u.rx.length then s.uartLost p
  else
    let e := e + 4096 * b2n u.ovrNext
    let s := s.setUart p { u with rx := u.rx ++ [(e, start)], ovrNext := false, timedOut := false, quiet := s.time.frc }
    let fe := e / 512 % 2
    let pe := e / 1024 % 2
    let brk := e / 2048 % 2
    let s := if u.ovrNext && brk == 0 then s.frameOvr p else s
    let noise := e / 8192 % 2
    let s := s.bump (R.UARTn_RX_CNT p)
    let s := (s.count (R.UARTn_FE_CNT p) fe).count (R.UARTn_PE_CNT p) pe
    (s.count (R.UARTn_NOISE_CNT p) noise).uartSummary p (fe + 2 * pe + 4 * brk + 16 * noise)

/-- R511: an entry of a port that a check unit serves, with the FRC of its start edge: held back, the oldest one entering the FIFO when
K follow it. -/
def uartChecked (s : State) (p n e start : Nat) : State :=
  if e / 2048 % 2 = 1 then (s.checkFrameEnd n).uartPush p e (s.ltThen start)
  else
    let u := s.unitOf n
    let held := u.held ++ [(e, s.ltThen start)]
    let u := { u with chars := u.chars + 1, last := start, bad := u.bad || e / 512 != 0 }
    match (if s.checkK n < held.length then held else []) with
    | x :: rest => ((s.setUnit n { u with held := rest }).checkFeed n (x.1 % 256)).uartPush p x.1 x.2
    | [] => s.setUnit n { u with held := held }

/-- R318, R326, R342: an entry goes to the port's owner, with the local time of its start edge, at FRC `start`. The fixture block takes a DMX port's entries; its packets come by DMX_PACKET_RX. -/
def uartEntry (s : State) (p e start : Nat) : State :=
  let s := match s.unitFor p 2 with
    | some n => s.uartChecked p n e start
    | none => s.uartPush p e (s.ltThen start)
  match s.uartOwner p with
  | 1 => s.hubDrain p
  | 2 => s.setUart p { s.uartOf p with rx := [] }
  | _ => s

/-! ## The receiver (R322–R325, R332) -/

/-- R332: the receiver takes what stands on the line. Not with LOOP = 1, nor while a half-duplex port drives the line itself: what it
receives then is its own transmission, with ECHO = 1 (log entry 65). -/
def uartHears (s : State) (p : Nat) : Bool :=
  let c := s.reg (R.UARTn_CTRL p)
  s.uartEn p && !bit c 4 && (bit c 8 || !s.uartDriving p)

/-- R324: the sampling point of the first stop bit. `parity` is the received parity bit, `stop` the stop bit, `ago` the FRC ticks
since the start edge. -/
def uartChar (s : State) (p data : Nat) (parity stop noise : Bool) (ago : Nat) : State :=
  let u := s.uartOf p
  if !(decide (p < 64) && s.uartHears p) || u.stuck || u.inBreak || u.held.isSome then s
  else
    let f := s.formatAt p (s.time.frc - ago)
    let d := data % 2 ^ fmtBits f
    let start := s.time.frc - ago
    let want := fmtParity f d
    let flags := 8192 * b2n noise + 1024 * b2n (want == some !parity)
    let s := s.setUart p { u with line := stop }
    if stop then s.uartEntry p (d + flags) start
    else if d ≠ 0 ∨ (want.isSome && parity) = true then s.uartEntry p (d + flags + 512) start
    else s.setUart p { s.uartOf p with held := some (flags, start) }

/-- The FRC one character time, at the rate and in the format written last (R321), behind a start edge. -/
def charAfter (s : State) (p start : Nat) : Nat := start + quarterTicks (s.uartDiv p) (4 * charBits (s.reg (R.UARTn_FMT p)))

/-- R335: a trim that waited for the end of a held character takes effect. -/
def trimDue (s : State) (p : Nat) : State := if s.calib.scDue.contains (R.UARTn_RXTRIM p) then s.scApply (R.UARTn_RXTRIM p) else s

/-- R324, case 3: the line is still low at one character time. -/
def uartBreak (s : State) (p : Nat) : State :=
  let u := s.uartOf p
  match u.held with
  | none => s
  | some (flags, start) =>
    let s := s.waitFrc (s.charAfter p start)
    let s := (s.setUart p { u with held := none, inBreak := true, breakFrom := start, line := false }).bump (R.UARTn_BRK_CNT p)
    (s.uartEntry p (512 + 2048 + flags / 8192 * 8192) start).trimDue p

/-- R324: a break ends after a number of CLK_PERI cycles. -/
def uartBreakEnd (s : State) (p cycles : Nat) : State :=
  let u := s.uartOf p
  if !u.inBreak || u.stuck then s
  else (s.setUart p { u with inBreak := false, line := true }).setReg (R.UARTn_BRK_LEN p) (w32 (min 0xFFFFFFFF cycles))

/-- The line rises behind a character that is held: before one character time it makes a framing error, later it ends a break (R324,
case 3), whose length in CLK_PERI cycles is an eighth of its FRC ticks. Else it rises behind another framing error, or a stuck
line's. -/
def uartHeldRise (s : State) (p : Nat) : State :=
  let u := s.uartOf p
  match u.held with
  | none => if u.inBreak && !u.stuck then s else s.setUart p { u with line := true }
  | some (flags, start) =>
    if s.time.frc < s.charAfter p start then ((s.setUart p { u with held := none, line := true }).uartEntry p (512 + flags) start).trimDue p
    else (s.uartBreak p).uartBreakEnd p ((s.time.frc - start) / 8)

/-- R325: the line has been low for BRK_MAX µs, or a character time where that is longer, since its falling edge, on a line that the
receiver hears (R332). A character still held is a break by then (R324). -/
def uartStuck (s : State) (p : Nat) : State :=
  let u := s.uartOf p
  let most := s.field (R.UARTn_BRK_MAX p) 23 0
  if !(decide (p < 64) && s.uartHears p) || u.stuck || most == 0 then s
  else
    let s := s.uartBreak p
    let u := s.uartOf p
    let s := if u.inBreak then s.waitFrc (max (u.breakFrom + 1250 * most) (s.charAfter p u.breakFrom)) else s
    ((s.setUart p { u with stuck := true, line := false }).setReg (R.UARTn_BRK_LEN p) 0xFFFFFFFF).raise (R.UARTn_STATUS p) 0

/-- R325: the line has been mark for one character time. -/
def uartRearm (s : State) (p : Nat) : State :=
  let u := s.uartOf p
  if u.stuck then s.setUart p { u with stuck := false, inBreak := false, line := true } else s

/-- R322: a false start. -/
def uartFalse (s : State) (p : Nat) : State :=
  if decide (p < 64) && s.uartHears p && !(s.uartOf p).stuck then s.bump (R.UARTn_FSTART_CNT p) else s

/-- R322, R324: the samples of a character, up to those of its first stop bit; one whose start bit reads mark is a false start. One that began
before the port last began to run has been abandoned (R333). -/
def uartSampled (s : State) (p : Nat) (data : List Samples) (parity stop start : Samples) (ago : Nat) : State :=
  let f := s.formatAt p (s.time.frc - ago)
  if s.time.frc - ago < (s.uartOf p).enAt then s
  else if lineBit f start then s.uartFalse p
  else s.uartChar p (lineData f data) (lineBit f parity) (lineBit f stop) (charNoisy f data parity stop start) ago

/-- R329: the FRC at which RX_TMO character times without a push or a read have passed. -/
def uartTmoAt (s : State) (p : Nat) : Nat :=
  (s.uartOf p).quiet + quarterTicks (s.uartDiv p) (4 * s.field (R.UARTn_FIFO_CTRL p) 23 16 * charBits (s.reg (R.UARTn_FMT p)))

/-- R321, R329: RX_TMO or the character time has been written anew; the time that has passed is judged by it. -/
def uartTmoAgain (s : State) (p : Nat) : State :=
  let u := s.uartOf p
  s.setUart p { u with timedOut := u.timedOut && decide (s.uartTmoAt p ≤ s.time.frc) }

/-- R329: RX_TMO character times without a push or a read. -/
def uartTimeout (s : State) (p : Nat) : State :=
  let u := s.uartOf p
  if s.field (R.UARTn_FIFO_CTRL p) 23 16 = 0 ∨ u.rx.isEmpty = true then s
  else (s.waitFrc (s.uartTmoAt p)).setUart p { u with timedOut := true }

/-! ## Reads (R318, R328) -/

/-- R328: a read of UARTn_DATA. -/
def uartRead (s : State) (p : Nat) : State :=
  let u := s.uartOf p
  let u := { u with summary := u.summary &&& (31 - u.armed), armed := 0, timedOut := false, quiet := s.time.frc }
  match (if s.uartOwner p = 0 ∧ s.uartInert p = false then u.rx else []) with
  | x :: rest => { s.setUart p { u with rx := rest } with bus := w32 x.1 }
  | [] => { s.setUart p u with bus := 0x10000 }

/-- R328: a read of UARTn_LSR. -/
def uartReadLsr (s : State) (p : Nat) : State :=
  let v := s.uartLsr p
  { s.setUart p { s.uartOf p with armed := fld v 4 0 } with bus := v }

/-! ## Writes (R317, R330, R333) -/

/-- R328: any write to the instance disarms. -/
def uartDisarm (s : State) (p : Nat) : State := s.setUart p { s.uartOf p with armed := 0 }

/-- R511: an entry pushed into the transmit FIFO passes a unit that appends. -/
def uartTxFeed (s : State) (p e : Nat) : State :=
  match s.unitFor p 1 with
  | some n => if e / 2048 % 2 = 1 then s.checkInit n else s.checkFeed n (e % 256)
  | none => s

/-- R330: a write of UARTn_DATA. -/
def uartWrite (s : State) (p : Nat) (v : Word) : State :=
  if s.uartInert p then s.raise (R.UARTn_STATUS p) 2
  else if s.uartOwner p ≠ 0 then s.raise (R.UARTn_STATUS p) 3
  else
    let u := s.uartOf p
    if 256 ≤ u.tx.length then s.raise (R.UARTn_STATUS p) 4
    else
      let e := 2048 * b2n (bit v 11) + fld v 8 0
      (s.setUart p { u with tx := u.tx ++ [e], idleSeen := false }).uartTxFeed p e

/-- R331: TX_DONE is set once, as TX_IDLE comes to read 1. -/
def uartSettle (s : State) (p : Nat) : State :=
  let u := s.uartOf p
  if s.uartTxIdle p && !u.idleSeen then (s.setUart p { u with idleSeen := true }).raise (R.UARTn_STATUS p) 1 else s

/-- R333: FLUSH_RX and FLUSH_TX; the bits clear themselves. -/
def uartFlushRx (s : State) (p : Nat) : State := s.setUart p { s.uartOf p with rx := [] }
def uartFlushTx (s : State) (p : Nat) : State := (s.setUart p { s.uartOf p with tx := [] }).uartSettle p

/-- R317: the port joins its even neighbour: its FIFOs are empty, and nothing of it is under way. -/
def uartJoin (s : State) (p : Nat) : State :=
  s.setUart p { s.uartOf p with rx := [], tx := [], shifter := none, driver := false, held := none, inBreak := false }

/-- R333: a port that did not run in state `was` and runs now takes characters that begin from here on; one that stops abandons the
character it receives. -/
def noteRun (was : State) (s : State) (p : Nat) : State :=
  let u := s.uartOf p
  if was.uartEn p == s.uartEn p then s
  else if s.uartEn p then s.setUart p { u with enAt := s.time.frc }
  else (s.setUart p { u with held := none }).trimDue p

/-- R317, R318, R333: a write of UARTn_CTRL. Of a joined pair both ports may begin or cease to run. -/
def uartCtrl (s : State) (p : Nat) (v : Word) : State :=
  let was := s
  let old := s.reg (R.UARTn_CTRL p)
  if bit old 0 ∧ fld old 17 16 ≠ fld v 17 16 then s.wdrop .uart p
  else
    let odd := p % 2 == 1
    let s := s.raiseIf (odd && bit v 8) (R.UARTn_STATUS p) 2
    let v' := (v &&& 0x311F1) &&& (if odd then 0xFFFFFEFF else 0xFFFFFFFF)
    let s := (s.setReg (R.UARTn_CTRL p) v').fixLive (R.UARTn_CTRL p)
    let s := if fld old 17 16 ≠ fld v 17 16 then s.setUart p { s.uartOf p with rx := [], tx := [] } else s
    let s := if bit v' 8 && !odd then s.uartJoin (p + 1) else s
    let s := if bit v 1 then s.uartFlushRx p else s
    let s := if bit v 2 then s.uartFlushTx p else s
    let s := (noteRun was (s.uartSettle p) p).checkDetach p
    if odd then s else (noteRun was s (p + 1)).checkDetach (p + 1)

/-! ## The transmitter (R331, R333, R334) -/

/-- R330: the nanoseconds of a break that starts now, and of the mark behind it. -/
def brkTimes (s : State) (p : Nat) : Nat × Nat :=
  (max (s.charTimeNs p) (1000 * s.field (R.UARTn_TXBRK p) 15 0), 1000 * s.field (R.UARTn_TXBRK p) 31 16)

/-- R330: an entry as it goes on the line: a character's low D bits with its parity and stop bits, or a break with its times. -/
def uartSent (s : State) (p e : Nat) : Sent :=
  let f := s.reg (R.UARTn_FMT p)
  let d := e % 512 % 2 ^ fmtBits f
  if e / 2048 % 2 = 1 then .brk p (s.brkTimes p).1 (s.brkTimes p).2
  else .char p d (fmtBits f) (fmtParity f d) (1 + b2n (bit f 8))

/-- R324, R325: the receiver hears a break of its own transmitter, with the mark behind it. One longer than BRK_MAX has made the line
stuck, until it has been mark for a character time. -/
def echoBreak (s : State) (p low mark start : Nat) : State :=
  let s := (s.bump (R.UARTn_BRK_CNT p)).uartEntry p (512 + 2048) start
  let most := s.field (R.UARTn_BRK_MAX p) 23 0
  if most ≠ 0 ∧ max (1000 * most) (s.charTimeNs p) < low then
    ((s.setUart p { s.uartOf p with stuck := decide (mark < s.charTimeNs p) }).setReg (R.UARTn_BRK_LEN p) 0xFFFFFFFF).raise (R.UARTn_STATUS p) 0
  else s.setReg (R.UARTn_BRK_LEN p) (w32 (min 0xFFFFFFFF (10 * low / 64)))

/-- R318: the receiver hears a packet of the fixture block: an entry for its break and one for each byte. The block has no use for
them: they count. -/
def echoPacket (s : State) (p : Nat) (x : DmxOut) : State :=
  if !(s.uartEn p && s.uartOwn p) || (s.uartOf p).stuck then s
  else
    let s := s.echoBreak p x.low x.mark x.start
    if (s.uartOf p).stuck then s else s.count (R.UARTn_RX_CNT p) x.data.length

/-- The packets of the fixture block that have ended reach the port's own receiver, where it hears them. -/
def echoPackets (s : State) (p : Nat) : State :=
  let u := s.uartOf p
  let (done, rest) := u.packets.partition (fun x => decide (x.ends ≤ s.time.frc))
  done.foldl (fun s x => s.echoPacket p x) (s.setUart p { u with packets := rest })

/-- R332: what the transmitter has sent reaches the port's own receiver: with LOOP = 1, or with ECHO = 1 on the line it drives. A break
of its own ends with it (R324). -/
def uartEcho (s : State) (p : Nat) : State :=
  let u := s.uartOf p
  match (if u.packets.isEmpty then u.shifter else none) with
  | none => s.echoPackets p
  | some e =>
    if !(s.uartEn p && s.uartOwn p) || u.stuck then s
    else if e / 2048 % 2 = 1 then s.echoBreak p u.sentBrk.1 u.sentBrk.2 u.sentAt
    else s.uartEntry p (e % 512 % 2 ^ fmtBits (s.formatAt p u.sentAt)) u.sentAt

/-- R319, R330: the FRC ticks that an entry takes on the line. -/
def uartTakes (s : State) (p e : Nat) : Nat :=
  if e / 2048 % 2 = 1 then (5 * ((s.brkTimes p).1 + (s.brkTimes p).2) + 3) / 4
  else quarterTicks (s.uartDiv p) (4 * charBits (s.reg (R.UARTn_FMT p)))

/-- R331: the FRC at which the next entry starts: not before the one before it has ended. In automatic mode DE_LEAD quarter-bits go
before it where the driver is still off, and an entry of the tail starts at a bit boundary behind the entry before it. -/
def uartBegin (s : State) (p : Nat) : Nat :=
  let u := s.uartOf p
  let now := s.time.frc
  if s.field (R.UARTn_CTRL p) 7 6 ≠ 0 then max now u.sentEnds
  else if !u.driver then max (now + quarterTicks (s.uartDiv p) (s.field (R.UARTn_DE p) 15 0)) u.sentEnds
  else u.sentEnds + quarterTicks u.sentDiv (4 * ((32 * (now - u.sentEnds) + u.sentDiv - 1) / u.sentDiv))

/-- R331: the FRC at which the last entry has ended, and with it the tail of DE_TAIL quarter-bits after which the driver goes off. -/
def uartEnd (s : State) (p : Nat) : Nat :=
  let u := s.uartOf p
  u.sentEnds + (if s.field (R.UARTn_CTRL p) 7 6 = 0 then quarterTicks u.sentDiv (s.field (R.UARTn_DE p) 31 16) else 0)

/-- R331: the next entry starts; the one before it has ended. -/
def uartStart (s : State) (p : Nat) : State :=
  if !(decide (p < 64) && s.uartEn p) then s
  else match (s.uartOf p).tx with
    | [] => s
    | e :: rest =>
      let auto := s.field (R.UARTn_CTRL p) 7 6 == 0
      let s := (s.waitFrc (s.uartBegin p)).uartEcho p
      let u := s.uartOf p
      let s := s.setUart p { u with tx := rest, shifter := some e, sentAt := s.time.frc, sentEnds := s.time.frc + s.uartTakes p e
                                    sentDiv := s.uartDiv p, sentBrk := s.brkTimes p, driver := u.driver || auto, idleSeen := false }
      let s := (s.driveFrom p).bump (R.UARTn_TX_CNT p)
      if s.uartDriving p then s.send (s.uartSent p e) else s

/-- R331: the last entry and its tail have ended. -/
def uartDone (s : State) (p : Nat) : State :=
  let s := (if (s.uartOf p).shifter.isSome then s.waitFrc (s.uartEnd p) else s).uartEcho p
  (s.setUart p { s.uartOf p with shifter := none, driver := false }).uartSettle p

/-- R511: CMD.APPEND. The FIFO of a port that is joined to its neighbour takes nothing (R317). -/
def checkAppend (s : State) (n : Nat) : State :=
  let c := s.unitOf n
  if c.dir ≠ 1 then s
  else
    let u := s.uartOf c.port
    let l := s.checkOrder n (s.checkResult n)
    if s.uartInert c.port then s.checkInit n
    else if 256 < u.tx.length + l.length then s.raise (R.CHECKn_STATUS n) 2
    else (s.setUart c.port { u with tx := u.tx ++ l.map (·.toNat), idleSeen := false }).checkInit n

/-- R511: the line has been mark for GAP character times after the last stop bit. -/
def checkGap (s : State) (n : Nat) : State :=
  let u := s.unitOf n
  if 8 ≤ n ∨ u.dir ≠ 2 ∨ u.chars = 0 then s
  else
    let quarters := 4 * (1 + atLeast1 (s.field (R.CHECKn_GAP n) 7 0)) * charBits (s.reg (R.UARTn_FMT u.port))
    (s.waitFrc (u.last + quarterTicks (s.uartDiv u.port) quarters)).checkFrameEnd n

/-- The key of a UART's BUSY bit. -/
def uartKey (p : Nat) : Nat := canon .uart p 0

/-- A write to port p reaches it, and disarms its clears (R328); BUSY drops it (R61). -/
def uartBy (s : State) (p : Nat) (f : State → State) : State := if 64 ≤ p then s else (s.uartDisarm p).ifFree .uart p (uartKey p) f

end State

/-! ## Meanings -/

def execUartCharRx (port : Nat) (data : List Samples) (parity stop start : Samples) (ago : Nat) (s : State) : Host.Outcome State Fault Refusal :=
  onMain s (·.uartSampled port data parity stop start ago)

def execUartBreakDetect (port : Nat) (s : State) : Host.Outcome State Fault Refusal := onMain s (·.uartBreak port)

def execUartBreakEnd (port cycles : Nat) (s : State) : Host.Outcome State Fault Refusal := onMain s (·.uartBreakEnd port cycles)

def execUartLineStuck (port : Nat) (s : State) : Host.Outcome State Fault Refusal := onMain s (·.uartStuck port)

def execUartStuckRearm (port : Nat) (s : State) : Host.Outcome State Fault Refusal := onMain s (·.uartRearm port)

def execUartRxTimeout (port : Nat) (s : State) : Host.Outcome State Fault Refusal := onMain s (·.uartTimeout port)

def execUartDataRead (port : Nat) (s : State) : Host.Outcome State Fault Refusal :=
  onMain s (fun s => if port < 64 then s.uartRead port else s)

def execUartDataWrite (port : Nat) (value : Word) (s : State) : Host.Outcome State Fault Refusal :=
  onMain s (fun s => s.uartBy port (·.uartWrite port value))

def execUartLsrRead (port : Nat) (s : State) : Host.Outcome State Fault Refusal :=
  onMain s (fun s => if port < 64 then s.uartReadLsr port else s)

def execUartTxEntryStart (port : Nat) (s : State) : Host.Outcome State Fault Refusal := onMain s (·.uartStart port)

def execUartTxDone (port : Nat) (s : State) : Host.Outcome State Fault Refusal :=
  onMain s (fun s => if port < 64 then s.uartDone port else s)

def execFlushRx (port : Nat) (s : State) : Host.Outcome State Fault Refusal := onMain s (fun s => s.uartBy port (·.uartFlushRx port))

def execFlushTx (port : Nat) (s : State) : Host.Outcome State Fault Refusal := onMain s (fun s => s.uartBy port (·.uartFlushTx port))

def execUartFalseStart (port : Nat) (s : State) : Host.Outcome State Fault Refusal := onMain s (·.uartFalse port)

def execLineRiseHeldCharacter (port : Nat) (s : State) : Host.Outcome State Fault Refusal := onMain s (·.uartHeldRise port)

def execCheckFrameEnd (unit : Nat) (s : State) : Host.Outcome State Fault Refusal := onMain s (·.checkGap unit)

def execCheckAppend (init : Initiator) (unit : Nat) (s : State) : Host.Outcome State Fault Refusal :=
  onMain s (fun s => s.checkBy init unit (·.checkAppend unit))

end Sys2Proof.Machine
end

