-- ==== Sys2Proof/Machine/Time.lean ====
section
/-! DEFINITION. Show time (03): the meanings of the measurements, PTP messages, stamp queues, references, timecode and HEEL_OUT
pins (R74–R100). -/

namespace Sys2Proof.Machine

namespace State

/-! ## Timestamps (R81–R86) -/

/-- R81: TIME_PORTn_TXDLY and _RXDLY as signed values in units of 2⁻¹⁶ ns. -/
def txDelay (s : State) (p : Nat) : Int := (s.reg (R.TIME_PORTn_TXDLY p)).toInt * 256
def rxDelay (s : State) (p : Nat) : Int := (s.reg (R.TIME_PORTn_RXDLY p)).toInt * 256

/-- R81: the fraction of an FRC tick that a port resolves: 0.1 ns steps on ports 0–31, none on ports 32–36. -/
def phaseTime (p phase : Nat) : Int := if p < 32 then (65536 * ((phase % 8 : Nat) : Int)) / 10 else 0

/-- The lane phase of a message that leaves: a free value on ports 0–31, which no rule names. -/
def txPhase (s : State) (p : Nat) : Nat × State := if p < 32 then s.fresh else (0, s)

/-- R81: the receive stamp of a message that arrives now at lane phase `phase`. -/
def rxStamp (s : State) (p phase : Nat) : Int := s.lt + phaseTime p phase - s.rxDelay p

/-- R81: the transmit stamp of a message that leaves now at lane phase `phase`. -/
def txStamp (s : State) (p phase : Nat) : Int := s.lt + phaseTime p phase + s.txDelay p

/-- The transmit timestamp queue of a port. -/
def tsqOf (s : State) (p : Nat) : Tsq := Sparse.get {} s.time.tsq p
def setTsq (s : State) (p : Nat) (q : Tsq) : State := { s with time := { s.time with tsq := Sparse.put {} s.time.tsq p q } }

/-- R85: the ID of a lost stamp joins its port's list and sets TSQ_LOST; with the list full it is only counted. -/
def tagLost (s : State) (p id : Nat) : State :=
  let q := s.tsqOf p
  if q.lost.length < 8 then (s.setTsq p { q with lost := q.lost ++ [id] }).raise R.TIME_STATUS 6
  else s.setTsq p { q with lostCnt := q.lostCnt + 1 }

/-- R84, R85: the stamp `time` of a frame enters its port's queue, or is lost. Answers whether it was kept. -/
def stampOut (s : State) (p id : Nat) (ptp : Bool) (time : Int) : Bool × State :=
  let q := s.tsqOf p
  let soft := (q.entries.filter (fun e => !e.ptp)).length
  let room := decide (q.entries.length < 16) && (ptp || decide (soft < 16 - s.field R.TIME_TSQ_RSV 3 0))
  if room then (true, s.setTsq p { q with entries := q.entries ++ [{ id := id, time := time, ptp := ptp }] }) else (false, s.tagLost p id)

/-- An event that falls due `cycles` after one that is noted as FRC + 1 (0: none yet) waits for that moment. -/
def afterInterval (s : State) (last cycles : Nat) : State :=
  if last = 0 then s else { s with time := { s.time with frc := max s.time.frc (last - 1 + cycles) } }

/-- R79: a log interval of TIME_PTP_CTRL, clamped to its range. -/
def logInterval (s : State) (lo : Nat) (least : Int) : Int :=
  clampInt least 1 (signed 4 (s.field R.TIME_PTP_CTRL (lo + 3) lo))
def logSync (s : State) : Int := s.logInterval 8 (-7)
def logAnnounce (s : State) : Int := s.logInterval 4 (-3)
def logDelay (s : State) : Int := s.logInterval 0 (-7)

/-- The CLK_ENGINE cycles of a log interval between −7 and 1. -/
def intervalCycles (log : Int) : Nat := 1250000000 * 2 ^ (log + 7).toNat / 128

/-- R79: the domain in use; 128–255 act as 127. -/
def ptpDomain (s : State) : Nat := min 127 (s.field R.TIME_PTP_CTRL 31 24)

/-- The kinds of PTP messages, in the coding of IEEE 1588's messageType: 0 Sync, 1 Delay_Req, 2 Pdelay_Req, 3 Pdelay_Resp,
9 Delay_Resp, 10 Pdelay_Resp_Follow_Up. -/
def ptpEvent (kind : Nat) : Bool := kind < 4

/-- A PTP message of IEEE 1588-2019 with its timestamps zero (they are formed as it leaves: `Sent.ptp`); v: the clock identity, which no
rule names. -/
def ptpBody (s : State) (n kind seq v : Nat) : Bytes :=
  let size := if kind ≤ 1 then 44 else 54
  let log : Int := if kind = 0 then s.logSync else if kind = 9 then s.logDelay else 0x7F
  beBytes 1 kind ++ beBytes 1 0x12 ++ beBytes 2 size ++ beBytes 1 s.ptpDomain ++ List.replicate 15 0
    ++ beBytes 8 v ++ beBytes 2 (n + 1) ++ beBytes 2 seq ++ beBytes 1 (if kind = 0 then 0 else if kind = 1 then 1 else if kind = 9 then 3 else 5)
    ++ beBytes 1 (log % 256).toNat ++ List.replicate (size - 34) 0

/-- R79: the frame of a PTP message, by TIME_PTP_CTRL.L2. The group addresses of the peer messages are those of IEEE 1588 (PRESUMED, log
entry 58); the IPv4 source address and what the rules leave out of the headers come from the free value. -/
def ptpFrame (s : State) (n kind seq v : Nat) : Bytes :=
  let peer := kind == 2 || kind == 3 || kind == 10
  let body := s.ptpBody n kind seq v
  if s.flag R.TIME_PTP_CTRL 13 then s.ether n (beBytes 6 (if peer then 0x0180C200000E else 0x011B19000000)) none 0x88F7 body
  else
    let ip := if peer then 0xE000006B else 0xE0000181
    let port := if ptpEvent kind then 319 else 320
    s.ether n (groupMac ip) none 0x0800 (udp4 v (v / 2 ^ 64 % 64) (if peer then 1 else v / 2 ^ 70 % 256) (v / 2 ^ 78) ip port port body)

/-- R372, R79: a PTP message enters queue 6 of its port. While outputs are off none is sent on a port enabled in VCN_PORTS (R459). -/
def ptpSend (s : State) (p kind seq : Nat) (stamp : Int) (clock : Nat) : State :=
  if s.ptpBarred p then s
  else
    let (v, s) := s.fresh
    s.enqueue p { queue := 6, bytes := s.ptpFrame p kind seq v, use := .ptp kind seq stamp clock }

/-- R86: the PTP logic drains its own entries. -/
def drainPtp (s : State) (p : Nat) : State :=
  s.setTsq p { s.tsqOf p with entries := (s.tsqOf p).entries.filter (fun e => !e.ptp) }

/-- R86: TIME_TSQ_CMD.POP. -/
def tsqPop (s : State) : State :=
  let p := s.field R.TIME_TSQ_SEL 5 0
  let q := s.tsqOf p
  match (if p < 37 then q.entries.find? (fun e => !e.ptp) else none) with
  | none => s.putBit R.TIME_TSQ_STAT 0 false
  | some e =>
    let t := ts80Of e.time
    let s := s.setTsq p { q with entries := q.entries.erase e }
    let s := (s.setReg R.TIME_TSQ_ID (w32 e.id)).setReg R.TIME_TSQ_FRAC (w32 (e.time % uNs).toNat)
    let s := (s.setReg R.TIME_TSQ_NS (w32 t.ns)).setReg R.TIME_TSQ_SEC_LO (w32 t.sec)
    (s.setReg R.TIME_TSQ_SEC_HI (w32 (t.sec / 2 ^ 32))).putBit R.TIME_TSQ_STAT 0 true

/-- R86: TIME_TSQ_CMD.LOST_POP. -/
def tsqLostPop (s : State) : State :=
  let p := s.field R.TIME_TSQ_SEL 5 0
  let q := s.tsqOf p
  match (if p < 37 then q.lost else []) with
  | [] => s.putBit R.TIME_TSQ_STAT 1 false
  | id :: t => ((s.setTsq p { q with lost := t }).setReg R.TIME_TSQ_LOST_ID (w32 id)).putBit R.TIME_TSQ_STAT 1 true

/-! ## Software writes (R74–R77, R92, R96) -/

/-- A write to TIME_MEAS (R76): one measurement when SRC = 0, ignored otherwise. -/
def timeMeas (s : State) (e : Word) : State := if s.servoSrc = 0 then s.measure e.toInt else s

/-- R75, R77: TIME_RATE, a signed 40-bit value, loads RATE and the integrator, or is ignored with WDROP. -/
def timeRate (s : State) (r : BitVec 40) : State :=
  let v := r.toInt
  if v < -s.rateLimit ∨ s.rateLimit < v then s.wdrop .time 0
  else
    let s := s.setRate v
    { s with time := { s.time with integ := v } }

/-- R77: TIME_STEP. -/
def timeStep (s : State) (d : Word) : State :=
  if s.stepRefused then s.raise R.TIME_STATUS 4 else s.stepBy (d.toInt * uNs)

/-- R77, R9: TIME_SET. -/
def timeSet (s : State) (ns lo hi : Word) : State :=
  let t : Ts80 := { sec := hi.toNat % 65536 * 2 ^ 32 + lo.toNat, ns := ns.toNat }
  if !t.valid then s.wdrop .time 0
  else if s.stepRefused then s.raise R.TIME_STATUS 4
  else s.stepBy ((t.toNs : Int) * uNs - s.lt)

/-- R92: the range of NUM, DEN and DEN/NUM. -/
def pairOk (num den : Nat) : Bool :=
  1 ≤ num && num < 2 ^ 20 && 1 ≤ den && den < 2 ^ 20 && 24000 * num ≤ den * 1001 && den ≤ 240 * num

/-- R92, R64: a write of TIME_FRAME_NUM checks the pair and enters it into the shadow. -/
def framePeriod (s : State) (num den : Word) : State :=
  if pairOk (fld num 19 0) (fld den 19 0) then
    let s := (s.setSh R.TIME_FRAME_NUM (w32 (fld num 19 0))).setSh R.TIME_FRAME_DEN (w32 (fld den 19 0))
    (s.fixShadow R.TIME_FRAME_NUM).fixShadow R.TIME_FRAME_DEN
  else s.wdrop .time 0

/-- R96: TIME_EPOCH_ADJ is writable only outside SHOW, and acts at the next boundary. -/
def epochAdj (s : State) (v : Word) : State :=
  if s.inShow then s.wdrop .time 0 else (s.setReg R.TIME_EPOCH_ADJ v).fixLive R.TIME_EPOCH_ADJ

/-! ## HEEL_OUT (R97–R99) -/

/-- R99: a push onto a pin's queue of 4. A target that reaches the head at once is judged at once. -/
def hoPush (s : State) (n : Nat) (ns lo hi : Word) : State :=
  let t : Ts80 := { sec := hi.toNat % 65536 * 2 ^ 32 + lo.toNat, ns := ns.toNat }
  let p := s.hoOf n
  if 8 ≤ n then s
  else if !t.valid || decide (4 ≤ p.queue.length) then s.wdrop .time 0
  else
    let u := s.setHo n { p with queue := p.queue ++ [(t.toNs : Int) * uNs] }
    if p.queue.isEmpty && !(s.hoMode n == 2 && p.base.isSome) then u.hoJudge n else u

/-- R99: pin n's next target t is taken; in MODE 2 the next period follows. The target that so reaches the head is judged. -/
def hoTaken (s : State) (n : Nat) (t : Int × Nat) : State :=
  let p := s.hoOf n
  match s.hoMode n with
  | 1 => (s.setHo n { p with queue := p.queue.tail }).hoJudge n
  | 2 => (s.setHo n { p with queue := if p.base.isNone then p.queue.tail else p.queue
                             base := some (t.1 + (s.hoPeriod n : Nat) * uNs) }).hoJudge n
  | _ => s.setHo n { p with fired := some (t.1 / t.2) }

/-- R97: the launch of an edge from now on; the cycle just over is still its own, since a boundary's command may come before the edge's.
A launch time that has passed already, as a negative TIME_HOn_DLY can make it for a target still ahead, leaves in the present cycle with
no delay (DESIGN CHOICE, log entry 57: the spec names no launch for it). -/
def launchNow (s : State) (l : Int × Nat) : Nat × Nat :=
  let x := s.launch l
  if x.1 + 1 < s.time.frc then (s.time.frc, 0) else x

/-- R564: the generator of pin n has launched an edge: it leaves the ball, or, behind the mux, sets HO_HIDDEN. -/
def hoOut (s : State) (n : Nat) (level : Bool) (f steps : Nat) : State :=
  if s.flag R.PINS_MUX n then s.send (.edge n level f steps) else s.raise R.PINS_STATUS 0

/-- R97, R98: a change of pin n's level at launch time l, to `away` from POL. -/
def hoEdge (s : State) (n : Nat) (l : Int × Nat) (away : Bool) : State :=
  let (f, steps) := s.launchNow l
  let was := (s.hoOf n).away
  let s : State := { s with time := { s.time with frc := max s.time.frc f } }
  let s := s.setHo n { s.hoOf n with away := away }
  if was = away then s
  else s.hoOut n (away != s.flag (R.TIME_HOn_CTRL n) 5) f steps

/-- R97–R99: the edge or pulse of pin n's next target. A pulse ends WIDTH after its start, both counted in local time. -/
def heelOutEdge (s : State) (n : Nat) : State :=
  match (if n < 8 then s.hoNext n else none) with
  | none => s
  | some t =>
    let l := s.hoLaunch n t
    let pulse := s.flag (R.TIME_HOn_CTRL n) 4
    let s := s.hoEdge n l (pulse || !(s.hoOf n).away)
    (s.setHo n { s.hoOf n with pulse := if pulse then some (l.1 + ((s.hoWidth n : Nat) * uNs) * l.2, l.2) else none }).hoTaken n t

/-- R98: the width of a pulse runs out and the pin returns to POL. -/
def heelOutEnd (s : State) (n : Nat) : State :=
  match (if n < 8 then (s.hoOf n).pulse else none) with
  | none => s
  | some l => let s := s.hoEdge n l false; s.setHo n { s.hoOf n with pulse := none }

/-- R98: what the application of group 0 does to pin n: a pin that leaves MODE 2 forgets its series, so that a later MODE 2 starts from
the next queued target (DESIGN CHOICE, log entry 57); MODE 0 returns it to POL; a pin that enters MODE 1 or 2 has its head judged;
and a changed POL turns its level at once. -/
def hoApply (old : State) (s : State) (n : Nat) : State :=
  let was := old.hoMode n
  let now := s.hoMode n
  let p := s.hoOf n
  let level := p.away != old.flag (R.TIME_HOn_CTRL n) 5
  let p := if now = 0 then { p with away := false, pulse := none } else p
  let p := if was = 2 ∧ now ≠ 2 then { p with base := none } else p
  let p := if was = now then p else { p with fired := none }
  let next := p.away != s.flag (R.TIME_HOn_CTRL n) 5
  let s := s.setHo n p
  let s := if level = next then s else s.hoOut n next s.time.frc 0
  if was ≠ now ∧ (now = 1 ∨ now = 2) then s.hoJudge n else s

/-! ## PTP (R79–R81) -/

/-- R80: whether a message of this domain on this port is handled: the port is enabled and the domain agrees. -/
def ptpHeard (s : State) (port domain : Nat) : Bool :=
  s.rxReady port && domain == s.ptpDomain

/-- R80: the slave port named by TIME_PTP_CTRL. -/
def isSlave (s : State) (port : Nat) : Bool := port == s.field R.TIME_PTP_CTRL 21 16

/-- R79: whether a port is a master port. -/
def isMaster (s : State) (port : Nat) : Bool :=
  if port < 32 then s.flag R.TIME_PTP_MASTER_LO port else s.flag R.TIME_PTP_MASTER_HI (port - 32)

/-- A received TS80 in units of 2⁻¹⁶ ns, when valid (R9). -/
def tsTime (t : Ts) : Option Int :=
  if t.ns < 1000000000 then some (((t.sec * 1000000000 + t.ns : Nat) : Int) * uNs) else none

/-- R80: the mean of the last 2^PD_AVG path-delay results, of those there are; 0 before the first. -/
def pathDelay (s : State) : Int :=
  let l := s.time.ptp.delays.take (2 ^ min 7 (s.field R.TIME_CTRL 11 8))
  if l.isEmpty then 0 else l.foldl (· + ·) 0 / (l.length : Int)

def setPtp (s : State) (p : Ptp) : State := { s with time := { s.time with ptp := p } }

/-- R80: TIME_PTP_MPD shows the mean path delay in 2⁻⁸ ns. -/
def showDelay (s : State) : State := s.setReg R.TIME_PTP_MPD (i32 (s.pathDelay / 256))

/-- A path-delay result enters the mean. -/
def addDelay (s : State) (d : Int) : State :=
  (s.setPtp { s.time.ptp with delays := (d :: s.time.ptp.delays).take 128 }).showDelay

/-- R80: a Sync with its origin time gives a measurement e = t1 + correction + meanPathDelay − t2, truncated to nanoseconds. -/
def syncMeasured (s : State) (t1c t2 : Int) : State :=
  let s := s.setPtp { s.time.ptp with lastSync := some (t1c, t2) }
  if s.servoSrc = 1 then s.measure ((t1c + s.pathDelay - t2) / uNs) else s

/-- R80: a Sync on the slave port. One whose TS80 is invalid is discarded (R9); TIME has no counter of malformed frames (log entry 58). -/
def ptpSync (s : State) (port phase seq domain : Nat) (twoStep : Bool) (t1 : Ts) (corr : Int) : State :=
  if !(s.ptpHeard port domain && s.isSlave port) then s
  else
    let t2 := s.rxStamp port phase
    match tsTime t1 with
    | none => s
    | some t => if twoStep then s.setPtp { s.time.ptp with waiting := some (seq, t2, corr) } else s.syncMeasured (t + corr) t2

/-- R9: the timestamp that a PTP message carries is no TS80. -/
def ptpMalformed : PtpMsg → Bool
  | .followUp _ t _ | .delayReq _ _ t | .delayResp _ t _ | .pdelayReq _ _ t | .pdelayResp _ t _ _ | .pdelayRespFollowUp _ t _ | .announce _ t =>
    (tsTime t).isNone

/-- R80: the other PTP messages. Requests are answered with their stamps; responses give path-delay results. One whose TS80 is invalid is
discarded (R9); TIME has no counter of malformed frames (log entry 58). -/
def ptpMessage (s : State) (port phase domain : Nat) (msg : PtpMsg) : State :=
  if !s.ptpHeard port domain || ptpMalformed msg then s
  else
    let p := s.time.ptp
    let t := s.rxStamp port phase
    let p2p := s.flag R.TIME_PTP_CTRL 14
    match msg with
    | .followUp seq t1 corr =>
      (match p.waiting, tsTime t1 with
       | some (q, t2, c), some t1 => if q = seq && s.isSlave port then (s.setPtp { p with waiting := none }).syncMeasured (t1 + c + corr) t2 else s
       | _, _ => s)
    | .delayReq seq clock _ => if s.isMaster port && !p2p then s.ptpSend port 9 seq t clock else s
    | .delayResp seq t4 corr =>
      (match (Sparse.get (0, 0) p.reqSent port), tsTime t4, p.lastSync with
       | (q, t3), some t4, some (t1c, t2) =>
         if q = seq && s.isSlave port && !p2p && p.reqSent.any (fun e => e.1 == port)
         then (s.setPtp { p with reqSent := Sparse.erase p.reqSent port }).addDelay (((t2 - t1c) + (t4 - corr - t3)) / 2) else s
       | _, _, _ => s)
    | .pdelayReq seq clock _ =>
      if p2p then s.ptpSend port 3 seq t clock else s
    | .pdelayResp seq t2 corr twoStep =>
      (match Sparse.get (0, 0) p.reqSent port, tsTime t2 with
       | (q, t1), some t2 =>
         if q = seq && s.isSlave port && p2p && p.reqSent.any (fun e => e.1 == port) then
           (if twoStep then s.setPtp { p with respWait := Sparse.put (0, 0, 0, 0) p.respWait port (seq, t, t2, corr) }
            else (s.setPtp { p with reqSent := Sparse.erase p.reqSent port }).addDelay ((t - t1 - corr) / 2))
         else s
       | _, _ => s)
    | .pdelayRespFollowUp seq t3 corr =>
      (match Sparse.get (0, 0) p.reqSent port, Sparse.get (0, 0, 0, 0) p.respWait port, tsTime t3 with
       | (q, t1), (q2, t4, t2, c), some t3 =>
         if q = seq && q2 = seq && s.isSlave port && p2p && p.respWait.any (fun e => e.1 == port) then
           (s.setPtp { p with reqSent := Sparse.erase p.reqSent port, respWait := Sparse.erase p.respWait port }).addDelay
             (((t4 - t1) - (t3 - t2) - c - corr) / 2)
         else s
       | _, _, _ => s)
    | .announce o _ => (match o with
      | some z => s.setPtp { p with smOffset := some z }
      | none => s)

/-- R79: a master port sends a one-step Sync, LOG_SYNC after its last; it carries its own transmit stamp, taken as it leaves. -/
def ptpSyncOut (s : State) (port : Nat) : State :=
  if port < 37 && s.isMaster port && s.flag (R.MACn_CTRL port) 0 then
    let s := s.afterInterval (Sparse.get 0 s.time.ptp.syncAt port) (intervalCycles s.logSync)
    let p := s.time.ptp
    (s.setPtp { p with syncSeq := (p.syncSeq + 1) % 65536, syncAt := Sparse.put 0 p.syncAt port (s.time.frc + 1) }).ptpSend port 0 p.syncSeq 0 0
  else s

/-- R80: Delay_Req on the slave port, or Pdelay_Req on an enabled port, LOG_DELAY after the last. A request still in flight is given up. -/
def delayReq (s : State) (port : Nat) : State :=
  let p2p := s.flag R.TIME_PTP_CTRL 14
  if port < 37 && s.flag (R.MACn_CTRL port) 0 && (p2p || s.isSlave port) then
    let s := s.afterInterval (Sparse.get 0 s.time.ptp.reqAt port) (intervalCycles s.logDelay)
    let p := s.time.ptp
    (s.setPtp { p with seq := (p.seq + 1) % 65536, reqAt := Sparse.put 0 p.reqAt port (s.time.frc + 1)
                       reqSent := Sparse.erase p.reqSent port }).ptpSend port (if p2p then 2 else 1) p.seq 0 0
  else s

/-- R79–R81, R85, R86: a PTP message leaves port n. A Sync carries its transmit stamp; a request's stamp is kept for its answer, unless it
is lost; a Pdelay_Resp whose stamp is not lost is followed by its Follow_Up. -/
def ptpLeaves (s : State) (n kind seq : Nat) (stamp : Int) (clock : Nat) : State :=
  let (v, s) := s.txPhase n
  let tx := s.txStamp n v
  let said (s : State) (t : Int) : State := if s.flag (R.MACn_CTRL n) 12 then s else s.send (.ptp n kind seq t clock)
  match kind with
  | 0 => said s tx
  | 1 | 2 =>
    let (kept, s) := (said s tx).stampOut n 0x8000 true tx
    let s := if kept then s.setPtp { s.time.ptp with reqSent := Sparse.put (0, 0) s.time.ptp.reqSent n (seq, tx) } else s
    s.drainPtp n
  | 3 =>
    let (kept, s) := (said s stamp).stampOut n 0x8001 true tx
    (if kept then s.ptpSend n 10 seq tx clock else s).drainPtp n
  | _ => said s stamp

/-! ## References and timecode (R88–R91) -/

/-- A local time in a register triple: nanoseconds, seconds low and high. -/
def setTs80 (s : State) (ns lo hi : Nat) (t : Int) : State :=
  let v := ts80Of t
  ((s.setReg ns (w32 v.ns)).setReg lo (w32 v.sec)).setReg hi (w32 (v.sec / 2 ^ 32))

/-- R88: the glitch filter passes a level that holds for FILT cycles of CLK_PERI, 8 of CLK_ENGINE each, at least (DESIGN CHOICE, log
entry 59). Answers whether the filtered level changes with an edge after which the line holds for `held` CLK_ENGINE cycles; the edge that
ends a glitch changes nothing. -/
def ppsFilter (s : State) (rising : Bool) (held : Nat) : Bool × State :=
  let ends := s.time.ppsGlitch == some rising
  let short := decide (held < 8 * s.field R.TIME_PPS_CTRL 15 8)
  (!ends && !short, { s with time := { s.time with ppsGlitch := if !ends && short then some (!rising) else none } })

/-- R88: an edge of the 1PPS input. An active one that passes the filter is captured; the filter's delay is removed, so the capture is the
edge's own time. How e is brought to whole nanoseconds is the model's choice: rounded down (DESIGN CHOICE, log entry 59). -/
def ppsEdge (s : State) (rising : Bool) (held : Nat) : State :=
  let (passes, s) := s.ppsFilter rising held
  if passes && s.flag R.TIME_PPS_CTRL 0 && rising == s.flag R.TIME_PPS_CTRL 4 then
    let t := s.lt
    let s := s.setTs80 R.TIME_PPS_CAP_NS R.TIME_PPS_CAP_SEC_LO R.TIME_PPS_CAP_SEC_HI t
    let s : State := { s with time := { s.time with ppsFrc := s.time.frc, ppsGap := false } }
    let e := ((t + uSec / 2) / uSec * uSec - t) / uNs
    if s.servoSrc = 2 || (s.servoSrc == 3 && s.time.servo != .locked && !s.time.refGap) then s.measure e else s
  else s

/-- R88: 1.1 s without a captured edge. -/
def ppsMiss (s : State) : State :=
  if s.flag R.TIME_PPS_CTRL 0 && !s.time.ppsGap then
    let s : State := { s with time := { s.time with frc := max s.time.frc (s.time.ppsFrc + 1375000000), ppsGap := true } }
    s.raise R.TIME_STATUS 8
  else s

/-- R89: the phase of a 10 MHz edge now: the nearest point of the 100 ns grid of local time minus local time, 2⁻¹⁶ ns. -/
def refPhase (s : State) : Int := (s.lt + 50 * uNs) / (100 * uNs) * (100 * uNs) - s.lt

/-- R89, R75: a rising edge of the 10 MHz input; in LOCKED under SRC 3 it gives a measurement when 1 ms has passed since the last. How the
phase is brought to whole nanoseconds for e is the model's choice: rounded down (DESIGN CHOICE, log entry 59). -/
def refMeasure (s : State) : State :=
  if s.flag R.TIME_REF10M_CTRL 0 then
    let ph := s.refPhase
    let s := s.setReg R.TIME_REF10M_PHASE (i32 (ph / 256))
    let s : State := { s with time := { s.time with refGap := false, refEdge := s.time.frc } }
    let due := match s.time.refFrc with
      | none => true
      | some f => decide (f + 1250000 ≤ s.time.frc)
    if s.servoSrc = 3 && s.time.servo == .locked && due then
      (({ s with time := { s.time with refFrc := some s.time.frc } } : State)).measure (ph / uNs)
    else s
  else s

/-- R89: no edge for 10 µs, 12,500 cycles. -/
def refMiss (s : State) : State :=
  if s.flag R.TIME_REF10M_CTRL 0 && !s.time.refGap then
    let s : State := { s with time := { s.time with frc := max s.time.frc (s.time.refEdge + 12500), refGap := true } }
    s.raise R.TIME_STATUS 9
  else s

/-- R78: no measurement accepted for TIME_HOLDOVER_MS while ACQUIRE or LOCKED; leaving LOCKED sets LOCK_LOST. -/
def holdover (s : State) : State :=
  if s.time.servo = .acquire ∨ s.time.servo = .locked then
    let due := s.time.measFrc + 1250000 * atLeast1 (s.field R.TIME_HOLDOVER_MS 15 0)
    let s : State := { s with time := { s.time with frc := max s.time.frc due } }
    let s := if s.time.servo = .locked then s.raise R.TIME_STATUS 1 else s
    let s := s.setRate s.time.integ
    let s : State := { s with time := { s.time with servo := .holdover } }
    s.raise R.TIME_STATUS 2
  else s

/-- R90: a valid LTC frame, whose bit 0 began `ago` CLK_ENGINE cycles before now. The frame period is the time since the frame before, within
those of 30 and 24 frames per second (DESIGN CHOICE, log entry 59). -/
def ltcIn (s : State) (tc ub : Word) (ago : Nat) : State :=
  if s.flag R.TIME_LTCI_CTRL 0 then
    let s := (s.setReg R.TIME_LTCI_TC tc).setReg R.TIME_LTCI_UB ub
    let s : State := { s with time := { s.time with
      ltcFrc := s.time.frc
      ltcPeriod := clampNat 41666667 52083333 (s.time.frc - s.time.ltcFrc) } }
    s.setTs80 R.TIME_LTCI_TS_NS R.TIME_LTCI_TS_SEC_LO R.TIME_LTCI_TS_SEC_HI (s.ltThen (s.time.frc - ago))
  else s

/-- R90: two frame periods without a valid sync word. -/
def ltcLost (s : State) : State :=
  if s.flag R.TIME_LTCI_CTRL 0 then
    let s : State := { s with time := { s.time with frc := max s.time.frc (s.time.ltcFrc + 2 * s.time.ltcPeriod) } }
    s.raise R.TIME_STATUS 10
  else s

/-- Two BCD digits. -/
def bcd (n : Nat) : Nat := n / 10 % 10 * 16 + n % 10

/-- R91: the time address of frame k of the day's grid at a whole frame rate, `zone` seconds from local time. -/
def ltcAddress (rate k : Nat) (zone : Int) : Word :=
  let sec := (((k / rate : Nat) : Int) + zone) % 86400 |>.toNat
  w32 (bcd (sec / 3600) * 2 ^ 24 + bcd (sec / 60 % 60) * 2 ^ 16 + bcd (sec % 60) * 256 + bcd (k % rate))

/-- R91: the LTC frame rate as a fraction. -/
def ltcRate (s : State) : Nat × Nat := match s.field R.TIME_LTCO_CTRL 6 4 with
  | 0 => (24, 1)
  | 1 => (25, 1)
  | 2 => (30000, 1001)
  | 3 => (30000, 1001)
  | _ => (30, 1)

/-- R91: the index on the ST 2059-1 grid of the LTC frame that starts next: its instant is now or later, and it is not the one last sent. -/
def ltcNext (s : State) : Nat :=
  let (num, den) := s.ltcRate
  let k := (-(-(s.lt * num) / (den * uSec))).toNat
  if s.time.ltcK = some k then k + 1 else k

/-- R91: the seconds added to UTC: TIME_LTCO_TZ, or the received metadata's when USE_SM = 1 (a free value before any). -/
def ltcZone (s : State) : Int × State :=
  if s.flag R.TIME_LTCO_CTRL 8 then
    match s.time.ptp.smOffset with
    | some z => (z, s)
    | none => let (v, s) := s.fresh; ((v : Int), s)
  else ((s.reg R.TIME_LTCO_TZ).toInt, s)

/-- R91: the LTC output starts its next frame, at the frame's instant on the grid. -/
def ltcOut (s : State) : State :=
  if s.flag R.TIME_LTCO_CTRL 0 then
    let k := s.ltcNext
    let (num, den) := s.ltcRate
    let s := s.waitUntil (instantUp den num k)
    let s : State := { s with time := { s.time with ltcK := some k } }
    let (z, s) := s.ltcZone
    let zone := z - (s.field R.TIME_UTC_OFFSET 15 0 : Nat)
    let tod := (((k * den * 1000000000 / num : Nat) : Int) + zone * 1000000000) % (86400 * 1000000000) |>.toNat
    let tc := match s.field R.TIME_LTCO_CTRL 6 4 with
      | 0 => ltcAddress 24 k zone
      | 1 => ltcAddress 25 k zone
      | 2 => Config.ltcTimeAddress tod true
      | 3 => Config.ltcTimeAddress tod false
      | _ => ltcAddress 30 k zone
    s.send (.ltc tc (s.reg R.TIME_LTCO_UB))
  else s

end State

/-! ## Meanings -/

def execTimeMeasWrite (e : Word) (s : State) : Host.Outcome State Fault Refusal := onMain s (·.timeMeas e)

def execPtpSyncRx (port phase seq domain : Nat) (twoStep : Bool) (t1 : Ts) (correction : Int) (s : State) :
    Host.Outcome State Fault Refusal := onMain s (·.ptpSync port phase seq domain twoStep t1 correction)

def execPtpMessageRx (port phase domain : Nat) (msg : PtpMsg) (s : State) : Host.Outcome State Fault Refusal :=
  onMain s (·.ptpMessage port phase domain msg)

def execPtpSyncTx (port : Nat) (s : State) : Host.Outcome State Fault Refusal := onMain s (·.ptpSyncOut port)

def execDelayReqSend (port : Nat) (s : State) : Host.Outcome State Fault Refusal := onMain s (·.delayReq port)

def execPpsCapture (edge : PpsEdge) (s : State) : Host.Outcome State Fault Refusal := onMain s (·.ppsEdge edge.rising edge.held)

def execPpsMissing (s : State) : Host.Outcome State Fault Refusal := onMain s (·.ppsMiss)

def execRef10mMeasure (s : State) : Host.Outcome State Fault Refusal := onMain s (·.refMeasure)

def execRef10mMissing (s : State) : Host.Outcome State Fault Refusal := onMain s (·.refMiss)

def execHoldoverTimeout (s : State) : Host.Outcome State Fault Refusal := onMain s (·.holdover)

def execTimeRateWrite (rate : BitVec 40) (s : State) : Host.Outcome State Fault Refusal :=
  onMain s (fun s => State.timeRate { s with latch := Sparse.put 0 s.latch R.TIME_RATE_LO (rate.truncate 32) } rate)

def execTimeStepWrite (step : Word) (s : State) : Host.Outcome State Fault Refusal := onMain s (·.timeStep step)

def execTimeSetWrite (ns secLo secHi : Word) (s : State) : Host.Outcome State Fault Refusal :=
  onMain s (fun s => State.timeSet { s with latch := Sparse.put 0 (Sparse.put 0 s.latch R.TIME_SET_NS ns) R.TIME_SET_SEC_LO secLo } ns secLo secHi)

def execFramePeriodWrite (num den : Word) (s : State) : Host.Outcome State Fault Refusal :=
  onMain s (fun s => State.framePeriod { s with latch := Sparse.put 0 s.latch R.TIME_FRAME_DEN den } num den)

def execEpochAdjWrite (value : Word) (s : State) : Host.Outcome State Fault Refusal := onMain s (·.epochAdj value)

def execLtcFrameRx (tc ub : Word) (ago : Nat) (s : State) : Host.Outcome State Fault Refusal := onMain s (·.ltcIn tc ub ago)

def execLtcLoss (s : State) : Host.Outcome State Fault Refusal := onMain s (·.ltcLost)

def execLtcOutFrame (s : State) : Host.Outcome State Fault Refusal := onMain s (·.ltcOut)

def execTsqPop (s : State) : Host.Outcome State Fault Refusal := onMain s (·.tsqPop)

def execTsqLostPop (s : State) : Host.Outcome State Fault Refusal := onMain s (·.tsqLostPop)

def execHoTargetPush (pin : Nat) (ns secLo secHi : Word) (s : State) : Host.Outcome State Fault Refusal :=
  onMain s (fun s => State.hoPush { s with latch := Sparse.put 0 (Sparse.put 0 s.latch (R.TIME_HOn_T_NS pin) ns) (R.TIME_HOn_T_SEC_LO pin) secLo } pin ns secLo secHi)

end Sys2Proof.Machine
end

