-- ==== Sys2Proof/Machine/PlanFmt.lean ====
section
/-! DEFINITION. Drive plan layouts (R205–R220): the layout and tile entries of PACK_PLAN's table, the subframe times of R212,
the fit of R216, and the validation of R220. -/

namespace Sys2Proof.Machine

/-- A layout entry (R219). -/
structure Layout where
  w : Nat
  h : Nat
  l : Nat
  k : Nat
  p : Nat
  c : Nat
  g : Nat
  slog : Nat
  det : Nat
  precharge : Bool
  gclk : Nat
  dclk : Nat
  lat : Nat
  blank : Nat
  pre : Nat
  sniff : Nat
  order : List Nat
  phase : List Nat
  chmap : List Nat
deriving DecidableEq, Repr

/-- The byte of a table at offset o; 0 beyond its end. -/
def byteAt (t : Bytes) (o : Nat) : Nat := (t.getD o 0).toNat

/-- R219: layout entry i of a table. -/
def Layout.read (t : Bytes) (i : Nat) : Layout :=
  let e := slice t (256 * i) 256
  { w := leAt e 0 2, h := leAt e 2 2, l := byteAt e 4, k := byteAt e 5, p := byteAt e 6, c := byteAt e 7, g := byteAt e 8
    slog := byteAt e 9, det := byteAt e 10, precharge := byteAt e 11 % 2 == 1
    gclk := leAt e 12 2, dclk := leAt e 14 2, lat := leAt e 16 2, blank := leAt e 18 2, pre := leAt e 20 2, sniff := leAt e 22 2
    order := (slice e 0x20 64).map (·.toNat), phase := (slice e 0x60 48).map (·.toNat), chmap := (slice e 0x90 48).map (·.toNat) }

namespace Layout

/-- R205: row groups, and chains per row group. -/
def rg (y : Layout) : Nat := y.h / y.l
def kg (y : Layout) : Nat := y.k / y.rg

/-- R211: bytes of a chunk. -/
def cb (y : Layout) : Nat := y.p * y.c / 8

/-- R210: PLAN_LEN. -/
def planLen (y : Layout) : Nat := 256 + y.l * y.k * y.g * y.cb

/-- R210: PHMAX. -/
def phMax (y : Layout) : Nat := (y.phase.take y.c).foldl max 0

/-- R209: S. -/
def subframes (y : Layout) : Nat := 2 ^ y.slog

/-- R209: on-time of one showing of plane b, in ticks. -/
def onTime (y : Layout) (b : Nat) : Nat := (if y.slog ≤ b then 2 ^ (b - y.slog) else 2 ^ b) * y.gclk

/-- R212: T_SHIFT. -/
def shiftTime (y : Layout) : Nat := y.p * y.c * y.dclk

/-- R212: Δ(b). -/
def display (y : Layout) (b : Nat) : Nat := y.lat + max (y.onTime b + y.phMax) y.shiftTime

/-- R212: X, the time a sniff pulse adds. -/
def sniffTime (y : Layout) : Nat := 2 * y.shiftTime + y.lat + y.sniff + y.phMax

/-- R212: a line slot of subframe k, without its sniff term. -/
def lineTime (y : Layout) (k : Nat) : Nat :=
  y.blank + (if y.precharge then y.pre else 0)
    + (((List.range y.g).filter (fun b => y.slog ≤ b)).map y.display).sum + (if k < y.slog then y.display k else 0)

/-- R212, R223: subframe k, with the sniff term whenever SNIFF_TICKS ≠ 0 (slot j is sniffed in subframe j mod S). -/
def subTime (y : Layout) (k : Nat) : Nat :=
  let sniffed := ((List.range y.l).filter (fun j => j % y.subframes = k)).length
  y.shiftTime + y.l * y.lineTime k + (if y.sniff = 0 then 0 else sniffed * y.sniffTime)

/-- R216: T_SUB_MAX. -/
def subMax (y : Layout) : Nat := ((List.range y.subframes).map y.subTime).foldl max 0

/-- R216: the limit on T_SUB_MAX under a frame period of num/den s; a negative limit is 0. -/
def subLimit (y : Layout) (num den : Nat) : Nat := num * 1250000000 / (den * y.subframes) - 125

/-- R216: the fit. -/
def fits (y : Layout) (num den : Nat) : Bool := decide (y.subMax ≤ y.subLimit num den)

/-- A list whose first n entries are a permutation of 0 to n − 1. -/
def permOf (l : List Nat) (n : Nat) : Bool := (List.range n).all (fun v => (l.take n).contains v)

/-- R220: the first failure of a layout against every frame period that may be live. -/
def check (y : Layout) (periods : List (Nat × Nat)) : Option Nat :=
  if y.w = 0 ∨ 16384 < y.w ∨ y.h = 0 ∨ 16384 < y.h ∨ y.l = 0 ∨ 64 < y.l ∨ y.h % y.l ≠ 0 then some 1
  else if 32 < y.k ∨ y.k % y.rg ≠ 0 then some 2
  else if y.p = 0 ∨ 64 < y.p ∨ (y.c ≠ 16 ∧ y.c ≠ 24 ∧ y.c ≠ 48) then some 3
  else if y.g < 8 ∨ 16 < y.g ∨ 5 < y.slog ∨ y.g ≤ y.det then some 4
  else if y.kg * y.p * y.c < 3 * y.w then some 5
  else if 16384 < y.g * ((3 * y.w + 7) / 8) then some 6
  else if y.gclk = 0 ∨ y.dclk = 0 ∨ y.lat = 0 ∨ y.blank < 25 ∨ (y.precharge ∧ y.pre = 0) then some 7
  else if !permOf y.order y.l then some 8
  else if !permOf y.chmap y.c then some 9
  else if periods.any (fun p => !y.fits p.1 p.2) then some 10
  else none

/-- R206, R211: the slot of row group r that is wired to bit i of the chunk of chain r × KG + k. -/
def slotAt (y : Layout) (k i : Nat) : Nat :=
  let chip := y.p - 1 - i / y.c
  let ch := y.c - 1 - i % y.c
  k * (y.p * y.c) + chip * y.c + (y.chmap.take y.c).findIdx (· == ch)

end Layout

/-- R219: the tile entry of a tile, behind `layouts` layout entries: LAYOUT, DIAG, LED_BASE. -/
def planTile (t : Bytes) (layouts tile : Nat) : Nat × Bool × Nat :=
  let e := slice t (256 * layouts + 16 * tile) 16
  (byteAt e 0, byteAt e 1 % 2 == 1, leAt e 4 4)

/-- R220: the first failure in PACK_PLAN's table: code and index. -/
def planTableCheck (t : Bytes) (layouts : Nat) (periods : List (Nat × Nat)) : Option (Nat × Nat) :=
  match (List.range layouts).findSome? (fun i => ((Layout.read t i).check periods).map (fun c => (c, i))) with
  | some e => some e
  | none => ((List.range 32768).find? (fun n => let y := (planTile t layouts n).1; decide (layouts ≤ y) && y != 255)).map (fun n => (11, n))

end Sys2Proof.Machine
end

