-- ==== Sys2Proof/Machine/KennelGraph.lean ====
section
/-! DEFINITION. The graph image (R140–R145): reading it from DRAM, its validation with the codes of R144 in ascending order, the
surfaces of R167 and R168, and the sizes of records (R146, R147). -/

namespace Sys2Proof.Machine

/-- R165: inputs and outputs of an operation; none for an unknown code. -/
def opShape (op : Nat) : Option (Nat × Nat) :=
  match op with
  | 0x01 => some (0, 1)
  | 0x02 => some (1, 0)
  | 0x0B => some (2, 1)
  | 0x0C => some (2, 1)
  | 0x0E => some (0, 1)
  | 0x14 => some (1, 2)
  | _ => if 1 ≤ op ∧ op ≤ 0x14 then some (1, 1) else none

/-- R167, R168: a surface in DRAM. -/
structure Surface where
  base : Nat
  stride : Nat
  fmt8 : Bool
  ncomp : Nat
deriving DecidableEq, Repr

/-- R167: bytes of a pixel. -/
def Surface.pixelBytes (u : Surface) : Nat :=
  (match u.ncomp with
   | 1 => 1
   | 2 => 2
   | _ => 4) * (if u.fmt8 then 1 else 2)

/-- R167: the address of component c of pixel (x, y). -/
def Surface.addr (u : Surface) (x y c : Nat) : Nat :=
  u.base + y * u.stride + x * u.pixelBytes + c * (if u.fmt8 then 1 else 2)

namespace Node

/-- A little-endian operation field at descriptor offset o (R142). -/
def f (n : Node) (o k : Nat) : Nat := leAt n.opf (o - 0x18) k

/-- R167: the surface of FETCH_RECT and STORE_RECT. -/
def surface (n : Node) : Surface :=
  { base := n.f 0x18 8, stride := n.f 0x20 4, fmt8 := n.f 0x2C 1 = 1, ncomp := n.f 0x2D 1 }

/-- The node's table within the table image. -/
def table (n : Node) (img : Bytes) : Bytes := (img.drop n.tabOff).take n.tabLen

/-- The inputs and outputs the operation uses. -/
def ins (n : Node) : List Nat := match opShape n.op with
  | some (0, _) => []
  | some (1, _) => [n.in0]
  | some _ => [n.in0, n.in1]
  | none => []
def outs (n : Node) : List Nat := match opShape n.op with
  | some (_, 0) => []
  | some (_, 1) => [n.out0]
  | some _ => [n.out0, n.out1]
  | none => []

end Node

/-- R143: REC_ELEMS: 0 acts as 64, above 16,384 as 16,384. -/
def FifoDesc.elems (d : FifoDesc) : Nat := if d.recElems = 0 then 64 else min d.recElems 16384

/-- R143: WIN: 2 to 8; other values act as 8. -/
def FifoDesc.winLines (d : FifoDesc) : Nat := if 2 ≤ d.win ∧ d.win ≤ 8 then d.win else 8

/-- R143: TARGET; 4–255 act as 0. -/
def FifoDesc.sinkTarget (d : FifoDesc) : Nat := if d.target < 4 then d.target else 0

/-- R170: the 8-tap position of output i: base, and the phase. -/
def scalePos (n : Node) (i : Nat) : Int × Nat :=
  let p := n.f 0x1C 4 + i * n.f 0x20 4
  ((p / 65536 : Nat) - 3, p / 1024 % 64)

/-! ## Sizes of records -/

/-- R146: lines of a record with this many payload bytes. -/
def recLinesOf (payload : Nat) : Nat := (16 + payload + 63) / 64

/-- What the records of a FIFO can hold at most: pixels of a canvas-space and of a tile-space record, components, slots, bytes. -/
structure RecBound where
  pix : Nat := 0
  tile : Nat := 0
  comps : Nat := 0
  slots : Nat := 0
  other : Nat := 0
deriving DecidableEq, Repr

/-- Pixels of the largest PIXELS record, and bytes of the largest payload. -/
def RecBound.pixels (b : RecBound) : Nat := max b.pix b.tile
def RecBound.bytes (b : RecBound) : Nat := max (2 * b.pixels * b.comps) (max b.slots b.other)

/-- R169: X0, Y0, W and H of the entries of a PLACE node's map. -/
def placeEntries (n : Node) (t : Bytes) : List (Nat × Nat × Nat × Nat) :=
  (List.range (n.f 0x18 2)).map (fun j => (leAt t (16 * j + 2) 2, leAt t (16 * j + 4) 2, leAt t (16 * j + 6) 2, leAt t (16 * j + 8) 2))

/-- R144 code 0x09: what a node's output records hold at most, from its inputs' and its output FIFO's REC_ELEMS. -/
def outBound (n : Node) (t : Bytes) (i : RecBound) (elems : Nat) : RecBound :=
  match n.op with
  | 0x01 => { pix := min elems (n.f 0x28 2), comps := n.f 0x2D 1 }
  | 0x03 => { i with pix := 0, tile := max i.tile (min i.pix (((placeEntries n t).map (fun e => e.2.2.1)).foldl max 0)) }
  | 0x04 => if n.f 0x18 1 = 0 then { i with pix := if i.pix = 0 then 0 else n.f 0x24 2, tile := if i.tile = 0 then 0 else n.f 0x24 2 } else i
  | 0x0E => { slots := n.f 0x1C 2 }
  | 0x0F => { slots := i.slots, other := max i.other (min 16384 (n.f 0x18 1 * ((3 * i.pixels + 7) / 8))) }
  | 0x10 =>
    let rows := (List.range (n.f 0x18 1)).map (fun j => let y := Layout.read t j; y.kg * y.g * y.cb)
    { i with other := min 16384 (max 256 (rows.foldl max 0)) }
  | 0x11 => { i with slots := 0, other := max i.other (if i.slots = 0 then 0 else 1 + max i.slots (n.f 0x1A 2)) }
  | 0x12 => { slots := i.slots, other := max i.other 2040 }
  | _ => i

/-- R169: the lines of the records that PLACE makes of a full input record at column x of row y; `ents`: X0, Y0, W and H. -/
def placeLines (ents : List (Nat × Nat × Nat × Nat)) (i : RecBound) (x y : Nat) : Nat :=
  (ents.map (fun (x0, y0, w, h) =>
    let cut := min (x + i.pix) (x0 + w) - max x x0
    if y < y0 ∨ y0 + h ≤ y ∨ cut = 0 then 0 else recLinesOf (2 * cut * i.comps))).sum

/-- R149, R169: the lines of the largest output of one grain: for PLACE over all rows that entries start in and all columns. -/
def grainLines (n : Node) (t : Bytes) (i : RecBound) (elems : Nat) : Nat :=
  let one := recLinesOf (outBound n t i elems).bytes
  match n.op with
  | 0x03 =>
    let ents := placeEntries n t
    (ents.map (fun e => ((List.range 65536).map (fun x => placeLines ents i x e.2.1)).foldl max 0)).foldl max one
  | 0x04 => if n.f 0x18 1 = 0 then one else
      let need (j : Nat) : Nat := (clampInt 0 ((n.f 0x26 2 : Nat) - 1) ((scalePos n j).1 + 7)).toNat
      one * ((List.range (n.f 0x26 2)).map (fun k => ((List.range (n.f 0x24 2)).filter (fun j => need j == k)).length)).foldl max 1
  | 0x10 =>
    let row (j : Nat) : Nat :=
      let y := Layout.read t j
      let b := y.kg * y.g * y.cb
      recLinesOf 256 + b / 16384 * recLinesOf 16384 + (if b % 16384 = 0 then 0 else recLinesOf (b % 16384))
    ((List.range (n.f 0x18 1)).map row).foldl max (recLinesOf { i with other := 0 }.bytes)
  | _ => one

/-! ## Validation (R144) -/

/-- R144 code 0x0D: a node whose operation fields are invalid. -/
def nodeFieldsBad (n : Node) (t : Bytes) (fifos : List FifoDesc) (periods : List (Nat × Nat)) : Bool :=
  let surf : Bool := n.f 0x2C 1 > 1 || n.f 0x2D 1 == 0 || n.f 0x2D 1 > 4 || n.f 0x18 8 % 64 != 0 || n.f 0x20 4 % 64 != 0
  match n.op with
  | 0x01 => surf
  | 0x02 => surf
  | 0x03 =>
    let c := n.f 0x18 2
    decide (32768 < c) || (List.range c).any (fun i => leAt t (16 * i + 6) 2 == 0 || leAt t (16 * i + 8) 2 == 0)
  | 0x04 =>
    let d := n.f 0x18 1
    n.f 0x24 2 == 0 || n.f 0x26 2 == 0 || decide (1 < d) || (d == 0 && decide (16384 < n.f 0x24 2))
      || (d == 1 && !(match fifos[n.in0]? with
        | some x => x.window && x.winLines == 8
        | none => false))
  | 0x05 => decide (1 < n.f 0x18 1)
  | 0x06 => decide (1 < n.f 0x18 1)
  | 0x07 => decide (1 < n.f 0x18 1)
  | 0x09 => decide (2 < n.f 0x18 1) || decide (n.f 0x19 1 < 8) || decide (16 < n.f 0x19 1)
  | 0x0B => decide (3 < n.f 0x18 1)
  | 0x0C => decide (1 < n.f 0x18 1)
  | 0x0E => n.f 0x18 2 == 0 || decide (4096 < n.f 0x18 2) || n.f 0x1C 2 == 0 || decide (512 < n.f 0x1C 2)
  | 0x0F => decide (n.f 0x18 1 < 8) || decide (16 < n.f 0x18 1)
  | 0x10 => n.f 0x18 1 == 0 || decide (16 < n.f 0x18 1) || (planTableCheck t (n.f 0x18 1) periods).isSome
  | 0x11 => decide (512 < n.f 0x1A 2)
  | 0x12 => decide (n.f 0x18 1 < 8) || decide (16 < n.f 0x18 1)
  | 0x13 => decide (64 < n.f 0x18 1) || (List.range (n.f 0x18 1)).any (fun i => decide (4096 ≤ leAt t (12 * i + 10) 2))
  | _ => false

/-- R144 code 0x0A: the table bytes an operation needs. -/
def tableNeed (n : Node) : Nat :=
  match n.op with
  | 0x03 => if n.f 0x18 2 ≤ 32768 then 16 * n.f 0x18 2 else 0
  | 0x04 => 1024
  | 0x05 => if n.f 0x18 1 = 1 then 24 else 0
  | 0x06 => if n.f 0x18 1 = 1 then 8 else 0
  | 0x07 => 8194
  | 0x10 => let y := n.f 0x18 1; if 1 ≤ y ∧ y ≤ 16 then 256 * y + 524288 else 0
  | 0x13 => if n.f 0x18 1 ≤ 64 then 12 * n.f 0x18 1 else 0
  | _ => 0

/-- R144 code 0x0F, R167, R168: a surface whose extent, as those rules state it, ends in the firmware region. -/
def surfaceHigh (n : Node) : Bool :=
  let u := n.surface
  match n.op with
  | 0x01 =>
    let last : Int := u.base + ((n.f 0x26 2 : Int) + n.f 0x2A 2 - 1) * u.stride + (n.f 0x24 2 + n.f 0x28 2 : Nat) * (u.pixelBytes : Int) - 1
    decide ((State.fwBase : Int) ≤ last)
  | 0x02 => decide ((State.fwBase : Int) ≤ (u.base : Int) + n.f 0x2A 2 * u.stride - 1)
  | _ => false

/-- R144 code 0x07: nodes taken away whose producers are all gone, until none can be; what is left forms a cycle. -/
def peel (prod : Nat → Option Nat) : Nat → List (Nat × Node) → List (Nat × Node) × List Nat
  | 0, l => (l, [])
  | k + 1, l =>
    let left := l.map (·.1)
    let go := l.filter (fun n => n.2.ins.all (fun f => match prod f with
      | some p => !left.contains p
      | none => true))
    if go.isEmpty then (l, [])
    else
      let (rest, ord) := peel prod k (l.filter (fun n => !(go.any (fun g => g.1 == n.1))))
      (rest, go.map (·.1) ++ ord)

/-- R144 code 0x07: from a node that is left, k times to the first of its producers that is left: a node of a cycle, once k is the number
of nodes. -/
def cycleNode (prod : Nat → Option Nat) (left : List (Nat × Node)) : Nat → Nat → Nat
  | 0, i => i
  | k + 1, i => match (left.lookup i).bind (fun n => (n.ins.filterMap prod).find? (fun p => (left.lookup p).isSome)) with
    | some p => cycleNode prod left k p
    | none => i

/-- R144 code 0x07: the lowest node of the cycle met from node i, of n nodes (DESIGN CHOICE, log entry 61: which node is named). -/
def cycleLow (prod : Nat → Option Nat) (left : List (Nat × Node)) (n i : Nat) : Nat :=
  let c := cycleNode prod left n i
  (List.range n).foldl (fun m k => min m (cycleNode prod left k c)) c

/-- Overlap of line ranges, looked for in ascending base: the index of the second FIFO of the first overlapping pair. -/
def firstOverlap : List (Nat × FifoDesc) → Option Nat
  | a :: b :: t => if b.2.base < a.2.base + a.2.lines then some b.1 else firstOverlap (b :: t)
  | _ => none

/-- Insertion by base. -/
def insertFifo (x : Nat × FifoDesc) : List (Nat × FifoDesc) → List (Nat × FifoDesc)
  | [] => [x]
  | y :: t => if x.2.base < y.2.base then x :: y :: t else y :: insertFifo x t

/-- List elements with their indices. -/
def indexed {α : Type} (l : List α) : List (Nat × α) := (List.range l.length).zip l

/-- The checks of R144 on nodes and FIFOs, codes in ascending order. Answers the first failure as (code, index), or the lines
that a grain of each node reserves. A TAB_OFF that is not 64-byte aligned fails with 0x0A, and 0x0E carries no index, 0xFFFF (DESIGN
CHOICE, log entry 61). `raster` is the FIFO the live RASTER_CTRL names, `comps` the canvas's NCOMP. -/
def checkTables (nodes : List Node) (fifos : List FifoDesc) (flows : Nat) (tab : Bytes) (raster comps area room : Nat)
    (periods : List (Nat × Nat)) : Sum (Nat × Nat) (List Nat) :=
  let ns := indexed nodes
  let fs := indexed fifos
  let nf := fifos.length
  let producers (f : Nat) : List Nat := (ns.filter (fun n => n.2.outs.contains f)).flatMap (fun n => (n.2.outs.filter (· == f)).map (fun _ => n.1))
  let nProd (f : Nat) : Nat := (producers f).length + b2n (f == raster)
  let nCons (d : Nat × FifoDesc) : Nat := (ns.map (fun n => (n.2.ins.filter (· == d.1)).length)).sum + b2n d.2.sink
  let prod (f : Nat) : Option Nat := (producers f).head?
  match ns.find? (fun n => (opShape n.2.op).isNone) with
  | some n => .inl (4, n.1)
  | none =>
  match ns.find? (fun n => [n.2.in0, n.2.in1, n.2.out0, n.2.out1].any (fun f => f != 255 && decide (nf ≤ f))
      || (n.2.ins ++ n.2.outs).contains 255) with
  | some n => .inl (5, n.1)
  | none =>
  match fs.find? (fun d => nProd d.1 != 1 || nCons d != 1) with
  | some d => .inl (6, d.1)
  | none =>
  let (left, order) := peel prod nodes.length ns
  match left with
  | n :: _ => .inl (7, cycleLow prod left nodes.length n.1)
  | [] =>
  match fs.find? (fun d => decide (262144 < d.2.lines) || decide (area * 1024 < d.2.base + d.2.lines)) with
  | some d => .inl (8, d.1)
  | none =>
  match firstOverlap ((fs.filter (fun d => d.2.lines != 0)).foldl (fun l d => insertFifo d l) []) with
  | some i => .inl (8, i)
  | none =>
  let start : List (Nat × RecBound) := match fifos[raster]? with
    | some d => [(raster, { pix := d.elems, comps := comps })]
    | none => []
  let into (b : List (Nat × RecBound)) (n : Node) : RecBound := ((n.ins.head?).bind (fun f => b.lookup f)).getD {}
  let elems (n : Node) : Nat := ((fifos[n.out0]?).map FifoDesc.elems).getD 64
  let bounds := order.foldl (fun (b : List (Nat × RecBound)) i =>
    match nodes[i]? with
    | none => b
    | some n => n.outs.foldl (fun c f => (f, outBound n (n.table tab) (into b n) (elems n)) :: c) b) start
  let lines := (List.range nf).map (fun f => recLinesOf ((bounds.lookup f).getD {}).bytes)
  match fs.find? (fun d => decide (d.2.lines < 2 * lines.getD d.1 0)) with
  | some d => .inl (9, d.1)
  | none =>
  match ns.find? (fun n => n.2.tabOff % 64 != 0 || decide (tab.length < n.2.tabOff + n.2.tabLen) || decide (n.2.tabLen < tableNeed n.2)) with
  | some n => .inl (0x0A, n.1)
  | none =>
  match ns.find? (fun n => decide (4096 < n.2.paramBase + n.2.paramCnt)) with
  | some n => .inl (0x0B, n.1)
  | none =>
  match ns.find? (fun n => n.2.ordered && (decide (flows ≤ n.2.flow)
      || ns.any (fun m => m.1 < n.1 && m.2.ordered && m.2.flow == n.2.flow))) with
  | some n => .inl (0x0C, n.1)
  | none =>
  match ns.find? (fun n => nodeFieldsBad n.2 (n.2.table tab) fifos periods) with
  | some n => .inl (0x0D, n.1)
  | none =>
  if room < tab.length then .inl (0x0E, 0xFFFF)
  else match ns.find? (fun n => surfaceHigh n.2) with
    | some n => .inl (0x0F, n.1)
    | none => .inr (nodes.map (fun n => grainLines n (n.table tab) (into bounds n) (elems n)))

namespace State

/-- R142: the node descriptor at a DRAM address. -/
def readNode (s : State) (a : Nat) : Node :=
  let d := s.rdBytes a 64
  let fl := byteAt d 1
  { op := byteAt d 0, prio := fl % 4, ordered := fl / 4 % 2 == 1, flow := byteAt d 2
    engMask := (let m := leAt d 4 2; if m = 0 then 0xFFFF else m)
    in0 := byteAt d 8, in1 := byteAt d 9, out0 := byteAt d 10, out1 := byteAt d 11
    tabOff := leAt d 12 4, tabLen := leAt d 16 4, paramBase := leAt d 20 2, paramCnt := leAt d 22 2, opf := slice d 24 40 }

/-- R143: the FIFO descriptor at a DRAM address. -/
def readFifo (s : State) (a : Nat) : FifoDesc :=
  let d := s.rdBytes a 16
  let fl := byteAt d 10
  { base := leAt d 0 4, lines := leAt d 4 4, recElems := leAt d 8 2, sink := fl / 4 % 2 == 1, window := fl / 2 % 2 == 1
    cut := fl % 2 == 1, win := byteAt d 11, target := byteAt d 12, hwm := leAt d 14 2 }

/-- KNL_FIFO_AREA in 64 KiB units: 0 acts as 1. -/
def fifoAreaOf (w : Word) : Nat := atLeast1 (fld w 7 0)

/-- R216: every frame period that may be live during a new graph's first frame: the pair in effect, one held, and those of a pending copy
of group 0, staged or in an arm. -/
def livePeriods (s : State) : List (Nat × Nat) :=
  let held := match s.time.heldPair with
    | some p => [p]
    | none => []
  let staged := match s.staged.find? (fun g => g.group == 0) with
    | some g => [(fld (Sparse.get (resetOf R.TIME_FRAME_NUM) g.copy R.TIME_FRAME_NUM) 19 0,
                  fld (Sparse.get (resetOf R.TIME_FRAME_DEN) g.copy R.TIME_FRAME_DEN) 19 0)]
    | none => []
  let armed := match s.sheaf.arm.bind (fun x => x.staged.lookup 0) with
    | some c => [(fld (Sparse.get (resetOf R.TIME_FRAME_NUM) c.1 R.TIME_FRAME_NUM) 19 0,
                  fld (Sparse.get (resetOf R.TIME_FRAME_DEN) c.1 R.TIME_FRAME_DEN) 19 0)]
    | none => []
  (s.time.num, s.time.den) :: held ++ staged ++ armed

/-- R140–R144: the image that the staging copies of group 3 name, validated. The header is checked in the order MAGIC and VERSION, length,
region, CRC, counts; a TABLE_LEN that is not a multiple of 64 fails with 0x03 (DESIGN CHOICE, log entry 61: the spec orders no checks, and
names no code for that length). -/
def validateGraph (s : State) : GraphLoad :=
  let base := (s.sh R.KNL_GRAPH_BASE_HI).toNat % 4 * 2 ^ 32 + (s.sh R.KNL_GRAPH_BASE_LO).toNat / 64 * 64
  let len := (s.sh R.KNL_GRAPH_LEN).toNat
  let h := s.rdBytes base 64
  if leAt h 0 4 ≠ 0x4652474B ∨ leAt h 4 2 ≠ 1 then .bad 1 0xFFFF
  else if len = 0 ∨ 17 * 1048576 < len then .bad 3 0xFFFF
  else if fwBase < base + len then .bad 0x0F 0xFFFF
  else if leAt h 0x3C 4 ≠ crc32c (h.take 0x3C ++ [0, 0, 0, 0] ++ s.rdBytes (base + 64) (len - 64)) then .bad 2 0xFFFF
  else
    let nn := leAt h 6 2
    let nf := leAt h 8 2
    let flows := byteAt h 10
    let tlen := leAt h 12 4
    if nn = 0 ∨ 1024 < nn ∨ nf = 0 ∨ 256 < nf ∨ 64 < flows ∨ tlen % 64 ≠ 0 ∨ len ≠ 64 + 64 * nn + 16 * nf + tlen then .bad 3 0xFFFF
    else
      let nodes := (List.range nn).map (fun i => s.readNode (base + 64 + 64 * i))
      let fifos := (List.range nf).map (fun i => s.readFifo (base + 64 + 64 * nn + 16 * i))
      let tab := s.rdBytes (base + 64 + 64 * nn + 16 * nf) tlen
      let area := fifoAreaOf (s.sh R.KNL_FIFO_AREA)
      let used := match s.kennel.graph with
        | some g => g.table.length
        | none => 0
      match checkTables nodes fifos flows tab (s.field R.RASTER_CTRL 15 8) s.canvComps area (16777216 - area * 65536 - used) s.livePeriods with
      | .inl (c, i) => .bad c i
      | .inr need => .good { nodes := nodes, fifos := fifos, flows := flows, gen := w32 (leAt h 0x10 4), table := tab
                             reserve := need, image := s.rdBytes base len }

/-- R220: PLAN_LAYOUT_ERR of a graph that fails with code 0x0D on a PACK_PLAN node: the layout's or tile's code and index. -/
def layoutErrOf (s : State) (node : Nat) : Option (Nat × Nat) :=
  let base := (s.sh R.KNL_GRAPH_BASE_HI).toNat % 4 * 2 ^ 32 + (s.sh R.KNL_GRAPH_BASE_LO).toNat / 64 * 64
  let h := s.rdBytes base 64
  let n := s.readNode (base + 64 + 64 * node)
  let y := n.f 0x18 1
  if n.op = 0x10 ∧ 1 ≤ y ∧ y ≤ 16 then
    planTableCheck (s.rdBytes (base + 64 + 64 * leAt h 6 2 + 16 * leAt h 8 2 + n.tabOff) n.tabLen) y s.livePeriods
  else none

/-- R144: group 3 is strobed: the image is validated and, when it is good, its table copy starts. -/
def strobeGraph (s : State) : State :=
  let g := s.validateGraph
  let s : State := { s with kennel := { s.kennel with next := some g, copied := false } }
  match g with
  | .good _ => s
  | .bad c i =>
    let s := (s.setReg R.KNL_GRAPH_ERR (w32 (i * 65536 + c))).raise R.KNL_STATUS 1
    match (if c = 0x0D then s.layoutErrOf i else none) with
    | some (code, idx) => s.setReg R.PLAN_LAYOUT_ERR (w32 (idx * 65536 + code))
    | none => s

/-- R145: the strobed graph's table image has been copied. -/
def graphCopyDone (s : State) : State :=
  match s.kennel.next with
  | some (.good _) => { s with kennel := { s.kennel with copied := true } }
  | _ => s

end State

end Sys2Proof.Machine
end

