-- ==== Sys2Proof/Machine/KennelOps.lean ====
section
/-! DEFINITION. The operation catalogue (R139, R165–R177, R188, R189, R191, R192, R217, R218, R221–R224, R281, R282, R296): what
one grain makes of its input records. Components are 16-bit values; sums and products are exact; a right shift rounds halves up. -/

namespace Sys2Proof.Machine

/-! ## Pixels of a record -/

/-- R139: saturation to 0 to 0xFFFF. -/
def sat16 (v : Int) : Nat := (clampInt 0 65535 v).toNat

/-- The components of `n` pixels of nc components. -/
def unpackPixels (nc : Nat) : Nat → Bytes → List (List Nat)
  | 0, _ => []
  | n + 1, l => (List.range nc).map (fun c => leAt l (2 * c) 2) :: unpackPixels nc n (l.drop (2 * nc))

/-- The payload of pixels. -/
def packPixels (l : List (List Nat)) : Bytes := l.flatMap (fun p => p.flatMap (fun v => leBytes 2 v))

namespace Rec

def pixels (r : Rec) : List (List Nat) := unpackPixels r.ncomp r.count r.payload

/-- A record with other pixels, of the same number. -/
def setPixels (r : Rec) (l : List (List Nat)) : Rec := { r with payload := packPixels l, count := l.length }

/-- R146: the lines a record occupies. -/
def lines (r : Rec) : Nat := recLinesOf r.payload.length

/-- R146: an EOF record. -/
def eof (seq : Nat) : Rec := { kind := 3, ncomp := 0, count := 0, x := 0, y := 0, tag := 0xFFFFFFFF, seq := seq, payload := [] }

def isEof (r : Rec) : Bool := r.kind == 3

/-- R146: the 16-byte header, little-endian. -/
def header (r : Rec) : Bytes :=
  leBytes 1 r.kind ++ leBytes 1 r.ncomp ++ leBytes 2 r.count ++ leBytes 2 r.x ++ leBytes 2 r.y ++ leBytes 4 r.tag ++ leBytes 4 r.seq

/-- Each pixel through f, which is given its column. -/
def mapPixels (r : Rec) (f : Nat → List Nat → List Nat) : Rec :=
  r.setPixels ((indexed r.pixels).map (fun p => f (r.x + p.1) p.2))

end Rec

/-- Component c of a pixel; 0 where it lacks it. -/
def comp (p : List Nat) (c : Nat) : Nat := p.getD c 0

/-- g′ = g + (g >> 15), and v × g′ rounded (R174, R175). -/
def gain16 (v g : Nat) : Nat := (v * (g + g / 32768) + 32768) / 65536

/-! ## Operations of one record without state -/

/-- R169: entry i of a PLACE table against a canvas record: the tile record it makes, when they meet. -/
def placeEntry (t : Bytes) (i : Nat) (r : Rec) : Option Rec :=
  let e := slice t (16 * i) 16
  let x0 := leAt e 2 2
  let y0 := leAt e 4 2
  let w := leAt e 6 2
  let h := leAt e 8 2
  let o := byteAt e 10
  let a := max r.x x0
  let b := min (r.x + r.count) (x0 + w)
  if r.y < y0 ∨ y0 + h ≤ r.y ∨ b ≤ a then none
  else
    let rot := o % 2 == 1
    let mir := o / 2 % 2 == 1
    let flipX := rot != mir
    let px := (r.pixels.drop (a - r.x)).take (b - a)
    some { r with
      tag := leAt e 0 2
      x := if flipX then w - (b - x0) else a - x0
      y := if rot then h - 1 - (r.y - y0) else r.y - y0
      count := b - a
      payload := packPixels (if flipX then px.reverse else px) }

/-- R169: PLACE. With TILE_CNT = 0 a tile-space record still passes, as the rule's last sentence says (DEDUCED, log entry 61). -/
def opPlace (n : Node) (t : Bytes) (r : Rec) : List Rec :=
  if r.tag ≠ 0xFFFFFFFF then [r] else (List.range (n.f 0x18 2)).filterMap (fun i => placeEntry t i r)

/-- R170: coefficient k of a phase, signed s1.14. -/
def scaleCoeff (t : Bytes) (phase k : Nat) : Int := signed 16 (leAt t (16 * phase + 2 * k) 2)

/-- R170: one output component from samples 0 to last. -/
def scaleTap (t : Bytes) (n : Node) (i : Nat) (last : Nat) (sample : Nat → Nat) : Nat :=
  let (base, phase) := scalePos n i
  let acc := (List.range 8).foldl (fun (a : Int) (k : Nat) =>
    let j := clampInt 0 last (base + k)
    a + scaleCoeff t phase k * (sample j.toNat : Int)) 0
  sat16 ((acc + 0x2000) / 16384)

/-- R170: SCALE, horizontal. -/
def opScaleH (n : Node) (t : Bytes) (r : Rec) : List Rec :=
  let ps := r.pixels
  let last := min (n.f 0x26 2) r.count - 1
  let out := (List.range (n.f 0x24 2)).map (fun i =>
    (List.range r.ncomp).map (fun c => scaleTap t n i last (fun j => comp (ps.getD j []) c)))
  [r.setPixels out]

/-- R171: LUT1D of one value. -/
def lutValue (t : Bytes) (curve v : Nat) : Nat :=
  let at_ (i : Nat) : Nat := leAt t (8194 * curve + 2 * i) 2
  let i := v / 16
  let f := v % 16
  (at_ i * (16 - f) + at_ (i + 1) * f + 8) / 16

/-- R171: LUT1D. -/
def opLut (n : Node) (t : Bytes) (r : Rec) : Rec :=
  let curves := min 4 (t.length / 8194)
  r.mapPixels (fun _ p => (indexed p).map (fun (c, v) =>
    if n.f 0x18 1 = 1 then lutValue t 0 v else if c < curves then lutValue t c v else v))

/-- R172: one component of MIX. -/
def mixValue (mode alpha a b : Nat) : Nat :=
  match mode with
  | 0 => (a * (65536 - alpha) + b * alpha + 32768) / 65536
  | 1 => min 65535 (a + b)
  | 2 => max a b
  | _ => min a b

/-- R172: MIX. -/
def opMix (n : Node) (param : Nat → Word) (r0 r1 : Rec) : Rec :=
  let alpha := min 65536 (fld (param n.paramBase) 16 0)
  let bs := r1.pixels
  r0.setPixels ((indexed r0.pixels).map (fun (i, p) =>
    (indexed p).map (fun (c, a) => mixValue (n.f 0x18 1) alpha a (comp (bs.getD i []) c))))

/-- R173: one component of KEY. -/
def keyValue (premul : Bool) (k a b : Nat) : Nat :=
  let k := k + k / 32768
  if premul then min 65535 (a + (b * (65536 - k) + 32768) / 65536) else (a * k + b * (65536 - k) + 32768) / 65536

/-- R173: KEY. -/
def opKey (n : Node) (r0 r1 : Rec) : Rec :=
  let bs := r1.pixels
  r0.setPixels ((indexed r0.pixels).map (fun (i, p) =>
    let k := if r0.ncomp = 4 then comp p 3 else 0xFFFF
    (indexed p).map (fun (c, a) => if c < 3 then keyValue (n.f 0x18 1 == 1) k a (comp (bs.getD i []) c) else a)))

/-- R174: the gain of ENVELOPE. -/
def envelopeGain (p0 p1 p2 : Word) : Nat :=
  let env : Int := fld p0 15 0
  let lo : Int := fld p1 15 0
  let hi : Int := fld p1 31 16
  let gmin : Int := fld p2 15 0
  let gmax : Int := fld p2 31 16
  if env ≤ lo ∨ hi ≤ lo then gmin.toNat
  else if hi ≤ env then gmax.toNat
  else (gmin + Int.tdiv ((gmax - gmin) * (env - lo) + (hi - lo) / 2) (hi - lo)).toNat

/-- R174: ENVELOPE. -/
def opEnvelope (n : Node) (param : Nat → Word) (r : Rec) : Rec :=
  let g := envelopeGain (param n.paramBase) (param (n.paramBase + 1)) (param (n.paramBase + 2))
  r.mapPixels (fun _ p => p.map (fun v => gain16 v g))

/-- R175: the PARAM of the highest-numbered region of the record's space that holds (x, y). -/
def regionAt (n : Node) (t : Bytes) (r : Rec) (x : Nat) : Option Nat :=
  (List.range (n.f 0x18 1)).foldl (fun best i =>
    let e := slice t (12 * i) 12
    let space := leAt e 8 2
    let mine := if space = 0xFFFF then r.tag == 0xFFFFFFFF else r.tag == space
    if mine && decide (leAt e 0 2 ≤ x) && decide (leAt e 2 2 ≤ r.y) && decide (x < leAt e 4 2) && decide (r.y < leAt e 6 2)
    then some (leAt e 10 2) else best) none

/-- R175: SIGNAL_APPLY. -/
def opSignal (n : Node) (t : Bytes) (param : Nat → Word) (r : Rec) : Rec :=
  r.mapPixels (fun x p => match regionAt n t r x with
    | none => p
    | some w => p.map (fun v => gain16 v (fld (param w) 15 0)))

/-- R217: the ordered-dither matrix. -/
def dither2 (y x : Nat) : Nat := if y % 2 = 0 then 2 * (x % 2) else 3 - 2 * (x % 2)
def dither4 (y x : Nat) : Nat := 4 * dither2 (y % 2) (x % 2) + dither2 (y / 2) (x / 2)
def dither8 (y x : Nat) : Nat := 4 * dither4 (y % 4) (x % 4) + dither2 (y / 4) (x / 4)

/-- R217: the threshold D. -/
def ditherD (mode epoch x y : Nat) : Nat :=
  match mode with
  | 0 => 32768
  | 1 => dither8 (y % 8) (x % 8) * 1024 + 512
  | _ =>
    let o := epoch % 64
    dither8 ((y + o / 8) % 8) ((x + o % 8) % 8) * 1024 + 512

/-- R217: DITHER. -/
def opDither (n : Node) (epoch : Epoch) (r : Rec) : Rec :=
  if r.ncomp < 3 then r
  else r.mapPixels (fun x p => (indexed p).map (fun (c, v) =>
    if c < 3 then (v * (2 ^ n.f 0x19 1 - 1) + ditherD (n.f 0x18 1) epoch.toNat x r.y) / 65536 else v))

/-- Bytes of a list of bits, bit 0 first, most significant bit of a byte first; the last byte padded with 0. -/
def packBits : Nat → List Bool → Bytes
  | 0, _ => []
  | k + 1, l => BitVec.ofNat 8 ((List.range 8).foldl (fun v i => 2 * v + b2n (l.getD i false)) 0) :: packBits k (l.drop 8)

/-- Bit i of a packed bit string. -/
def bitOf (l : Bytes) (i : Nat) : Bool := (l.getD (i / 8) 0).getLsbD (7 - i % 8)

/-- R218: the codes of a record's pixels, saturated to 2^G − 1, three a pixel, with the number that saturated. -/
def greyCodes (g : Nat) (r : Rec) : List Nat × Nat :=
  let top := 2 ^ g - 1
  let cs := r.pixels.flatMap (fun p => [comp p 0, comp p 1, comp p 2])
  (cs.map (min top), (cs.filter (fun v => decide (top < v))).length)

/-- R218: the plane rows. -/
def planeRows (g : Nat) (codes : List Nat) : Bytes :=
  let pr := (codes.length + 7) / 8
  (List.range g).flatMap (fun b => packBits pr (codes.map (fun q => q.testBit b)))

/-- R296: PACK_SACN. -/
def opPackSacn (n : Node) (r : Rec) : Rec :=
  if r.kind ≠ 1 then r
  else
    let body := r.payload ++ List.replicate (n.f 0x1A 2 - r.count) 0
    { r with kind := 2, ncomp := 0, x := 0, count := 1 + body.length, payload := BitVec.ofNat 8 (n.f 0x18 1) :: body }

/-! ## Records of FETCH_RECT -/

/-- R167: records per row. -/
def fetchPerRow (n : Node) (elems : Nat) : Nat := (n.f 0x28 2 + elems - 1) / elems

/-- R167, R176: how many records a source node produces. -/
def sourceCount (n : Node) (elems : Nat) : Nat :=
  if n.op = 1 then (if n.f 0x28 2 = 0 then 0 else n.f 0x2A 2 * fetchPerRow n elems)
  else if n.op = 0x0E then n.f 0x18 2 else 0

namespace State

/-- A live graph parameter word. -/
def param (s : State) (i : Nat) : Word := Sparse.get 0 s.kennel.params i

/-- R167: record j of a FETCH_RECT node. -/
def fetchRecord (s : State) (n : Node) (elems j : Nat) : Rec :=
  let u := n.surface
  let per := fetchPerRow n elems
  let y := n.f 0x26 2 + j / per
  let x := n.f 0x24 2 + j % per * elems
  let cnt := min elems (n.f 0x28 2 - j % per * elems)
  let px := (List.range cnt).map (fun i => (List.range u.ncomp).map (fun c =>
    if u.fmt8 then expand16 8 (s.rdLE (u.addr (x + i) y c) 1) else s.rdLE (u.addr (x + i) y c) 2))
  { kind := 0, ncomp := u.ncomp, count := cnt, x := x % 65536, y := y % 65536, tag := 0xFFFFFFFF, seq := j, payload := packPixels px }

/-- R168: one pixel of STORE_RECT. -/
def storePixel (s : State) (n : Node) (x y : Int) (p : List Nat) : State :=
  let u := n.surface
  if x < 0 ∨ y < 0 ∨ (n.f 0x28 2 : Int) ≤ x ∨ (n.f 0x2A 2 : Int) ≤ y then s.bump R.KNL_CLIP_CNT
  else (List.range (min p.length u.ncomp)).foldl (fun s c =>
    let v := comp p c
    if u.fmt8 then s.wrLE (u.addr x.toNat y.toNat c) 1 (min 255 ((v + 0x80) / 256)) else s.wrLE (u.addr x.toNat y.toNat c) 2 v) s

/-- R168: STORE_RECT. -/
def opStore (s : State) (n : Node) (r : Rec) : State :=
  let dx := signed 16 (n.f 0x24 2)
  let dy := signed 16 (n.f 0x26 2)
  (indexed r.pixels).foldl (fun s p => s.storePixel n ((r.x + p.1 : Nat) + dx) (r.y + dy) p.2) s

/-- R176: one entry of SAMPLE_TO_SLOTS applied to the slots of universe index u. -/
def sampleEntry (n : Node) (t : Bytes) (u : Nat) (a : List Nat × State) (i : Nat) : List Nat × State :=
  let (slots, s) := a
  let e := slice t (8 * i) 8
  let ui := leAt e 4 2
  let w := leAt e 6 2
  let slot := w % 512
  let c := w / 512 % 4
  let wide := w / 2048 % 2
  let outside : Bool := decide (n.f 0x1C 2 ≤ slot + wide) || decide (n.f 0x18 2 ≤ ui)
  if outside then (slots, if u = (if n.f 0x18 2 ≤ ui then 0 else ui) then s.bump R.KNL_CLIP_CNT else s)
  else if ui ≠ u then (slots, s)
  else
    let f := s.kennel.epoch - BitVec.ofNat 32 s.canvD
    let (v, s) := s.canvAny f (leAt e 0 2) (leAt e 2 2) c
    if wide = 1 then ((slots.set slot (v / 256)).set (slot + 1) (v % 256), s)
    else (slots.set slot (min 255 ((v + 0x80) / 256)), s)

/-- R176: the SLOTS record of universe index u. -/
def opSample (s : State) (n : Node) (t : Bytes) (u : Nat) : Rec × State :=
  let k := n.f 0x1C 2
  let (slots, s) := (List.range (t.length / 8)).foldl (sampleEntry n t u) (List.replicate k 0, s)
  ({ kind := 1, ncomp := 0, count := k, x := 0, y := 0, tag := n.f 0x1A 2 + u, seq := u, payload := slots.map (BitVec.ofNat 8) }, s)

/-! ## Calibration operations (R187–R192) -/

/-- A record of NCOMP < 3 passes, counted. -/
def calPass (s : State) : State := (s.bump R.CALIB_PASS_CNT).raise R.CALIB_STATUS 9

/-- R187: a record that holds a pixel whose lookup missed. -/
def calMiss (s : State) (c : Bool) : State := if c then (s.bump R.CALIB_MISS_CNT).raise R.CALIB_STATUS 4 else s

/-- R187: a tile-space pixel operation: f is given the live tile entry and the pixel's tile column. -/
def calPixels (s : State) (r : Rec) (f : TileCal → Nat → List Nat → List Nat) : Rec × State :=
  match s.calTile r.tag with
  | none => (r, s.calMiss (r.count != 0))
  | some e =>
    let out := r.mapPixels (fun x p => if e.w ≤ x ∨ e.h ≤ r.y then p else f e x p)
    (out, s.calMiss (r.count != 0 && (decide (e.w < r.x + r.count) || decide (e.h ≤ r.y))))

/-- R188: one pixel through a 3 × 4 matrix of 24 bytes. -/
def matrixPixel (m : Bytes) (p : List Nat) : List Nat :=
  let coef (c k : Nat) : Int := signed 16 (leAt m ((4 * c + k) * 2) 2)
  (indexed p).map (fun (c, v) => if c < 3 then
    let acc : Int := coef c 0 * comp p 0 + coef c 1 * comp p 1 + coef c 2 * comp p 2 + coef c 3 * 65536
    sat16 ((acc + 0x1000) / 8192) else v)

/-- R188: COLOUR_MATRIX. -/
def opMatrix (s : State) (n : Node) (t : Bytes) (r : Rec) : Rec × State :=
  if r.ncomp < 3 then (r, s.calPass)
  else if n.f 0x18 1 = 1 then (r.mapPixels (fun _ p => matrixPixel t p), s)
  else s.calPixels r (fun e x p => matrixPixel (s.rdBytes (pixelEntry (s.bankBase s.calib.bankB) e x r.y) 24) p)

/-- R189: one pixel through GAIN, OFFSET and BLANK, 8 bytes. -/
def gainPixel (m : Bytes) (p : List Nat) : List Nat :=
  let g := leAt m 0 2
  let o := signed 16 (leAt m 2 2)
  let blank := leAt m 4 1 % 2 == 1
  (indexed p).map (fun (c, v) => if c < 3 then (if blank then 0 else sat16 (((v * g + 0x2000) / 16384 : Nat) + o)) else v)

/-- R189: GAIN_OFFSET. -/
def opGain (s : State) (n : Node) (t : Bytes) (r : Rec) : Rec × State :=
  if r.ncomp < 3 then (r, s.calPass)
  else if n.f 0x18 1 = 1 then (r.mapPixels (fun _ p => gainPixel t p), s)
  else s.calPixels r (fun e x p => gainPixel (s.rdBytes (pixelEntry (s.bankBase s.calib.bankB) e x r.y + 24) 8) p)

/-- R191: the live G_c of a tile. -/
def tileGain (s : State) (t : Nat) : Nat × Nat × Nat := Sparse.get (16384, 16384, 16384) s.calib.gain t

/-- R191: TEMP_COMP. -/
def opTemp (s : State) (r : Rec) : Rec × State :=
  if r.ncomp < 3 then (r, s.calPass)
  else
    let (g0, g1, g2) := s.tileGain (r.tag % 65536)
    s.calPixels r (fun _ _ p => (indexed p).map (fun (c, v) =>
      if c < 3 then min 65535 ((v * (match c with
        | 0 => g0
        | 1 => g1
        | _ => g2) + 0x2000) / 16384) else v))

/-- R195: g_z. -/
def zoneGain (s : State) (z : Nat) : Nat := Sparse.get 65536 s.calib.gz z

/-- R192: the zone of a record's pixels. -/
def limitZone (s : State) (n : Node) (r : Rec) : Nat := match s.calTile r.tag with
  | some e => e.zone
  | none => n.f 0x18 1

/-- R192: LIMIT. -/
def opLimit (s : State) (n : Node) (r : Rec) : Rec × State :=
  if r.ncomp < 3 then (r, s.calPass)
  else
    let z := s.limitZone n r
    let e := s.zoneOf z
    let g := if s.calib.valid then s.zoneGain z else 65536
    let add := (r.pixels.map (fun p => (e.w0 * comp p 0 + e.w1 * comp p 1 + e.w2 * comp p 2) / 65536)).sum
    let out := r.mapPixels (fun _ p => (indexed p).map (fun (c, v) => if c < 3 then min e.bright ((v * g + 32768) / 65536) else v))
    let total := (Sparse.get 0 s.calib.sum z + add) % 2 ^ 48
    (out, { s with calib := { s.calib with sum := Sparse.put 0 s.calib.sum z total } })

/-! ## Plans (R218–R224) -/

/-- R218: BITPLANE. -/
def opBitplane (s : State) (n : Node) (r : Rec) : List Rec × State :=
  let g := n.f 0x18 1
  if 16384 < g * ((3 * r.count + 7) / 8) then ([], (s.bump R.PLAN_OVERSIZE_CNT).raise R.PLAN_STATUS 2)
  else
    let (codes, ovf) := greyCodes g r
    let p := planeRows g codes
    let s := s.count R.PLAN_CLAMP_CNT ovf
    ([{ r with kind := 2, ncomp := 0, count := p.length, payload := p }], s.raiseIf (ovf != 0) R.PLAN_STATUS 3)

/-- R223, R224: whether tile t is sniffed, and shows detection, in epoch e. -/
def planFlags (s : State) (y : Layout) (e : Epoch) (t : Nat) : Bool × Bool :=
  let every := s.field R.PLAN_SNIFF_EVERY 15 0
  let ph := (e.toNat + t) % every
  (every != 0 && y.sniff != 0 && ph == 0, s.flag R.PLAN_CTRL 1 && decide (2 ≤ every) && ph == every / 2)

/-- R210: the preamble. -/
def preamble (s : State) (y : Layout) (fl : Bool × Bool) : Bytes :=
  beBytes 2 0x504C ++ beBytes 1 1 ++ beBytes 1 (128 * b2n fl.1 + 64 * b2n fl.2 + 32 * b2n y.precharge) ++ beBytes 4 y.planLen
    ++ beBytes 4 s.time.num ++ beBytes 4 s.time.den ++ beBytes 1 y.l ++ beBytes 1 y.k ++ beBytes 1 y.p ++ beBytes 1 y.c
    ++ beBytes 1 y.g ++ beBytes 1 y.slog ++ beBytes 1 y.det ++ beBytes 1 y.phMax ++ beBytes 2 y.gclk ++ beBytes 2 y.dclk
    ++ beBytes 2 y.lat ++ beBytes 2 y.blank ++ beBytes 2 y.pre ++ beBytes 2 y.sniff ++ beBytes 4 y.subMax
    ++ List.replicate 24 0
    ++ (List.range 64).map (fun j => if j < y.l then BitVec.ofNat 8 (y.order.getD j 0) else 0)
    ++ (List.range 48).map (fun j => if j < y.c then BitVec.ofNat 8 (y.phase.getD j 0) else 0)
    ++ List.replicate 80 0

/-- R211, R221: the plan bytes of one pixel row, from its plane rows. -/
def rowBytes (y : Layout) (payload : Bytes) : Bytes :=
  let pr := (3 * y.w + 7) / 8
  (List.range y.kg).flatMap (fun k => (List.range y.g).flatMap (fun b =>
    let plane := (payload.drop (b * pr)).take pr
    packBits y.cb ((List.range (y.p * y.c)).map (fun i =>
      let n := y.slotAt k i
      decide (n < 3 * y.w) && bitOf plane n))))

/-- R221, R222: plan bytes from an offset, in records of at most 16,384 bytes; the first argument is fuel. -/
def planRecords (r : Rec) : Nat → Nat → Bytes → List Rec
  | 0, _, _ => []
  | k + 1, off, l =>
    if l.isEmpty then []
    else
      let part := l.take 16384
      { r with kind := 2, ncomp := 0, count := part.length, x := off % 65536, y := off / 65536, payload := part }
        :: planRecords r k (off + 16384) (l.drop 16384)

/-- PLAN_LED_COUNT; above 50,331,648 acts as 50,331,648. -/
def ledCount (s : State) : Nat := min 50331648 (s.field R.PLAN_LED_COUNT 25 0)

/-- R224, R15: bit DET_PLANE of every code of a row into the detect mask, of PLAN_LED_COUNT bits. -/
def writeMask (s : State) (y : Layout) (ledBase ty : Nat) (payload : Bytes) : State :=
  let base := s.field R.PLAN_MASK_HI 1 0 * 2 ^ 32 + s.field R.PLAN_MASK_LO 31 6 * 64
  let pr := (3 * y.w + 7) / 8
  let plane := (payload.drop (y.det * pr)).take pr
  (List.range (3 * y.w)).foldl (fun s n =>
    let i := ledBase + ty * y.w * 3 + n
    let a := base + i / 8
    let m := BitVec.ofNat 8 (2 ^ (i % 8))
    if i < s.ledCount then s.wr8 a (if bitOf plane n then s.rd8 a ||| m else s.rd8 a &&& ~~~ m) else s) s

/-- R221: PACK_PLAN, for node number `idx`. -/
def opPackPlan (s : State) (idx : Nat) (n : Node) (t : Bytes) (r : Rec) : List Rec × State :=
  if r.kind ≠ 2 then ([r], s)
  else
    let layouts := n.f 0x18 1
    let tile := r.tag % 65536
    let (li, _, ledBase) := planTile t layouts tile
    if 65536 ≤ r.tag ∨ 32768 ≤ tile ∨ li = 255 then ([], (s.bump R.PLAN_NOTILE_CNT).raise R.PLAN_STATUS 1)
    else
      let y := Layout.read t li
      if r.x ≠ 0 ∨ r.count ≠ y.g * ((3 * y.w + 7) / 8) ∨ y.h ≤ r.y then ([], (s.bump R.PLAN_PARTIAL_CNT).raise R.PLAN_STATUS 0)
      else if s.plan.fitFail.contains (idx, li) then ([], s)
      else
        let e := s.kennel.epoch
        let fl := s.planFlags y e tile
        let s : State := if r.y = 0 then
            { s with plan := { s.plan with
                flagged := (tile, (e, fl.1, fl.2)) :: (s.plan.flagged.filter (fun x => !(x.1 == tile && x.2.1 == e))) } }
          else s
        let s := if fl.2 then
            let s := s.writeMask y ledBase r.y r.payload
            { s with plan := { s.plan with maskEpoch := Sparse.put 0 (Sparse.erase s.plan.maskEpoch tile) tile e } }
          else s
        let off := 256 + (r.y % y.l * y.k + r.y / y.l * y.kg) * y.g * y.cb
        let body := rowBytes y r.payload
        let head := if r.y = 0 then planRecords r 1 0 (s.preamble y fl) else []
        (head ++ planRecords r (body.length / 16384 + 1) off body, s)

/-! ## Check windows (R277–R282) -/

/-- R277: a window: index, tile, first column and row, columns and rows. -/
structure Win where
  w : Nat
  tile : Nat
  x0 : Nat
  y0 : Nat
  cols : Nat
  rows : Nat
  en : Bool
deriving DecidableEq, Repr

/-- VER_WIN_COUNT; above 4,096 acts as 4,096. -/
def winCount (s : State) : Nat := min 4096 (s.field R.VER_WIN_COUNT 12 0)

/-- R277: entry w of the window table. -/
def winAt (s : State) (w : Nat) : Win :=
  let e := s.rdBytes (s.field R.VER_WIN_HI 1 0 * 2 ^ 32 + (s.reg R.VER_WIN_LO).toNat + 16 * w) 16
  { w := w, tile := leAt e 0 2, x0 := leAt e 2 2, y0 := leAt e 4 2, cols := leAt e 6 2, rows := leAt e 8 2, en := leAt e 10 1 % 2 == 1 }

/-- R278: the conditions on one entry by itself. -/
def winShapeOk (x : Win) : Bool :=
  decide (x.tile ≤ 0x7FFF) && x.cols != 0 && x.rows != 0 && decide (x.x0 + x.cols ≤ 16384) && decide (x.y0 + x.rows ≤ 16384)

/-- R278: the defined windows, in ascending index; at most 255 of a tile. -/
def definedWins (s : State) : List Win :=
  (List.range s.winCount).foldl (fun l w =>
    let x := s.winAt w
    if x.en && winShapeOk x && decide ((l.filter (fun y => y.tile == x.tile)).length < 255) then l ++ [x] else l) []

/-- Verification's bank for an epoch. -/
def verBank (s : State) (e : Epoch) : VerBank := Sparse.get {} s.heel.banks (e.toNat % 2)
def setVerBank (s : State) (e : Epoch) (b : VerBank) : State :=
  { s with heel := { s.heel with banks := Sparse.put {} s.heel.banks (e.toNat % 2) b } }

/-- R281: a window is uncomputed for the frame. -/
def markUncomputed (s : State) (e : Epoch) (w : Nat) : State :=
  let b := s.verBank e
  if b.epoch = e ∧ ¬ b.uncomputed.contains w then s.setVerBank e { b with uncomputed := w :: b.uncomputed } else s

/-- R279, R281: a record's codes fed to one window's running CRC; answers the new running CRCs and the CRC when it is complete. -/
def feedWindow (e : Epoch) (g : Nat) (codes : List Nat) (r : Rec) (crc : List (Nat × Option (Nat × Nat))) (x : Win) :
    List (Nat × Option (Nat × Nat)) × Option Nat × Bool :=
  match (match crc.lookup x.w with
    | some v => v
    | none => some (x.y0, crc32cMore 0xFFFFFFFF (beBytes 4 e.toNat))) with
  | none => (crc, none, false)
  | some (next, st) =>
    let others := crc.filter (fun c => c.1 != x.w)
    if r.y ≠ next ∨ x.x0 < r.x ∨ r.x + r.count < x.x0 + x.cols then ((x.w, none) :: others, none, true)
    else
      let mine := (codes.drop (3 * (x.x0 - r.x))).take (3 * x.cols)
      let st := crc32cMore st (mine.flatMap (fun q => beBytes 2 (min (2 ^ g - 1) q)))
      ((x.w, some (next + 1, st)) :: others, if next + 1 = x.y0 + x.rows then some (crc32cEnd st) else none, false)

/-- What a node keeps. -/
def nodeRun (s : State) (i : Nat) : NodeRun := Sparse.get {} s.kennel.nodes i
def setNodeRun (s : State) (i : Nat) (x : NodeRun) : State :=
  { s with kennel := { s.kennel with nodes := Sparse.put {} s.kennel.nodes i x } }

/-- R281, R282: CHECKSUM_RECT. -/
def opChecksum (s : State) (idx : Nat) (n : Node) (r : Rec) : List Rec × State :=
  if r.kind ≠ 0 then ([r], s)
  else
    let e := s.kennel.epoch
    let g := n.f 0x18 1
    let codes := r.pixels.flatMap (fun p => [comp p 0, comp p 1, comp p 2])
    let wins := s.definedWins.filter (fun x => x.tile == r.tag && decide (x.y0 ≤ r.y) && decide (r.y < x.y0 + x.rows))
    let (done, s) := wins.foldl (fun (a : Bytes × State) x =>
      let (done, s) := a
      let run := s.nodeRun idx
      let (crc, fin, bad) := feedWindow e g codes r run.crc x
      let s := s.setNodeRun idx { run with crc := crc }
      let s := if bad then s.markUncomputed e x.w else s
      (match fin with
        | some v => done ++ leBytes 2 x.w ++ [0, 0] ++ leBytes 4 v
        | none => done, s)) ([], s)
    if done.isEmpty then ([], s)
    else ([{ r with kind := 2, ncomp := 0, count := done.length, x := 0, payload := done }], s)

/-- R281: at EOF, windows whose last row has not arrived are uncomputed. -/
def checksumEof (s : State) (idx : Nat) : State :=
  let e := s.kennel.epoch
  (s.definedWins.filter (fun x => match (s.nodeRun idx).crc.lookup x.w with
    | some (some (next, _)) => decide (next < x.y0 + x.rows)
    | _ => false)).foldl (fun s x => s.markUncomputed e x.w) s

/-! ## Vertical SCALE (R170) -/

/-- The input row that output row i waits for. -/
def scaleNeed (n : Node) (i : Nat) : Nat := (clampInt 0 ((n.f 0x26 2 : Nat) - 1) ((scalePos n i).1 + 7)).toNat

/-- Output row i, with input rows 0 to `last` available. -/
def scaleRow (n : Node) (t : Bytes) (rows : List Rec) (last i : Nat) : Option Rec :=
  let newest := min last (clampInt 0 last ((scalePos n i).1 + 7)).toNat
  match rows[newest]? with
  | none => none
  | some q =>
    let value (j x c : Nat) : Nat := match rows[j]? with
      | none => 0
      | some w => if w.ncomp ≤ c ∨ w.count = 0 then 0 else leAt w.payload ((min x (w.count - 1) * w.ncomp + c) * 2) 2
    let px := (List.range q.count).map (fun x => (List.range q.ncomp).map (fun c => scaleTap t n i last (fun j => value j x c)))
    some { q with y := i, seq := i, count := q.count, payload := packPixels px }

/-- R170: at EOF, the output rows from row i on; the first argument is fuel. Answers the rows and how many have been emitted. -/
def scaleEmit (n : Node) (t : Bytes) (rows : List Rec) : Nat → Nat → List Rec × Nat
  | 0, i => ([], i)
  | k + 1, i =>
    let inN := n.f 0x26 2
    if n.f 0x24 2 ≤ i ∨ rows.isEmpty then ([], i)
    else
      match scaleRow n t rows (min (inN - 1) (rows.length - 1)) i with
      | none => ([], i)
      | some r =>
        let (l, j) := scaleEmit n t rows k (i + 1)
        (r :: l, j)

/-- R170, R151: the input rows of a vertical SCALE up to the record of index k of its FIFO, which hold them. -/
def takeRows (s : State) (idx : Nat) (n : Node) (k : Nat) : State :=
  let run := s.nodeRun idx
  let q := Sparse.get {} s.kennel.fifos n.in0
  let new := ((List.range (k + 1 - run.seen)).filterMap (fun d => (q.recs[run.seen + d - q.head]?).map (fun r => (run.seen + d, r)))).filter
    (fun r => r.2.kind == 0)
  let new := new.take (n.f 0x26 2 - run.rows.length)
  s.setNodeRun idx { run with rows := run.rows ++ new.map (·.2), rowIdx := run.rowIdx ++ new.map (·.1), seen := max run.seen (k + 1) }

/-- R170: record k of the FIFO of a vertical SCALE, whose rows have been taken up to it: the output rows whose newest input row it is. -/
def opScaleV (s : State) (idx : Nat) (n : Node) (t : Bytes) (k : Nat) (r : Rec) : List Rec × State :=
  if r.kind ≠ 0 then ([r], s)
  else
    let run := s.nodeRun idx
    match run.rowIdx.findIdx? (· == k) with
    | none => ([], s)
    | some j =>
      let l := ((List.range (n.f 0x24 2)).filter (fun i => scaleNeed n i == j)).filterMap (scaleRow n t run.rows (min (n.f 0x26 2 - 1) (run.rows.length - 1)))
      (l, s.setNodeRun idx { run with emitted := run.emitted + l.length })

/-! ## One grain -/

/-- R166: the two records of a two-input grain differ. -/
def pairMismatch (a b : Rec) : Bool := a.kind != b.kind || a.count != b.count || a.x != b.x || a.y != b.y || a.tag != b.tag

/-- What node number idx makes of a grain's input records: the records of OUT0 and OUT1. `num`: the grain's number in the node, which is
the record's own number of a source and the index in its FIFO of the one record of a node with one input. -/
def runOp (s : State) (g : Graph) (idx : Nat) (n : Node) (num : Nat) (ins : List Rec) : List Rec × List Rec × State :=
  let t := n.table g.table
  let elems := ((g.fifos[n.out0]?).map FifoDesc.elems).getD 64
  let one (a : Rec × State) : List Rec × List Rec × State := ([a.1], [], a.2)
  let many (a : List Rec × State) : List Rec × List Rec × State := (a.1, [], a.2)
  match n.op, ins with
  | 0x01, _ => ([s.fetchRecord n elems num], [], s)
  | 0x0E, _ => one (s.opSample n t num)
  | 0x14, r :: _ => ([r], [r], s)
  | 0x0B, [a, b] => if pairMismatch a b then ([a], [], s.bump R.KNL_MISMATCH_CNT)
                    else if a.kind ≠ 0 then ([a], [], s) else ([opMix n s.param a b], [], s)
  | 0x0C, [a, b] => if pairMismatch a b then ([a], [], s.bump R.KNL_MISMATCH_CNT)
                    else if a.kind ≠ 0 then ([a], [], s) else ([opKey n a b], [], s)
  | 0x10, r :: _ => many (s.opPackPlan idx n t r)
  | 0x11, r :: _ => ([opPackSacn n r], [], s)
  | 0x12, r :: _ => many (s.opChecksum idx n r)
  | 0x02, r :: _ => ([], [], if r.kind = 0 then s.opStore n r else s)
  | op, r :: _ =>
    if r.kind ≠ 0 then ([r], [], s)
    else match op with
      | 0x03 => (opPlace n t r, [], s)
      | 0x04 => if n.f 0x18 1 = 0 then (opScaleH n t r, [], s) else many ((s.takeRows idx n num).opScaleV idx n t num r)
      | 0x05 => one (s.opMatrix n t r)
      | 0x06 => one (s.opGain n t r)
      | 0x07 => ([opLut n t r], [], s)
      | 0x08 => one (s.opLimit n r)
      | 0x09 => ([opDither n s.kennel.epoch r], [], s)
      | 0x0A => one (s.opTemp r)
      | 0x0D => ([opEnvelope n s.param r], [], s)
      | 0x0F => many (s.opBitplane n r)
      | 0x13 => ([opSignal n t s.param r], [], s)
      | _ => ([r], [], s)
  | _, [] => ([], [], s)

end State

end Sys2Proof.Machine
end

