-- ==== Sys2Proof/Machine/Kennel.lean ====
section
/-! DEFINITION. The Kennel scheduler (R146–R164): FIFOs, grains, dispatch, publication, ordered flows and EOF; the raster's and the
sinks' side of a FIFO; and the meanings of the grain commands. -/

namespace Sys2Proof.Machine

namespace State

/-- R460: a fault that the device cannot mask has arisen; an ACTIVE brace device will give up control for it. -/
def unmaskable (s : State) (cause : Nat) : State :=
  if s.brace.state = .active then { s with brace := { s.brace with faults := s.brace.faults ++ [cause] } } else s

/-! ## FIFOs (R146–R151) -/

def fifoOf (s : State) (f : Nat) : Fifo := Sparse.get {} s.kennel.fifos f

/-- The live graph's FIFO descriptor. -/
def fifoDesc (s : State) (f : Nat) : Option FifoDesc := s.kennel.graph.bind (fun g => g.fifos[f]?)

/-- Lines held by a FIFO (KNL_FIFOf_LEVEL). -/
def fifoLevel (x : Fifo) : Nat := (x.recs.map Rec.lines).sum

/-- A FIFO after a change: its high-water mark, FIFO_HWM, and the cycles it was full. -/
def putFifo (s : State) (f : Nat) (x : Fifo) : State :=
  match s.fifoDesc f with
  | none => s
  | some d =>
    let before := fifoLevel (s.fifoOf f)
    let level := fifoLevel x
    let now := s.time.frc
    let s := match x.fullSince with
      | some t => s.count (R.KNL_FIFOf_FULL_CYC f) (now - t)
      | none => s
    let x := { x with fullSince := if level = d.lines then some now else none }
    let s := s.setReg (R.KNL_FIFOf_HWM f) (w32 (max (s.field (R.KNL_FIFOf_HWM f) 18 0) level))
    let s := s.raiseIf (d.hwm != 0 && decide (d.hwm ≤ level) && decide (before < d.hwm)) R.KNL_STATUS 4
    { s with kennel := { s.kennel with fifos := Sparse.put {} s.kennel.fifos f x } }

/-- R149: room for this many more lines. -/
def fifoRoom (s : State) (f lines : Nat) : Bool :=
  match s.fifoDesc f with
  | none => false
  | some d => let x := s.fifoOf f; decide (fifoLevel x + x.reserved + lines ≤ d.lines)

/-- R148: a FIFO of d, with what it holds changed, once the write pointer has moved on by so many lines: the read pointer follows. -/
def advance (d : FifoDesc) (x : Fifo) (lines : Nat) : Fifo :=
  let m := 2 * d.lines
  let wp := (x.wp + lines) % m
  { x with wp := wp, rp := (wp + m - fifoLevel x) % m }

/-- Records are published to a FIFO. A sink of TARGET 0 discards them (R143). -/
def publish (s : State) (f : Nat) (l : List Rec) : State :=
  match s.fifoDesc f with
  | none => s
  | some d =>
    let x := s.fifoOf f
    let eof := x.eof || l.any Rec.isEof
    let lines := (l.map Rec.lines).sum
    if d.sink && d.sinkTarget == 0 then
      s.putFifo f (advance d { x with eof := eof, recs := if eof then [Rec.eof 0] else [] } lines)
    else s.putFifo f (advance d { x with recs := x.recs ++ l, eof := eof } lines)

/-- The next record a grain would take from a FIFO. -/
def nextRec (s : State) (f : Nat) : Option Rec := let x := s.fifoOf f; x.recs[x.taken - x.head]?

/-- Records of the prefix whose grains have completed. -/
def donePrefix (fin : List Nat) : Nat → Nat → Nat
  | 0, _ => 0
  | k + 1, i => if fin.contains i then donePrefix fin k (i + 1) + 1 else 0

/-- R148, R151: the records of completed grains are released from the front; a WINDOW FIFO keeps WIN − 1 of them until EOF is
consumed. -/
def releaseFifo (s : State) (f : Nat) : State :=
  match s.fifoDesc f with
  | none => s
  | some d =>
    let x := s.fifoOf f
    let n := donePrefix x.finished x.recs.length x.head
    let keep := if d.window && !x.eofTaken then d.winLines - 1 else 0
    let k := n - keep
    s.putFifo f (advance d { x with recs := x.recs.drop k, head := x.head + k, finished := x.finished.filter (fun i => decide (x.head + k ≤ i)) } 0)

/-- The record of index i has been consumed. -/
def finishRec (s : State) (f i : Nat) : State :=
  let x := s.fifoOf f
  ((s.putFifo f { x with finished := i :: x.finished })).releaseFifo f

/-! ## Grains (R149, R152) -/

/-- Grains formed and not yet finished, over all nodes (KNL_INFLIGHT). -/
def inFlight (s : State) : Nat := (s.kennel.nodes.map (fun n => n.2.formed - n.2.finished)).sum

/-- R149: the output lines that a grain of node i reserves in each of its output FIFOs, as computed when the graph was loaded. -/
def needLines (g : Graph) (i : Nat) : Nat := g.reserve.getD i 1

/-- R152: every output has room for one more grain. -/
def outputsFit (s : State) (g : Graph) (i : Nat) (n : Node) : Bool := n.outs.all (fun f => s.fifoRoom f (needLines g i))

/-- The published record that a grain takes on one of its inputs. -/
def recAt (s : State) (k : Nat) : Option Rec := let f := s.fifoOf (k / 2 ^ 32); f.recs[k % 2 ^ 32 - f.head]?

/-- The input records of a grain, when all are published. -/
def grainRecs (s : State) (x : Grain) : Option (List Rec) :=
  x.ins.foldl (fun a k => match a, s.recAt k with
    | some l, some r => some (l ++ [r])
    | _, _ => none) (some [])

/-- R150: a running grain of the node that writes FIFO f; of an ordered node the oldest one not through, whose records come next
(R157). -/
def producerRuns (s : State) (g : Graph) (f : Nat) : Bool :=
  s.kennel.engines.any (fun e => match e.2.running with
    | some r => ((g.nodes[r.node]?).map (fun n => n.outs.contains f && (!n.ordered || r.seq == (s.nodeRun r.node).released))).getD false
    | none => false)

/-- R152, R150: whether the next record of an input is present, whole, or under CUT being written by a running grain. -/
def inputHere (s : State) (g : Graph) (f : Nat) : Bool :=
  match s.nextRec f with
  | some r => !r.isEof
  | none => ((s.fifoDesc f).map FifoDesc.cut).getD false && !(s.fifoOf f).eof
      && (s.fifoOf f).taken == (s.fifoOf f).head + (s.fifoOf f).recs.length && s.producerRuns g f

/-- The next record of a FIFO is EOF. -/
def atEof (s : State) (f : Nat) : Bool := match s.nextRec f with
  | some r => r.isEof
  | none => (s.fifoOf f).eofTaken

/-- R152: the inputs of the next grain; after the end of one input, the rest of the other is taken alone (R166, log entry 12). -/
def grainInputs (s : State) (g : Graph) (n : Node) : Option (List Nat) :=
  match n.ins with
  | [] => none
  | [a] => if s.inputHere g a then some [a] else none
  | l =>
    let here := l.filter (s.inputHere g)
    if here.length = l.length then some l
    else if !here.isEmpty && (l.filter (fun f => !(here.contains f))).all s.atEof then some here else none

/-- A frame is being rendered, and neither complete nor dropped. -/
def frameRuns (s : State) : Bool := s.kennel.run && !s.kennel.complete && !s.kennel.dropped

/-- Grains are formed, given out and finished: a frame that is complete may still have some (a STORE_RECT behind no sink); only a
drop stops them (R160). -/
def grainsRun (s : State) : Bool := s.kennel.run && !s.kennel.dropped

/-- An engine that may be given a grain of the node. -/
def engineOf (s : State) (e : Nat) : Engine := Sparse.get {} s.kennel.engines e
def setEngine (s : State) (e : Nat) (x : Engine) : State :=
  { s with kennel := { s.kennel with engines := Sparse.put {} s.kennel.engines e x } }
def engineFree (s : State) (e : Nat) : Bool :=
  decide (e < 16) && s.flag (R.REn_CTRL e) 0 && !(s.engineOf e).held && (s.engineOf e).running.isNone

/-- ENG_MASK. -/
def maskAllows (n : Node) (e : Nat) : Bool := n.engMask.testBit e

/-- R155: the cycles of engine e's sleep up to now are counted. -/
def sleepCount (s : State) (e : Nat) : State :=
  let x := s.engineOf e
  if x.asleep then s.count (R.REn_SLEEP_CYC e) (s.time.frc - x.sleepAt) else s

/-- R149, R153–R155: a grain is given to an engine: output space is reserved, waiting and sleeping times are counted. -/
def dispatch (s : State) (g : Graph) (n : Node) (e : Nat) (x : Grain) : State :=
  let now := s.time.frc
  let wait := now - x.readyAt
  let p := n.prio
  let total := Sparse.get 0 s.kennel.waitRem p + wait
  let s := (s.bump (R.KNL_DISPp p)).setReg (R.KNL_WAITMAXp p) (w32 (max (s.reg (R.KNL_WAITMAXp p)).toNat wait))
  let s := s.count (R.KNL_WAITSUMp p) (total / 1024)
  let s : State := { s with kennel := { s.kennel with
    waitRem := Sparse.put 0 s.kennel.waitRem p (total % 1024)
    ready := s.kennel.ready.filter (fun y => !(y.node == x.node && y.seq == x.seq)) } }
  let s := n.outs.foldl (fun s f => let q := s.fifoOf f; s.putFifo f { q with reserved := q.reserved + needLines g x.node }) s
  let eng := s.engineOf e
  let s := s.sleepCount e
  let s := s.bumpIf (eng.lastNode == some x.node) (R.REn_AFF_HITS e)
  s.setEngine e { eng with running := some { x with startAt := now, countedAt := now, late := x.ins.filter (fun k => (s.recAt k).isNone) }, asleep := false, lastNode := some x.node
                           frameGrains := eng.frameGrains + 1 }

/-- R154: the sleeping engine to wake for a grain of node number i. -/
def wakeFor (s : State) (i : Nat) (n : Node) : Option Nat :=
  let l := (List.range 16).filter (fun e => s.engineFree e && (s.engineOf e).asleep && maskAllows n e)
  match l.find? (fun e => (s.engineOf e).lastNode == some i) with
  | some e => some e
  | none => l.foldl (fun b e => match b with
      | none => some e
      | some m => if (s.engineOf e).frameGrains < (s.engineOf m).frameGrains then some e else some m) none

/-- R152: a grain of node i becomes ready, when its conditions hold. -/
def grainReady (s : State) (i : Nat) : State :=
  match s.kennel.graph with
  | none => s
  | some g =>
    match g.nodes[i]? with
    | none => s
    | some n =>
      let run := s.nodeRun i
      let elems := ((g.fifos[n.out0]?).map FifoDesc.elems).getD 64
      let ins := if n.ins.isEmpty then (if run.formed < sourceCount n elems then some [] else none) else s.grainInputs g n
      let flowOk := !n.ordered || decide (run.formed - run.released < 64)
      match (if s.grainsRun && s.outputsFit g i n && decide (s.inFlight < 4096) && flowOk then ins else none) with
      | none => s
      | some fs =>
        let idx := fs.map (fun f => f * 2 ^ 32 + (s.fifoOf f).taken)
        let x : Grain := { node := i, ins := idx, seq := run.formed, readyAt := s.time.frc }
        let s := fs.foldl (fun s f => let q := s.fifoOf f; s.putFifo f { q with taken := q.taken + 1 }) s
        let s := s.setNodeRun i { run with formed := run.formed + 1 }
        let most := s.inFlight
        let s : State := { s with kennel := { s.kennel with ready := s.kennel.ready ++ [x], mostInFlight := max s.kennel.mostInFlight most } }
        let s := s.raiseIf (most == 4096) R.KNL_STATUS 3
        let out := run.formed + 1 - run.released
        let s := if n.ordered then
            (s.raiseIf (out == 64) R.KNL_STATUS 5).setReg (R.KNL_FLOWq_MAXOUT n.flow) (w32 (max (s.field (R.KNL_FLOWq_MAXOUT n.flow) 6 0) out))
          else s
        match s.wakeFor i n with
        | some e => s.dispatch g n e x
        | none => s

/-- R154: the grain an engine's TAKE is given. -/
def takeChoice (s : State) (g : Graph) (e : Nat) : Option (Node × Grain) :=
  let cand := s.kennel.ready.filterMap (fun x => match g.nodes[x.node]? with
    | some n => if maskAllows n e && s.outputsFit g x.node n then some (n, x) else none
    | none => none)
  match [3, 2, 1, 0].findSome? (fun p => let l := cand.filter (fun c => c.1.prio == p); if l.isEmpty then none else some l) with
  | none => none
  | some l =>
    match l.head? with
    | none => none
    | some g0 =>
      let win := s.field R.KNL_CTRL 15 8 * 16
      match l.find? (fun c => (s.engineOf e).lastNode == some c.2.node && decide (c.2.readyAt ≤ g0.2.readyAt + win)) with
      | some c => some c
      | none => some g0

/-- R154–R156: engine e issues TAKE; without a grain it sleeps. -/
def grainTake (s : State) (e : Nat) : State :=
  if !s.engineFree e then s
  else match s.kennel.graph with
    | none => s
    | some g =>
      match (if s.grainsRun then s.takeChoice g e else none) with
      | some (n, x) => s.dispatch g n e x
      | none =>
        let eng := s.engineOf e
        if eng.asleep then s else s.setEngine e { eng with asleep := true, sleepAt := s.time.frc }

/-! ## Publication (R149, R157) -/

/-- The records of one grain are published, and its reservation ends. -/
def publishGrain (s : State) (g : Graph) (i : Nat) (n : Node) (o0 o1 : List Rec) : State :=
  let s := n.outs.foldl (fun s f => let q := s.fifoOf f; s.putFifo f { q with reserved := q.reserved - needLines g i }) s
  let s := if n.outs.isEmpty then s else s.publish n.out0 o0
  if n.outs.length = 2 then s.publish n.out1 o1 else s

/-- An ordered CHECKSUM_RECT, whose running CRCs take its input records in their order (R157, R281); of an unordered one they take the
records in the order in which the grains complete, since it publishes at their completion (R149; DEDUCED, log entry 12). -/
def inOrderOp (n : Node) : Bool := n.ordered && n.op == 0x12

/-- R157: completed grains leave in sequence order; the first argument is fuel. -/
def releaseFlow (s : State) (g : Graph) (i : Nat) (n : Node) : Nat → State
  | 0 => s
  | k + 1 =>
    let run := s.nodeRun i
    match run.waiting.lookup run.released with
    | none => s
    | some (at_, o0, o1) =>
      let s := s.setNodeRun i { run with released := run.released + 1, waiting := run.waiting.filter (fun w => w.1 != run.released) }
      let s := if n.ordered then s.count (R.KNL_FLOWq_HOLD_CYC n.flow) (s.time.frc - at_) else s
      let (p0, p1, s) := if inOrderOp n then s.runOp g i n 0 o0 else (o0, o1, s)
      releaseFlow (s.publishGrain g i n p0 p1) g i n k

/-! ## EOF (R158) -/

/-- A node forwards EOF once its inputs have delivered it and it has published all its records: the record that IN0 delivered, or a
source's own (R146, R158, R177). -/
def eofNode (s : State) (g : Graph) (i : Nat) (n : Node) : State :=
  let run := s.nodeRun i
  let elems := ((g.fifos[n.out0]?).map FifoDesc.elems).getD 64
  let inputsEnd := if n.ins.isEmpty then run.formed == sourceCount n elems else n.ins.all s.atEof
  if run.eofDone || !inputsEnd || run.formed != run.released then s
  else
    let (rows, j) := if n.op = 0x04 ∧ n.f 0x18 1 = 1
      then scaleEmit n (n.table g.table) run.rows (n.f 0x24 2 - run.emitted) run.emitted else ([], run.emitted)
    let fit := rows.foldl (fun (a : Nat × Nat) _ => if a.1 = a.2 ∧ s.fifoRoom n.out0 (((rows.take (a.2 + 1)).map Rec.lines).sum)
      then (a.1 + 1, a.2 + 1) else (a.1, a.2 + 1)) (0, 0)
    let s := if rows.isEmpty then s else s.publish n.out0 (rows.take fit.1)
    let s := s.setNodeRun i { run with emitted := j - (rows.length - fit.1) }
    if fit.1 < rows.length ∨ !(n.outs.all (fun f => s.fifoRoom f 1)) then s
    else
      let end_ := if n.ins.isEmpty then Rec.eof run.formed else (s.nextRec n.in0).getD (Rec.eof run.formed)
      let s := if n.op = 0x12 then s.checksumEof i else s
      let s := n.ins.foldl (fun s f =>
        let x := s.fifoOf f
        if x.eofTaken then s
        else ((s.putFifo f { x with taken := x.taken + 1, eofTaken := true }).finishRec f x.taken)) s
      let s := s.setNodeRun i { s.nodeRun i with eofDone := true }
      n.outs.foldl (fun s f => s.publish f [end_]) s

/-- R157: the ordered node of flow q. -/
def flowNode (s : State) (q : Nat) : Option (Nat × Node) :=
  s.kennel.graph.bind (fun g => (indexed g.nodes).find? (fun n => n.2.ordered && n.2.flow == q))

/-- R157: the cycles, up to now, that completed grains of node i have waited for earlier ones and still wait. -/
def holdSum (s : State) (i : Nat) : Nat := ((s.nodeRun i).waiting.map (fun w => s.time.frc - w.2.1)).sum

/-- EOF moves down the graph as far as it can. -/
def eofSweep (s : State) : State :=
  match s.kennel.graph with
  | none => s
  | some g => (List.range g.nodes.length).foldl (fun s _ => (indexed g.nodes).foldl (fun s n => s.eofNode g n.1 n.2) s) s

/-! ## Completion -/

/-- R150: the engine waited for lines of inputs that were not whole: how long is not stated, free values of at most the elapsed time in
all. Counts them for each FIFO, and answers their sum. -/
def stallOf (s : State) (x : Grain) (elapsed : Nat) : Nat × State :=
  x.late.foldl (fun (a : Nat × State) k =>
    let (v, s) := a.2.fresh
    let st := v % (elapsed + 1 - a.1)
    (a.1 + st, s.count (R.KNL_FIFOf_STALL_CYC (k / 2 ^ 32)) st)) (0, s)

/-- R150, R178, R179: the running and stalled cycles of engine e's grain up to now are counted. -/
def countRun (s : State) (e : Nat) : State :=
  match (s.engineOf e).running with
  | none => s
  | some x =>
    let elapsed := s.time.frc - x.countedAt
    let (st, s) := s.stallOf x elapsed
    let s := (s.count (R.REn_BUSY_CYC e) (elapsed - st)).count (R.REn_STALL_CYC e) st
    let x := { x with countedAt := s.time.frc, late := x.late.filter (fun k => (s.recAt k).isNone) }
    s.setEngine e { s.engineOf e with running := some x, cycles := (s.engineOf e).cycles + elapsed }

/-- Engine e no longer runs a grain; its cycles have been counted. -/
def endRun (s : State) (e : Nat) : State := let s := s.countRun e; s.setEngine e { s.engineOf e with running := none }

/-- R149, R157, R166: the grain of engine e completes; a grain whose input is not yet whole goes on (R150). -/
def grainComplete (s : State) (e : Nat) : State :=
  let eng := s.engineOf e
  match eng.running, s.kennel.graph with
  | some x, some g =>
    match g.nodes[x.node]?, s.grainRecs x with
    | some n, some ins =>
      if !s.grainsRun then s
      else
        let s := (s.endRun e).bump (R.REn_GRAINS e)
        let alone := n.ins.length = 2 ∧ ins.length = 1
        let (o0, o1, s) :=
          if alone then
            (if x.ins.all (fun k => k / 2 ^ 32 == n.in0) then ins else [], [], s.bump R.KNL_MISMATCH_CNT)
          else if inOrderOp n then (ins, [], s)
          else s.runOp g x.node n x.seq ins
        let run := s.nodeRun x.node
        let s := s.setNodeRun x.node { run with finished := run.finished + 1 }
        let s := x.ins.foldl (fun s k => s.finishRec (k / 2 ^ 32) (k % 2 ^ 32)) s
        let run := s.nodeRun x.node
        let s := if n.ordered || inOrderOp n then
            (s.setNodeRun x.node { run with waiting := (x.seq, (s.time.frc, o0, o1)) :: run.waiting }).releaseFlow g x.node n (run.waiting.length + 1)
          else (s.setNodeRun x.node { run with released := run.released + 1 }).publishGrain g x.node n o0 o1
        s.eofSweep
    | _, _ => s
  | _, _ => s

/-! ## The raster's side of a source FIFO (R126, R143, R146) -/

/-- The FIFO that the raster feeds. -/
def rasterFifo (s : State) : Nat := s.field R.RASTER_CTRL 15 8

/-- R126: the source FIFO has no line for what the raster pushes next: a pixel, or EOF after the last one. Where the live graph has no
such FIFO none is full, and what is pushed goes nowhere (DEDUCED). -/
def rasterFull (s : State) : Bool :=
  let r := s.ingest.raster
  (s.fifoDesc s.rasterFifo).isSome
    && !s.fifoRoom s.rasterFifo (if r.eofWait then 1 else recLinesOf ((r.part.length + 1) * 2 * s.canvComps))

/-- The record gathered so far is published; its last pixel is at column x of row y. -/
def rasterFlush (s : State) (x y : Nat) : State :=
  let r := s.ingest.raster
  if r.part.isEmpty then s
  else
    let q : Rec := { kind := 0, ncomp := s.canvComps, count := r.part.length, x := x + 1 - r.part.length, y := y
                     tag := 0xFFFFFFFF, seq := r.seq, payload := packPixels r.part }
    let s : State := { s with ingest := { s.ingest with raster := { r with part := [], seq := r.seq + 1 } } }
    s.publish s.rasterFifo [q]

/-- R158: the raster ends its output. R148: an EOF for which the FIFO has no line is not pushed. -/
def rasterEof (s : State) : State :=
  if s.fifoRoom s.rasterFifo 1 then (s.publish s.rasterFifo [Rec.eof s.ingest.raster.seq]).eofSweep else s

/-! ## The sinks' side -/

/-- The first sink FIFO of a target that holds a record, with that record. -/
def sinkHead (s : State) (target : Nat) : Option (Nat × Rec) :=
  match s.kennel.graph with
  | none => none
  | some g => (indexed g.fifos).findSome? (fun d =>
      if d.2.sink && d.2.sinkTarget == target then
        match s.nextRec d.1 with
        | some r => if r.isEof then none else some (d.1, r)
        | none => none
      else none)

/-- A sink takes the next record of its FIFO, which is released by R148 and R151. -/
def sinkTake (s : State) (f : Nat) : State :=
  let x := s.fifoOf f
  ((s.putFifo f { x with taken := x.taken + 1 }).finishRec f x.taken).eofSweep

/-- R159: every sink FIFO has received EOF. -/
def sinksDone (s : State) : Bool :=
  match s.kennel.graph with
  | none => false
  | some g => (indexed g.fifos).all (fun d => !d.2.sink || (s.fifoOf d.1).eof)

/-- R453: a record that a sink accepts enters the state digest. -/
def digestRecord (s : State) (target : Nat) (r : Rec) : State :=
  let c := crc32c (leBytes 1 target ++ r.header ++ r.payload)
  { s with brace := { s.brace with dsum := (s.brace.dsum + c) % 2 ^ 64, dxor := s.brace.dxor ^^^ c, dcount := (s.brace.dcount + 1) % 2 ^ 32 } }

/-! ## Parameters and engines -/

/-- R164: a write of a graph parameter word lands in the pending copy. -/
def paramWrite (s : State) (i : Nat) (v : Word) : State :=
  { s with kennel := { s.kennel with pendParams := Sparse.put 0 s.kennel.pendParams (i % 4096) v
                                     dirty := (i % 4096) :: s.kennel.dirty.filter (· != i % 4096) } }

/-- R164: the copy of step 7. -/
def copyParams (s : State) : State :=
  let k := s.kennel
  { s with kennel := { k with
      params := k.dirty.foldl (fun l i => Sparse.put 0 l i (Sparse.get 0 k.pendParams i)) k.params
      dirty := [] } }

/-- R179: REn_CTRL.RESTART. -/
def engineRestart (s : State) (e : Nat) : State :=
  if e < 16 ∧ s.flag (R.REn_STATUS e) 0 then (s.lower (R.REn_STATUS e) 0).setEngine e { s.engineOf e with held := false } else s

/-- R162: the grain of engine e has run for longer than REn_WDOG_LIMIT. -/
def engineWatchdog (s : State) (e : Nat) : State :=
  let eng := s.engineOf e
  match eng.running with
  | none => s
  | some x =>
    let limit := max 4096 (s.reg (R.REn_WDOG_LIMIT e)).toNat
    let s : State := { s with time := { s.time with frc := max s.time.frc (x.startAt + limit + 1) } }
    let s := s.endRun e
    let s := s.setEngine e { s.engineOf e with held := true }
    ((s.raise (R.REn_STATUS e) 0).raise R.KNL_STATUS 6).unmaskable 3

end State

/-! ## Meanings -/

def execGraphCopyDone (s : State) : Host.Outcome State Fault Refusal := onMain s (·.graphCopyDone)

def execGrainReady (node : Nat) (s : State) : Host.Outcome State Fault Refusal := onMain s (·.grainReady node)

def execGrainTake (engine : Nat) (s : State) : Host.Outcome State Fault Refusal := onMain s (·.grainTake engine)

def execGrainComplete (engine : Nat) (s : State) : Host.Outcome State Fault Refusal := onMain s (·.grainComplete engine)

def execEngineWatchdog (engine : Nat) (s : State) : Host.Outcome State Fault Refusal := onMain s (·.engineWatchdog engine)

def execEngineRestart (engine : Nat) (s : State) : Host.Outcome State Fault Refusal := onMain s (·.engineRestart engine)

def execParamDataWrite (value : Word) (s : State) : Host.Outcome State Fault Refusal :=
  onMain s (fun s => s.paramWrite (s.field R.KNL_PARAM_IDX 11 0) value)

end Sys2Proof.Machine
end

