-- ==== Sys2Proof/Machine/VoconTx.lean ====
section
/-! DEFINITION. Vocon towards the tiles (R232–R253): frames, routes, staging, fragments, resends, void epochs and the key of the
authentication engine (R241, R242). -/

namespace Sys2Proof.Machine

/-! ## Plans and routes -/

/-- Whether ranges cover every byte from lo up to hi; the first argument is fuel. -/
def covers : Nat → List (Nat × Nat) → Nat → Nat → Bool
  | 0, _, lo, hi => decide (hi ≤ lo)
  | k + 1, l, lo, hi => decide (hi ≤ lo) || (match l.find? (fun r => decide (r.1 ≤ lo) && decide (lo < r.2)) with
      | some r => covers k l r.2 hi
      | none => false)

def TilePlan.has (p : TilePlan) (lo hi : Nat) : Bool := covers p.ranges.length p.ranges lo hi

/-- R247: FRAG_CNT. -/
def TilePlan.frags (p : TilePlan) : Nat := match p.len with
  | some n => (n + p.frag - 1) / p.frag
  | none => 0

/-- The bytes of fragment j of a plan: first, and one past the last. -/
def TilePlan.span (p : TilePlan) (j : Nat) : Nat × Nat := (j * p.frag, min ((j + 1) * p.frag) (p.len.getD 0))

/-- R245: a route entry. -/
structure Route where
  mac : Bytes
  port : Nat
  static : Bool
  learned : Bool
  valid : Bool
  ip : Nat
  stageOff : Nat
  stageLen : Nat
  hello : Epoch
deriving DecidableEq, Repr

namespace State

def setVcn (s : State) (v : VoconSt) : State := { s with vocon := v }

/-! ## Options (R232, R240, R266) -/

/-- VCN_CTRL. -/
def vcnEn (s : State) : Bool := s.flag R.VCN_CTRL 0
def vcnUdp (s : State) : Bool := s.flag R.VCN_CTRL 1
def vcnAuth (s : State) : Nat := min 2 (s.field R.VCN_CTRL 3 2)
def vcnLearn (s : State) : Bool := s.flag R.VCN_CTRL 5

/-- R232: Vocon runs on the port. -/
def vcnPort (s : State) (p : Nat) : Bool := decide (p < 32) && s.flag R.VCN_PORTS p && !s.bracePort p

/-- R266: F, clamped. -/
def fragMax (s : State) : Nat := clampNat 256 9000 (s.field R.VCN_FRAG_MAX 13 0)

/-- R241, R242: no frame is sent while the key is lost. -/
def vcnSilent (s : State) : Bool := s.vcnAuth != 0 && s.flag R.VCN_KEY_STATE 1

/-- Vocon frames to tiles may leave (R241, R459). -/
def vcnSends (s : State) : Bool := s.vcnEn && !s.vcnSilent && s.outputsOn

/-! ## Frames (R234, R237–R240) -/

/-- The header of a frame from this device. -/
def vcnHeader (s : State) (type flags sub len dst : Nat) (e : Epoch) (seq fidx fcnt off : Nat) : Bytes :=
  beBytes 2 0x564E ++ [1] ++ beBytes 1 type ++ beBytes 1 (flags + 16 * s.role) ++ beBytes 1 sub ++ beBytes 2 len
    ++ beBytes 2 s.devId ++ beBytes 2 dst ++ beBytes 4 e.toNat ++ beBytes 2 seq ++ beBytes 2 fidx ++ beBytes 2 fcnt ++ [0, 0]
    ++ beBytes 4 off ++ beBytes 4 s.nowTs32.toNat

/-- R240: the IV of a frame, from its header. -/
def vcnIv (h : Bytes) : Bytes := slice h 8 8 ++ slice h 3 2 ++ slice h 16 2

/-- R238: frames sent so far under a (DST_ID, EPOCH) pair. -/
def vcnCount (s : State) (dst : Nat) (e : Epoch) : Nat := Sparse.get 0 s.vocon.seq (dst * 2 ^ 32 + e.toNat)

/-- R234, R237–R240: the next frame for a destination: header, payload, tag and CRC. None where R238 or a missing key keeps it
from being sent. -/
def vcnFrame (s : State) (type flags sub dst : Nat) (e : Epoch) (fidx fcnt off : Nat) (payload : Bytes) : Option Bytes × State :=
  let n := s.vcnCount dst e
  if 65536 ≤ n then (none, s)
  else
    let auth := s.vcnAuth != 0
    let head := s.vcnHeader type (flags + 128 * b2n auth) sub payload.length dst e n fidx fcnt off
    let (key, s) := if auth then s.askKey (s.field R.VCN_AUTH_SLOT 5 0) 2 else (none, s)
    if auth && key.isNone then (none, s)
    else
      let tag := match key with
        | some k => beBytes 16 (Config.gmac k (vcnIv head) (head ++ payload))
        | none => []
      let body := head ++ payload ++ tag
      let s := s.setVcn { s.vocon with seq := Sparse.put 0 s.vocon.seq (dst * 2 ^ 32 + e.toNat) (n + 1) }
      (some (body ++ beBytes 4 (crc32c body)), s)

/-! ## Routes (R245) -/

def routeAddr (s : State) (t : Nat) : Nat := s.field R.VCN_ROUTE_HI 1 0 * 2 ^ 32 + s.field R.VCN_ROUTE_LO 31 16 * 65536 + 32 * t

def routeOf (s : State) (t : Nat) : Route :=
  let e := s.rdBytes (s.routeAddr t) 32
  { mac := slice e 0 6, port := leAt e 6 1, static := leAt e 7 1 / 4 % 2 == 1, learned := leAt e 7 1 / 2 % 2 == 1
    valid := decide (t < 32768) && leAt e 7 1 % 2 == 1, ip := leAt e 8 4, stageOff := leAt e 12 4 / 64 * 64, stageLen := leAt e 16 4
    hello := BitVec.ofNat 32 (leAt e 20 4) }

/-- R232: the Ethernet frame that carries a Vocon frame to one tile. -/
def vcnToTile (s : State) (p t : Nat) (frame : Bytes) : Bytes × State :=
  let r := s.routeOf t
  let vid := s.field R.VCN_VLAN 11 0
  if s.vcnUdp then
    let (v, s) := s.fresh
    let port := s.field R.VCN_UDP 15 0
    (s.ether p r.mac none 0x0800 (udp4 v (s.field R.VCN_UDP 21 16) (atLeast1 (s.field R.VCN_TTL 7 0)) (s.reg R.VCN_SRC_IP).toNat r.ip port port frame), s)
  else (s.ether p r.mac (if s.flag R.VCN_CTRL 4 then some (s.field R.VCN_VLAN 18 16 * 8192 + vid) else none)
      (s.field R.VCN_ETHERTYPE 15 0) frame, s)

/-- A Vocon frame to one tile is queued on a port, in queue 3 (R233, R372). -/
def vcnPut (s : State) (p t : Nat) (frame : Bytes) (use : TxUse) : State :=
  let (b, s) := s.vcnToTile p t frame
  s.enqueue p { queue := 3, bytes := b, use := use }

/-! ## Staging (R246) -/

/-- The base of the half that stages an epoch. -/
def stageBase (s : State) (e : Epoch) : Nat :=
  s.field R.VCN_STAGE_HI 1 0 * 2 ^ 32 + s.field R.VCN_STAGE_LO 31 16 * 65536
    + (if e.toNat % 2 = 1 then atLeast1 (s.field R.VCN_STAGE_HALF 13 0) * 1048576 else 0)

def planKey (t : Nat) (e : Epoch) : Nat := 2 * t + e.toNat % 2

/-- The plan of a tile staged for an epoch. -/
def tilePlan (s : State) (t : Nat) (e : Epoch) : Option TilePlan :=
  match s.vocon.plans.lookup (planKey t e) with
  | some p => if p.epoch = e then some p else none
  | none => none

def setTilePlan (s : State) (t : Nat) (p : TilePlan) : State :=
  s.setVcn { s.vocon with plans := (planKey t p.epoch, p) :: s.vocon.plans.filter (fun x => x.1 != planKey t p.epoch) }

/-- R246: the sink's error of a record without a usable route or beyond its area. -/
def routeErr (s : State) : State := (s.bump R.VCN_ROUTE_ERR_CNT).raise R.VCN_STATUS 3

/-- R253: n fragments are not resent. -/
def resendDenied (s : State) (n : Nat) : State := if n = 0 then s else (s.count R.VCN_RESEND_DENIED_CNT n).raise R.VCN_STATUS 5

/-- Every fragment whose tile and epoch p picks and that has not started on the wire is discarded, in Vocon and in the MACs; those that
were to be resent count as denied (R253). -/
def discardFrags (s : State) (p : Nat → Epoch → Bool) : State :=
  let inMac (f : TxFrame) : Bool := match f.use with
    | .plan t e _ _ => p t e
    | _ => false
  let again (f : TxFrame) : Bool := match f.use with
    | .plan _ _ _ r => r
    | _ => false
  let n := ((s.vocon.queue.flatMap (·.2)).filter (fun f => f.resend && p f.tile f.epoch)).length
    + ((s.mac.port.flatMap (·.2.txq)).filter (fun f => inMac f && again f)).length
  let s := s.setVcn { s.vocon with queue := (s.vocon.queue.map (fun q => (q.1, q.2.filter (fun f => !p f.tile f.epoch)))).filter (fun q => !q.2.isEmpty) }
  let s : State := { s with mac := { s.mac with port := s.mac.port.map (fun m => (m.1, { m.2 with txq := m.2.txq.filter (fun f => !inMac f) })) } }
  s.resendDenied n

/-- R246: the plan p of tile t is void: no fragment of it is sent any more. -/
def voidPlan (s : State) (t : Nat) (p : TilePlan) : State :=
  (s.setTilePlan t { p with void := true }).discardFrags (fun t' e => t' == t && e == p.epoch)

/-- R246: a BYTES record of tile t. One that reaches beyond the PLAN_LEN that it makes known itself is discarded; one that shows that
bytes staged before lie beyond PLAN_LEN voids the plan (DEDUCED, log entry 23). -/
def stageBytes (s : State) (t : Nat) (r : Rec) : State :=
  let e := s.kennel.epoch
  let route := s.routeOf t
  let p : TilePlan := (s.tilePlan t e).getD { epoch := e, port := route.port, frag := s.fragMax }
  let o := r.y * 65536 + r.x
  let n := r.payload.length
  if ¬ (route.valid && s.vcnPort route.port) then (s.voidPlan t p).routeErr
  else if route.stageLen < o + n ∨ (match p.len with
      | some m => decide (m < o + n)
      | none => false) = true then (s.voidPlan t p).routeErr
  else if p.ranges.any (fun x => decide (x.1 < o + n) && decide (o < x.2)) then
    ((s.voidPlan t p).bump R.VCN_SINK_DUP_CNT).raise R.VCN_STATUS 7
  else
    let u := s.wrBytes (s.stageBase e + route.stageOff + o) r.payload
    let q := { p with ranges := (o, o + n) :: p.ranges }
    let len := if p.len.isNone && q.has 4 8 then some (beNat (u.rdBytes (s.stageBase e + route.stageOff + 4) 4)) else p.len
    let beyond (x : Nat × Nat) : Bool := match len with
      | some m => decide (m < x.2)
      | none => false
    if beyond (o, o + n) then (s.voidPlan t p).routeErr
    else (if p.ranges.any beyond then u.voidPlan t { q with len := len } else u.setTilePlan t { q with len := len }).digestRecord 1 r

/-- R246: the Vocon transmit sink takes the next record. With EN = 0 it is discarded (DEDUCED). -/
def vcnSink (s : State) : State :=
  match s.sinkHead 1 with
  | none => s
  | some (f, r) =>
    let s := if !s.vcnEn then s
      else if r.kind ≠ 2 ∨ 65536 ≤ r.tag then (s.bump R.VCN_SINK_BAD_CNT).raise R.VCN_STATUS 7
      else s.stageBytes r.tag r
    s.sinkTake f

/-! ## Fragments (R247–R250) -/

def vcnQueue (s : State) (p : Nat) : List Frag := (s.vocon.queue.lookup p).getD []
def setVcnQueue (s : State) (p : Nat) (l : List Frag) : State :=
  s.setVcn { s.vocon with queue := (if l.isEmpty then [] else [(p, l)]) ++ s.vocon.queue.filter (fun x => x.1 != p) }

/-- R250: an epoch is void. -/
def isVoid (s : State) (e : Epoch) : Bool := s.vocon.voids.contains e

/-- R249: the resend window of an epoch is open. -/
def windowOpen (s : State) (e : Epoch) : Bool := s.vocon.windows.any (fun w => w.1 == e)

/-- R248: fragment j of tile t's plan for epoch e becomes ready. -/
def fragReady (s : State) (t : Nat) (e : Epoch) (j : Nat) : State :=
  match s.tilePlan t e with
  | none => s
  | some p =>
    if p.void || s.isVoid e || decide (p.frags ≤ j) || p.ready.contains j || !p.has (p.span j).1 (p.span j).2
      || !s.windowOpen e || !s.sendsEpoch e || !s.vcnEn then s
    else
      let s := s.setTilePlan t { p with ready := j :: p.ready }
      s.setVcnQueue p.port (s.vcnQueue p.port ++ [{ tile := t, epoch := e, idx := j, resend := false }])

/-- R238, R249: a tile is left with an unsent fragment: counted once for its plan. -/
def planUnsent (s : State) (t : Nat) (p : TilePlan) : State :=
  if p.unsent then s
  else ((s.setTilePlan t { p with unsent := true }).bump R.VCN_PLAN_UNSENT_CNT).raise R.VCN_STATUS 6

/-- R247: the next fragment of a port's queue is sent: it goes to the port's MAC; it waits while Vocon does not run there (R232). -/
def fragSend (s : State) (port : Nat) : State :=
  match s.vcnQueue port with
  | [] => s
  | f :: rest =>
    if !s.vcnEn || s.vcnSilent || !s.sendsEpoch f.epoch || !s.vcnPort port then s
    else
      let s := s.setVcnQueue port rest
      match s.tilePlan f.tile f.epoch with
      | none => if f.resend then s.resendDenied 1 else s
      | some p =>
        let (lo, hi) := p.span f.idx
        let data := s.rdBytes (s.stageBase f.epoch + (s.routeOf f.tile).stageOff + lo) (hi - lo)
        let (b, s) := s.vcnFrame 2 (64 * b2n f.resend) 0 f.tile f.epoch f.idx p.frags lo data
        match b with
        | some b => s.vcnPut port f.tile b (.plan f.tile f.epoch f.idx f.resend)
        | none => if f.resend then s.resendDenied 1 else s.planUnsent f.tile p

/-- R249, R253: a fragment starts on the wire. -/
def fragStarted (s : State) (t : Nat) (e : Epoch) (j : Nat) (resend : Bool) : State :=
  let s := s.bump (if resend then R.VCN_TX_RESEND_CNT else R.VCN_TX_FRAG_CNT)
  match s.tilePlan t e with
  | some p => s.setTilePlan t { p with sent := j :: p.sent.filter (· != j) }
  | none => s

/-- R249: VCN_PLAN_GUARD in nanoseconds, clamped. -/
def planGuard (s : State) : Nat := min (atLeast1 (s.field R.VCN_PLAN_GUARD 19 0) * 1000) s.halfPeriodNs

/-- R249: the resend window of the oldest open epoch closes, at T less the guard. -/
def windowClose (s : State) : State :=
  match s.vocon.windows.getLast? with
  | none => s
  | some (e, t) =>
    let s := s.waitUntil (t - s.planGuard * uNs)
    let s := s.setVcn { s.vocon with windows := s.vocon.windows.dropLast }
    let s := s.discardFrags (fun _ x => x == e)
    if s.isVoid e || !s.sendsEpoch e then s
    else (s.vocon.plans.filter (fun x => x.2.epoch == e && !x.2.void)).foldl (fun s x =>
      let p := x.2
      if p.len.isSome && (List.range p.frags).all (fun j => p.sent.contains j) then s else s.planUnsent (x.1 / 2) p) s

/-- R250: Kennel has dropped the frame of epoch e. -/
def vcnVoid (s : State) (e : Epoch) : State :=
  let s := (s.discardFrags (fun _ x => x == e)).bump R.VCN_VOID_CNT
  s.setVcn { s.vocon with voids := e :: s.vocon.voids.take 7 }

/-! ## The key (R241, R242) -/

/-- R241: the key is lost; with AUTH ≠ 0 that is release cause 8 (R460). -/
def keyLost (s : State) : State :=
  let s := (s.raise R.VCN_KEY_STATE 1).raise R.VCN_STATUS 9
  if s.vcnAuth = 0 then s else s.unmaskable 8

/-- R241: the key age. -/
def keyAge (s : State) : Nat := (s.time.epoch - s.reg R.VCN_KEY_EPOCH0).toNat

/-- R241: the key age has reached one of its two limits; it has none before group 6 has applied a key slot. -/
def keyAgeLimit (s : State) : State :=
  if s.vocon.slot.isNone then s
  else
    let s := if 2 ^ 31 ≤ s.keyAge then (s.raise R.VCN_KEY_STATE 0).raise R.VCN_STATUS 10 else s
    if 2 ^ 32 - 65536 ≤ s.keyAge then s.keyLost else s

/-- R242: AGE follows the key age. -/
def keyAgeBit (s : State) : State :=
  let s := s.putBit R.VCN_KEY_STATE 0 (decide (2 ^ 31 ≤ s.keyAge))
  if s.flag R.VCN_KEY_STATE 0 then s.raise R.VCN_STATUS 10 else s

/-- R241, R242, R265: group 6 comes to its application with AUTH ≠ 0 and a slot that is not issued: it is withheld, and LOST is set (DESIGN
CHOICE, log entry 23: R242 sets LOST at an application that R265 withholds). -/
def vcnNoKey (s : State) : State := s.keyLost.keyAgeBit

/-- R242: the application of group 6, after its live values have changed. With AUTH ≠ 0 the slot is issued (R265). -/
def vcnKeyApply (s : State) : State :=
  if s.vcnAuth = 0 then s.setReg R.VCN_KEY_STATE 0
  else
    let slot := s.field R.VCN_AUTH_SLOT 5 0
    let s := s.lower R.VCN_KEY_STATE 1
    let loads := Sparse.get 0 s.sec.loads slot
    let s := if s.vocon.slot = some (slot, loads) then s
      else (s.setReg R.VCN_KEY_EPOCH0 s.time.epoch).setVcn { s.vocon with slot := some (slot, loads) }
    s.keyAgeBit

/-- R232, R242: what an application of group 6 does besides copying. -/
def vcnApply (s : State) : State :=
  (s.raiseIf (s.braceOn && s.field R.VCN_PORTS 31 30 != 0) R.VCN_STATUS 8).vcnKeyApply

end State

/-! ## Meanings -/

def execVoconSinkRecord (s : State) : Host.Outcome State Fault Refusal := onMain s (·.vcnSink)

def execFragmentReady (tile : Nat) (epoch : Epoch) (idx : Nat) (s : State) : Host.Outcome State Fault Refusal :=
  onMain s (·.fragReady tile epoch idx)

def execPlanFragmentSend (port : Nat) (s : State) : Host.Outcome State Fault Refusal := onMain s (·.fragSend port)

def execResendWindowClose (s : State) : Host.Outcome State Fault Refusal := onMain s (·.windowClose)

def execVcnKeyAgeLimit (s : State) : Host.Outcome State Fault Refusal := onMain s (·.keyAgeLimit)

end Sys2Proof.Machine
end

