-- ==== Sys2Proof/Machine/Verify.lean ====
section
/-! DEFINITION. Shown-picture verification (R277–R286): banks, the verification sink, comparison and closing. -/

namespace Sys2Proof.Machine

namespace State

/-- VER_CTRL.EN. -/
def verEn (s : State) : Bool := s.flag R.VER_CTRL 0

/-- The HEEL record of an epoch. -/
def heelEp (s : State) (e : Epoch) : Option HeelEp := s.heel.eps.find? (fun x => x.epoch == e)

/-- R283: VER_WAIT in nanoseconds, clamped by the frame period and the offset that T of the epoch was fixed with. -/
def verWait (s : State) (x : HeelEp) : Nat := clampNat 1000000 (max 1000000 x.room) (s.field R.VER_WAIT 15 0 * 1000)

/-- Bit w of a bitmap of windows is set. -/
def raiseWin (s : State) (reg : Nat → Nat) (w : Nat) : State := s.raise (reg (w / 32)) (w % 32)

/-- R283, R286: an open epoch closes; of a void or missed one nothing is compared or missing. EN = 0 stops storing and comparing, not the
closing (R288; DEDUCED, log entry 25). -/
def verClose (s : State) (b : VerBank) (nothing : Bool) : State :=
  let s := s.setVerBank b.epoch { b with opened := false }
  let (missing, s) := s.definedWins.foldl (fun (a : Nat × State) x =>
    let (n, s) := a
    if (b.expected.lookup x.w).isNone then (n, (s.bump R.VER_UNCOMPUTED_CNT).raise R.VER_STATUS 3)
    else if nothing then (n, s)
    else if b.compared.contains x.w || b.kept.contains x.w then (n, s)
    else (n + 1, (s.raiseWin R.VER_MISSINGw x.w).bump R.VER_MISSING_CNT)) (0, s)
  let s := s.raiseIf (missing != 0) R.VER_STATUS 1
  let s := s.setReg R.VER_EPOCH_RESULT (w32 (missing * 65536 + (if nothing then 0 else b.bad)))
  (s.setReg R.VER_DONE_EPOCH b.epoch).raise R.VER_STATUS 7

/-- R283: verification of epoch r opens; its bank has been closed by then. -/
def verOpen (s : State) (r : Epoch) : State :=
  let b := s.verBank r
  (if b.opened then s.verClose b false else s).setVerBank r { epoch := r, opened := true }

/-- R283: an epoch that is void or missed, or that a device without outputs renders, closes at once. -/
def verCloseNow (s : State) (e : Epoch) : State :=
  let b := s.verBank e
  if b.opened && b.epoch == e then s.verClose b true else s

/-- R283: the open epochs with the time at which each closes, in ascending order of time. -/
def verDue (s : State) : List (Int × VerBank) :=
  let l := (s.heel.banks.map (·.2)).filterMap (fun b => if b.opened then
    (s.heelEp b.epoch).map (fun e => (e.t + s.verWait e * uNs, b)) else none)
  match l with
  | [a, b] => if b.1 < a.1 then [b, a] else [a, b]
  | _ => l

/-- R286: the open epoch that is due next closes. -/
def verifyClose (s : State) : State :=
  match s.verDue with
  | [] => s
  | (t, b) :: _ => (s.waitUntil t).verClose b false

/-- R282: the expected CRCs of one record. -/
def storeCrcs (s : State) (e : Epoch) : Nat → Bytes → State
  | 0, _ => s
  | k + 1, l =>
    let w := leAt l 0 2
    let b := s.verBank e
    let s := if b.opened && b.epoch == e && s.verEn then
        s.setVerBank e { b with expected := (w, w32 (leAt l 4 4)) :: b.expected.filter (fun x => x.1 != w) }
      else s
    storeCrcs s e k (l.drop 8)

/-- R282: the verification sink takes the next record. -/
def verifySink (s : State) : State :=
  match s.sinkHead 3 with
  | none => s
  | some (f, r) =>
    let s := if r.kind ≠ 2 then s.bump R.VER_UNCOMPUTED_CNT
      else (s.storeCrcs s.kennel.epoch (r.payload.length / 8) r.payload).digestRecord 3 r
    s.sinkTake f

/-- R285: one entry of a REPORT of epoch e from tile t. -/
def compareEntry (e : Epoch) (t : Nat) (s : State) (x : Nat × Word) : State :=
  let (w, got) := x
  let b := s.verBank e
  if !(s.definedWins.any (fun y => y.w == w && y.tile == t)) then
    if b.foreign.contains (t, w) then s
    else ((s.setVerBank e { b with foreign := (t, w) :: b.foreign }).bump R.VER_FOREIGN_CNT).raise R.VER_STATUS 4
  else if b.compared.contains w || b.uncomputed.contains w then s
  else match b.expected.lookup w with
    | none => s
    | some want =>
      let s := s.setVerBank e { b with compared := w :: b.compared, bad := if got = want then b.bad else b.bad + 1 }
      if got = want then s.bump R.VER_MATCH_CNT
      else
        let s := (s.raiseWin R.VER_MISMATCHw w).bump R.VER_MISMATCH_CNT
        let s := (s.setReg R.VER_LAST_WIN (w32 w)).setReg R.VER_LAST_EPOCH e
        ((s.setReg R.VER_LAST_EXP want).setReg R.VER_LAST_GOT got).raise R.VER_STATUS 0

/-- R284: the window entries of a REPORT; with EN = 0 none is compared (R288). -/
def verReport (s : State) (e : Epoch) (t : Nat) (kept : Bool) (entries : List (Nat × Word)) : State :=
  let b := s.verBank e
  if !(b.opened && b.epoch == e) then (s.bump R.VER_STALE_CNT).raise R.VER_STATUS 2
  else if kept then
    let mine := (s.definedWins.filter (fun y => y.tile == t && !b.kept.contains y.w)).map Win.w
    (s.setVerBank e { b with kept := mine ++ b.kept }).count R.VER_KEPT_CNT mine.length
  else if !s.verEn then s
  else entries.foldl (compareEntry e t) s

end State

/-! ## Meanings -/

def execVerifySinkRecord (s : State) : Host.Outcome State Fault Refusal := onMain s (·.verifySink)

def execVerifyClose (s : State) : Host.Outcome State Fault Refusal := onMain s (·.verifyClose)

end Sys2Proof.Machine
end

