-- ==== Sys2Proof/Machine/Heel.lean ====
section
/-! DEFINITION. The HEEL (R268–R276): the latch time of an epoch, its copies, missed epochs, and the HEEL_OUT pins that mark it. -/

namespace Sys2Proof.Machine

namespace State

def setHeel (s : State) (h : HeelSt) : State := { s with heel := h }

/-- The HEEL record of an epoch replaced. -/
def putEp (s : State) (x : HeelEp) : State :=
  s.setHeel { s.heel with eps := s.heel.eps.map (fun y => if y.epoch = x.epoch then x else y) }

/-- R268: T of render epoch r is fixed; `offset` is HEEL_LATCH_OFFSET as it stood in step 1, in nanoseconds. R249 opens its window. -/
def heelFix (s : State) (r : Epoch) (offset : Nat) : State :=
  let offset := min offset s.halfPeriodNs
  let t := (s.nextDown / uNs + (offset : Nat)) * uNs
  let s := s.setHeel { s.heel with eps := { epoch := r, t := t, room := s.periodNs - offset } :: s.heel.eps.take 3 }
  let s := s.setVcn { s.vocon with windows := (r, t) :: s.vocon.windows }
  (s.setReg R.HEEL_EPOCH r).setTs80 R.HEEL_T_NS R.HEEL_T_SEC_LO R.HEEL_T_SEC_HI t

/-- R480, R482: whether the HEEL of epoch e carries APPLY, and the generation; not that of an arm that was not applied. -/
def carryOf (s : State) (e : Epoch) : Bool × Word :=
  match s.sheaf.carry with
  | some c => if reached c.first e && s.sheaf.noApply != some e then (true, c.gen) else (false, 0)
  | none => (false, 0)

/-- R480: copy 0 of epoch e has been sent, or the epoch is missed. -/
def carryStep (s : State) (e : Epoch) (sent : Bool) : State :=
  match s.sheaf.carry with
  | none => s
  | some c =>
    if !reached c.first e then s
    else
      let s := s.bumpIf (e != c.first && s.sheaf.noApply != some e) R.SHEAF_CARRY_CNT
      let set (x : Option Carry) : State := { s with sheaf := { s.sheaf with carry := x } }
      if c.sent then set (if c.left ≤ 1 then none else some { c with left := c.left - 1 })
      else if sent then
        let n := s.field R.SHEAF_CARRY 3 0
        set (if n = 0 then none else some { c with sent := true, left := n })
      else s

/-- R274: HEEL_FLAGS shows the values of an epoch. -/
def heelFlags (s : State) (x : HeelEp) : State := s.setReg R.HEEL_FLAGS (w32 (2 * b2n x.apply + b2n x.void))

/-- R232: the Ethernet frame of a HEEL copy on a port. -/
def heelFrame (s : State) (v p : Nat) (frame : Bytes) : Bytes :=
  if s.vcnUdp then
    let ip := (s.reg R.VCN_GROUP_IP).toNat
    let port := s.field R.VCN_UDP 15 0
    s.ether p (groupMac ip) none 0x0800 (udp4 v (s.field R.VCN_UDP 29 24) (atLeast1 (s.field R.VCN_TTL 7 0)) (s.reg R.VCN_SRC_IP).toNat ip port port frame)
  else s.ether p (beBytes 6 0x034B5A564300)
    (if s.flag R.VCN_CTRL 4 then some (s.field R.VCN_VLAN 22 20 * 8192 + s.field R.VCN_VLAN 11 0) else none) (s.field R.VCN_ETHERTYPE 15 0) frame

/-- The ports on which Vocon runs. -/
def vcnPorts (s : State) : List Nat := (List.range 32).filter s.vcnPort

/-- R269, R272: a copy goes to every Vocon port, in queue 7, with one SEQ. -/
def heelSend (s : State) (x : HeelEp) (k : Nat) : State :=
  let payload := (Ts80.ofNs (x.t / uNs).toNat).toBytes ++ beBytes 1 k ++ beBytes 1 (2 * b2n x.apply + b2n x.void)
    ++ beBytes 4 x.gen.toNat ++ List.replicate 8 0
  let (b, s) := s.vcnFrame 3 0 0 0xFFFF x.epoch 0 0 0 payload
  match b with
  | none => s
  | some b =>
    let (v, s) := if s.vcnUdp then s.fresh else (0, s)
    let s := s.vcnPorts.foldl (fun s p => s.enqueue p { queue := 7, bytes := s.heelFrame v p b, use := .heel x.epoch x.t }) s
    let s := (s.bump R.HEEL_COPY_CNT).heelFlags x
    let s := s.bumpIf (k == 0) R.HEEL_SENT_CNT
    if k == 0 && x.void then (s.bump R.HEEL_VOID_CNT).raise R.HEEL_STATUS 2 else s

/-- The epoch and copy that is scheduled next. -/
def nextCopy (s : State) : Option HeelEp :=
  (s.heel.eps.filter (fun x => decide (x.copy < 3) && !x.missed)).getLast?

/-- R269: HEEL and Vocon run. -/
def heelOn (s : State) : Bool := s.flag R.HEEL_CTRL 0 && s.vcnEn

/-- R269: HEEL or Vocon has been enabled: epochs whose copy 0 was due before that have no copies scheduled (log entry 64). -/
def heelStart (old s : State) : State :=
  if old.heelOn || !s.heelOn then s
  else s.setHeel { s.heel with eps := s.heel.eps.map (fun x => if s.heelCopyTime x 0 < s.lt then { x with copy := 3 } else x) }

/-- R269, R270: the next scheduled copy is sent, or skipped. -/
def heelCopy (s : State) : State :=
  match s.nextCopy with
  | none => s
  | some x =>
    let k := x.copy
    let at_ := s.heelCopyTime x k
    let late := decide (x.t - 10000 * uNs < at_) || x.passed.contains k
    let s := if late then s else s.waitUntil at_
    let (apply, gen) := if k = 0 then s.carryOf x.epoch else (x.apply, x.gen)
    let x := { x with void := s.isVoid x.epoch, apply := apply, gen := gen, copy := k + 1 }
    if !s.heelOn then s.putEp x
    else if late then
      let s := (s.bump R.HEEL_SKIP_CNT).raise R.HEEL_STATUS 1
      if k = 0 then
        let s := (((s.putEp { x with missed := true }).bump R.HEEL_MISSED_CNT).raise R.HEEL_STATUS 0).heelFlags x
        (s.carryStep x.epoch false).verCloseNow x.epoch
      else s.putEp x
    else
      let s := s.putEp x
      if s.vcnSilent || !s.sendsEpoch x.epoch then s
      else
        let s := s.heelSend x k
        if k = 0 then s.carryStep x.epoch true else s

/-- R276: a Vocon port that is no PTP master port, at an application of group 0 or 6. -/
def notMaster (s : State) : State :=
  s.raiseIf (s.vcnPorts.any (fun p => !s.flag R.TIME_PTP_MASTER_LO p)) R.HEEL_STATUS 3

end State

/-! ## Meanings -/

def execHeelOutEdge (pin : Nat) (s : State) : Host.Outcome State Fault Refusal := onMain s (·.heelOutEdge pin)

def execHeelOutPulseEnd (pin : Nat) (s : State) : Host.Outcome State Fault Refusal := onMain s (·.heelOutEnd pin)

end Sys2Proof.Machine
end

