-- ==== Sys2Proof/Machine/Plan.lean ====
section
/-! DEFINITION. Drive plans (07), besides the operations of the graph: the fit checks at run time (R216), LED diagnosis
(R225–R228). -/

namespace Sys2Proof.Machine

namespace State

def setPlan (s : State) (p : PlanSt) : State := { s with plan := p }

/-! ## Fit (R216) -/

/-- The PACK_PLAN nodes of a graph, with their numbers. -/
def packNodes (g : Graph) : List (Nat × Node) := (indexed g.nodes).filter (fun n => n.2.op == 0x10)

/-- R216: the layouts of the live graph that do not fit the live frame period: node and layout. -/
def misfits (s : State) : List (Nat × Nat) :=
  match s.kennel.graph with
  | none => []
  | some g => (packNodes g).flatMap (fun n => ((List.range (n.2.f 0x18 1)).filter (fun i =>
      !(Layout.read (n.2.table g.table) i).fits s.time.num s.time.den)).map (fun i => (n.1, i)))

/-- R216: a check of the live graph. -/
def fitCheck (s : State) : State :=
  let l := s.misfits
  (s.setPlan { s.plan with fitFail := l }).raiseIf (!l.isEmpty) R.PLAN_STATUS 4

/-- R216: PLAN_FIT_CNT counts, once per rendered frame, each failing layout that a tile entry names. -/
def fitCount (s : State) : State :=
  match (if s.kennel.run then s.kennel.graph else none) with
  | none => s
  | some g =>
    let named := s.plan.fitFail.filter (fun x => match g.nodes[x.1]? with
      | some n => let t := n.table g.table; (List.range 32768).any (fun i => (planTile t (n.f 0x18 1) i).1 == x.2)
      | none => false)
    s.count R.PLAN_FIT_CNT named.length

/-! ## LED diagnosis (R225–R228) -/

/-- R227: the base of the status table. -/
def ledTable (s : State) : Nat := s.field R.PLAN_LEDTAB_HI 1 0 * 2 ^ 32 + s.field R.PLAN_LEDTAB_LO 31 6 * 64

/-- The tile's layout, DIAG and LED_BASE: of the first PACK_PLAN node of the live graph whose tile table names a layout. -/
def planOf (s : State) (tile : Nat) : Option (Layout × Bool × Nat) :=
  match s.kennel.graph with
  | none => none
  | some g => (packNodes g).findSome? (fun n =>
      let t := n.2.table g.table
      let e := planTile t (n.2.f 0x18 1) tile
      if 32768 ≤ tile ∨ e.1 = 255 then none else some (Layout.read t e.1, e.2.1, e.2.2))

/-- R225: the epoch that a tile's REPORT says it latched. -/
def noteLatched (s : State) (tile : Nat) (e : Epoch) : State :=
  let rest := s.plan.latched.filter (fun x => !(x.1 == tile && x.2 == e))
  s.setPlan { s.plan with latched := (tile, e) :: rest }

/-- R227: the STATUS bytes, off 0, of the entries among the first PLAN_LED_COUNT, that satisfy p. -/
def ledCells (s : State) (p : Nat → Bool) : Nat :=
  (s.dram.filter (fun c => decide (s.ledTable ≤ c.1) && decide (c.1 < s.ledTable + 8 * s.ledCount)
    && (c.1 - s.ledTable) % 8 == 4 && p c.2.toNat)).length

/-- R227: PLAN_LED_FAULT and PLAN_LED_UNMEAS: the entries that hold FAULT, and UNMEASURED. -/
def ledFaults (s : State) : Nat := s.ledCells (fun v => v % 4 == 2)
def ledUnmeas (s : State) : Nat := s.ledCount - s.ledCells (fun v => v % 4 != 0)

/-- R226, R227: an LED's entry takes a valid measurement, by one write of its 8 bytes. -/
def measureLed (s : State) (led : Nat) (e : Epoch) (sniff opened shorted : Bool) : State :=
  let a := s.ledTable + 8 * led
  let old := s.rdLE (a + 4) 1
  let was := old % 4
  let fault := opened || shorted
  let faults := s.rdLE (a + 5) 1
  let s := s.wrBytes a (leBytes 4 e.toNat ++ leBytes 1 (8 * b2n sniff + 4 * b2n shorted + (if fault then 2 else 1))
    ++ leBytes 1 (if fault then min 255 (faults + 1) else faults) ++ [0, 0])
  if fault && was != 2 then (s.raise R.PLAN_STATUS 5).setReg R.PLAN_LAST_FAULT_IDX (w32 led) else s

/-- R225: a report is discarded. -/
def reportDrop (s : State) : State := (s.bump R.PLAN_REPORT_DROP_CNT).raise R.PLAN_STATUS 6

/-- R225: whether the plan of tile t for epoch e carried the flag that a report of a KIND claims. -/
def flagClaimed (s : State) (t kind : Nat) (e : Epoch) : Bool :=
  s.plan.flagged.any (fun x => x.1 == t && x.2.1 == e && ((kind == 0 && x.2.2.1) || (kind == 1 && x.2.2.2)))

/-- R225, R226: one detection record of tile t for epoch e. -/
def detectReport (s : State) (t : Nat) (e : Epoch) (kind line chain nbits : Nat) (opened shorted : Bytes) : State :=
  match s.planOf t with
  | none => s.reportDrop
  | some (y, diag, ledBase) =>
    let ok := s.flag R.PLAN_CTRL 0 && !s.plan.clearing && diag && decide (ledBase + 3 * y.w * y.h ≤ s.ledCount)
      && nbits == y.p * y.c && decide (line < y.l) && decide (chain < y.k)
      && s.flagClaimed t kind e && s.plan.latched.contains (t, e)
      && (kind == 0 || Sparse.get 0 s.plan.maskEpoch t == e)
    if !ok then s.reportDrop
    else
      let s := s.bump R.PLAN_REPORT_CNT
      let row := chain / y.kg * y.l + line
      let maskBase := s.field R.PLAN_MASK_HI 1 0 * 2 ^ 32 + s.field R.PLAN_MASK_LO 31 6 * 64
      let lit := decide (s.field R.PLAN_DET_MIN 15 0 ≤ y.onTime y.det)
      (List.range nbits).foldl (fun s i =>
        let n := y.slotAt (chain % y.kg) i
        if 3 * y.w ≤ n then s
        else
          let led := ledBase + row * y.w * 3 + n
          let valid := kind == 0 || (lit && (s.rd8 (maskBase + led / 8)).getLsbD (led % 8))
          if valid then s.measureLed led e (kind == 0) (bitOf opened i) (bitOf shorted i) else s) s

/-- R230: PLAN_DIAG_MAXAGE, clamped. -/
def diagMaxAge (s : State) : Nat := clampNat 1 0x7FFFFFFF (s.reg R.PLAN_DIAG_MAXAGE).toNat

/-- R227: the ageing rewrite of one entry. -/
def ledAge (s : State) (led : Nat) : State :=
  let a := s.ledTable + 8 * led
  let st := s.rdLE (a + 4) 1
  let age := (s.time.epoch - BitVec.ofNat 32 (s.rdLE a 4)).toNat
  if led < s.ledCount ∧ st % 4 ≠ 0 ∧ s.diagMaxAge < age then
    ((s.wrLE (a + 4) 1 (st / 4 * 4)).bump R.PLAN_AGED_CNT).raise R.PLAN_STATUS 8
  else s

/-- R228: PLAN_DIAG_STAT. -/
def diagStat (s : State) (running : Bool) (status : Nat) : State := s.setReg R.PLAN_DIAG_STAT (w32 (256 * b2n running + status))

/-- R228: a write of PLAN_DIAG_CMD. -/
def diagCmd (s : State) (c : Nat) : State :=
  if c ≠ 1 then s.diagStat s.plan.clearing stBadOpcode
  else if s.plan.clearing then s.diagStat true stConflict
  else (s.setPlan { s.plan with clearing := true }).diagStat true stOk

/-- R228: a CLEAR finishes. -/
def diagCleared (s : State) : State :=
  if !s.plan.clearing then s
  else
    let n := s.ledCount
    let b := s.ledTable
    let s : State := { s with dram := s.dram.filter (fun c => decide (c.1 < b) || decide (b + 8 * n ≤ c.1)) }
    ((s.setPlan { s.plan with clearing := false }).diagStat false stOk).raise R.PLAN_STATUS 7

end State

/-! ## Meanings -/

def execPlanDiagClear (s : State) : Host.Outcome State Fault Refusal := onMain s (·.diagCmd 1)

def execPlanDiagClearDone (s : State) : Host.Outcome State Fault Refusal := onMain s (·.diagCleared)

def execLedStatusAge (led : Nat) (s : State) : Host.Outcome State Fault Refusal := onMain s (·.ledAge led)

end Sys2Proof.Machine
end

