-- ==== Sys2Proof/Machine/SheafTile.lean ====
section
/-! DEFINITION. Sheaf and the tiles (R475, R476, R479): the expected table, a tile's report, and the acknowledgements of an arm. -/

namespace Sys2Proof.Machine

namespace State

def setSheaf (s : State) (x : SheafSt) : State := { s with sheaf := x }

/-- R475: the base of the expected table, and the entry of a tile. -/
def expBase (s : State) : Nat := s.field R.SHEAF_EXPTAB_HI 1 0 * 2 ^ 32 + s.field R.SHEAF_EXPTAB_LO 31 6 * 64
def expEntry (s : State) (t : Nat) : Nat := s.expBase + 64 * t

/-- R475: CHECK and TARGET of a tile. -/
def sheafCheck (s : State) (t : Nat) : Bool := s.rdLE (s.expEntry t + 0x10) 1 % 2 == 1
def sheafTarget (s : State) (t : Nat) : Bool := s.rdLE (s.expEntry t + 0x10) 1 / 2 % 2 == 1

/-- R475: STATE of a tile. -/
def sheafState (s : State) (t : Nat) : Nat := s.rdLE (s.expEntry t + 0x30) 1

/-- R483: SHEAF_CTRL. -/
def sheafEn (s : State) : Bool := s.flag R.SHEAF_CTRL 0
def sheafTiles (s : State) : Bool := s.sheafEn && s.flag R.SHEAF_CTRL 1

/-- R476: the STATE that a digest and a generation give a tile. -/
def sheafJudge (s : State) (t digest : Nat) (gen : Word) : Nat :=
  let d := (s.reg R.SHEAF_GEN - gen).toNat
  if d = 0 then
    (if digest = s.rdLE (s.expEntry t + (if s.sheaf.expSel then 8 else 0)) 8 then 1 else 2)
  else if d < 2 ^ 31 then 3 else 4

/-- R476: a tile's STATE changes; one that leaves AGREE is reported. -/
def sheafLeaves (s : State) (t old new : Nat) : State :=
  if old = 1 ∧ new ≠ 1 ∧ new ≠ 0 then (s.setReg R.SHEAF_LAST_TILE (w32 t)).raise R.SHEAF_STATUS (new + 1) else s

/-- R479: tile t is a target of arm a: TARGET as it stands, or what was BEHIND when a TILES_ONLY arm was accepted. -/
def armTarget (s : State) (a : Arm) (t : Nat) : Bool := if a.tilesOnly then a.targets.contains t else s.sheafTarget t

/-- R479: a REPORT that carries the arm acknowledges it. -/
def sheafAck (s : State) (t : Nat) (armEpoch : Epoch) (armGen : Word) : State :=
  match s.sheaf.arm with
  | none => s
  | some a =>
    if armEpoch = a.epoch ∧ armGen = a.gen ∧ s.armTarget a t = true ∧ ¬ a.acked.contains t then
      (s.setSheaf { s.sheaf with arm := some { a with acked := t :: a.acked } }).bump R.SHEAF_ACKED
    else s

/-- R476, R479: the Sheaf fields of a REPORT of tile t with header EPOCH e. -/
def sheafReport (s : State) (t : Nat) (e : Epoch) (p : Bytes) : State :=
  if !s.sheafEn then s
  else
    let digest := beAt p 0x10 8
    let gen : Word := w32 (beAt p 0x18 4)
    let s := s.sheafAck t (w32 (beAt p 0x1C 4)) (w32 (beAt p 0x20 4))
    if !s.sheafTiles || !s.sheafCheck t then s
    else
      let old := s.sheafState t
      let new := s.sheafJudge t digest gen
      let s := s.wrBytes (s.expEntry t + 0x18) (leBytes 8 digest ++ leBytes 4 gen.toNat ++ leBytes 4 e.toNat
        ++ leBytes 4 (beAt p 0x1C 4) ++ leBytes 4 (beAt p 0x20 4) ++ leBytes 8 new)
      s.sheafLeaves t old new

/-- The tiles whose entry in the expected table holds a byte that is not 0. -/
def expTiles (s : State) : List Nat :=
  let b := s.expBase
  (s.dram.filterMap (fun c => if b ≤ c.1 ∧ c.1 < b + 0x200000 then some ((c.1 - b) / 64) else none)).eraseDups

/-- R476: at a change of SHEAF_GEN every CHECK tile is judged anew from its stored REP_GEN and REP_DIGEST. An UNKNOWN tile in whose entry
nothing is stored has never reported, and stays UNKNOWN (log entry 39). -/
def sheafRejudge (s : State) : State :=
  if !s.sheafTiles then s
  else s.expTiles.foldl (fun s t =>
    let old := s.sheafState t
    if !s.sheafCheck t || (old == 0 && (s.rdBytes (s.expEntry t + 0x18) 24).all (· == 0)) then s
    else
      let new := s.sheafJudge t (s.rdLE (s.expEntry t + 0x18) 8) (w32 (s.rdLE (s.expEntry t + 0x20) 4))
      (s.wrLE (s.expEntry t + 0x30) 1 new).sheafLeaves t old new) s

/-- R476: a new table base resets STATE to UNKNOWN. -/
def sheafNewBase (s : State) : State := s.expTiles.foldl (fun s t => s.wrLE (s.expEntry t + 0x30) 1 0) s

/-- R476: the number of CHECK tiles in a STATE. A tile whose entry holds only zeros has CHECK = 0. -/
def sheafCount (s : State) (st : Nat) : Nat :=
  (s.expTiles.filter (fun t => s.sheafCheck t && (let x := s.sheafState t; x == st || (st == 0 && 4 < x)))).length

end State

end Sys2Proof.Machine
end

