-- ==== Sys2Proof/Machine/VoconRx.lean ====
section
/-! DEFINITION. Vocon from the tiles (R243, R252–R264): the receive checks, HELLO and the routes, ECHO, DIAG and the tile log, and
the endpoint table's record of when a tile was last heard (R292). -/

namespace Sys2Proof.Machine

/-- A received Vocon frame that has passed checks 1 to 5 of R243. -/
structure VcnRx where
  type : Nat
  sub : Nat
  src : Nat
  epoch : Epoch
  ts : Word
  payload : Bytes
deriving DecidableEq, Repr

/-- The fields of a frame whose header is well formed. -/
def VcnRx.read (l : Bytes) : VcnRx :=
  { type := beAt l 3 1, sub := beAt l 5 1, src := beAt l 8 2, epoch := w32 (beAt l 12 4), ts := w32 (beAt l 28 4)
    payload := slice l 32 (beAt l 6 2) }

namespace State

/-! ## Checks (R243) -/

/-- R243, check 1, with AUTH from the header. In layer-2 mode a short Ethernet frame carries padding behind the CRC: the frame may
then be longer, up to the 46 bytes that the shortest Ethernet payload has (DEDUCED). -/
def rxShape (s : State) (l : Bytes) : Option Bytes :=
  let len := beAt l 6 2
  let n := 36 + len + (if 128 ≤ beAt l 4 1 then 16 else 0)
  let fits := l.length == n || (!s.vcnUdp && decide (n ≤ l.length) && decide (l.length ≤ 46))
  if 36 ≤ l.length ∧ beAt l 0 2 = 0x564E ∧ beAt l 2 1 = 1 ∧ 1 ≤ beAt l 3 1 ∧ beAt l 3 1 ≤ 8 ∧ len ≤ 9000 ∧ fits = true
  then some (l.take n) else none

/-- R240: the tag of a received frame is as the mode asks. -/
def rxTag (s : State) (l : Bytes) : Bool × State :=
  let tagged := decide (128 ≤ beAt l 4 1)
  match s.vcnAuth, tagged with
  | 0, t => (!t, s)
  | 1, false => (true, s)
  | _, false => (false, s)
  | _, true =>
    let (k, s) := s.askKey (s.field R.VCN_AUTH_SLOT 5 0) 2
    let n := 32 + beAt l 6 2
    (match k with
      | some k => Config.gmac k (vcnIv l) (l.take n) % 2 ^ 128 == beAt l n 16
      | none => false, s)

def rxBad (s : State) (cnt b : Nat) : State := (s.bump cnt).raise R.VCN_STATUS b

/-- R243: a malformed frame. -/
def rxMalformed (s : State) : State := s.rxBad R.VCN_RX_MALFORMED_CNT 0

/-- R243: checks 1 to 5. -/
def rxCheck (s : State) (l : Bytes) : Option VcnRx × State :=
  match s.rxShape l with
  | none => (none, s.rxMalformed)
  | some l =>
    if crc32c (l.take (l.length - 4)) ≠ beAt l (l.length - 4) 4 then (none, s.rxBad R.VCN_RX_CRC_CNT 1)
    else
      let (ok, s) := s.rxTag l
      if !ok then (none, s.rxBad R.VCN_RX_AUTH_CNT 2)
      else
        let x := VcnRx.read l
        let dst := beAt l 10 2
        if 0x8000 ≤ x.src ∨ ¬ (dst = s.devId ∨ (dst = 0xFFFF ∧ x.type = 1)) then (none, s.rxMalformed)
        else if x.type ≠ 1 ∧ ¬ (s.routeOf x.src).valid then (none, s.bump R.VCN_RX_UNKNOWN_CNT)
        else (some x, s)

/-- R87: the TS32 of a tile's frame, extended against local time at its arrival. -/
def noteStamp (s : State) (x : VcnRx) : State :=
  s.setVcn { s.vocon with stamps := Sparse.put 0 s.vocon.stamps x.src (ts32Extend (s.lt / uNs) x.ts) }

/-- A received frame on a port where Vocon runs, given to f when it passes the checks and is of the type. -/
def vcnRx (s : State) (port : Nat) (l : Bytes) (p : VcnRx → Bool) (f : State → VcnRx → State) : State :=
  if !(s.vcnEn && s.vcnPort port && s.rxReady port) then s
  else match s.rxCheck l with
    | (some x, s') => if p x then f (s'.noteStamp x) x else s
    | (none, s') => s'

/-! ## The tile log (R262) -/

def logTile (s : State) (port reason : Nat) (x : VcnRx) : State :=
  let head := s.field R.VCN_LOG_HEAD 11 0
  if (head + 1) % 4096 = s.field R.VCN_LOG_TAIL 11 0 then s.raise R.VCN_STATUS 12
  else
    let a := s.field R.VCN_LOG_HI 1 0 * 2 ^ 32 + s.field R.VCN_LOG_LO 31 16 * 65536 + 64 * head
    let s := s.wrBytes a (leBytes 2 x.src ++ leBytes 1 port ++ leBytes 1 reason ++ leBytes 4 x.epoch.toNat
      ++ leBytes 2 x.payload.length ++ leBytes 1 x.sub ++ [0] ++ slice x.payload 0 52)
    (s.setReg R.VCN_LOG_HEAD (w32 ((head + 1) % 4096))).raise R.VCN_STATUS 11

/-! ## HELLO (R260, R261) -/

/-- R260: the acknowledgement. -/
def helloAck (s : State) (port t : Nat) : State :=
  if !s.vcnSends then s
  else
    let payload := beBytes 2 s.fragMax ++ beBytes 2 (clampNat 1 3600 (s.field R.VCN_HELLO_PERIOD 11 0))
      ++ beBytes 4 (if s.vcnUdp then (s.reg R.VCN_SRC_IP).toNat else 0)
    match s.vcnFrame 1 0 1 t s.time.epoch 0 0 0 payload with
    | (some b, s) => s.vcnPut port t b (.cfg none 0)
    | (none, s) => s

def helloEpoch (s : State) (t : Nat) : State := s.wrLE (s.routeAddr t + 0x14) 4 s.time.epoch.toNat

/-- R261: bytes 0x00–0x0B of an entry that HELLO fills; FLAGS as given. -/
def fillRoute (s : State) (t port flags : Nat) (x : VcnRx) : State :=
  s.wrBytes (s.routeAddr t) (slice x.payload 0 6 ++ leBytes 1 port ++ leBytes 1 flags ++ leBytes 4 (beAt x.payload 0x30 4))

/-- R261: a conflict. -/
def helloConflict (s : State) (port : Nat) (x : VcnRx) : State :=
  (((s.bump R.VCN_ID_CONFLICT_CNT).raise R.VCN_STATUS 4)).logTile port 2 x

/-- R261. -/
def hello (s : State) (port : Nat) (x : VcnRx) : State :=
  if x.sub ≠ 0 ∨ x.payload.length ≠ 52 then s.rxMalformed
  else
    let t := x.src
    let r := s.routeOf t
    let flags := s.rdLE (s.routeAddr t + 7) 1
    if beAt x.payload 0x10 2 < s.fragMax then s.logTile port 4 x
    else if r.valid then
      if r.mac = slice x.payload 0 6 ∧ r.port = port then (s.helloEpoch t).helloAck port t
      else if !r.static && s.vcnLearn && decide ((s.reg R.VCN_CONFLICT_HOLD).toNat < (s.time.epoch - r.hello).toNat) then
        (((s.fillRoute t port flags x).helloEpoch t).helloAck port t).logTile port 1 x
      else s.helloConflict port x
    else if s.vcnLearn && flags / 4 % 2 == 0 then
      (((s.fillRoute t port (flags / 4 * 4 + 3) x).helloEpoch t).helloAck port t).logTile port 0 x
    else s.logTile port 3 x

/-! ## ECHO (R252–R259) -/

/-- R291: the base of the endpoint table. -/
def eptBase (s : State) : Nat := s.field R.FIX_EPT_HI 1 0 * 2 ^ 32 + s.field R.FIX_EPT_LO 31 16 * 65536

/-- R292: endpoint i of a type was heard from in epoch e. -/
def eptSeen (s : State) (i type : Nat) (e : Epoch) : State :=
  let a := s.eptBase + 32 * i
  if s.rdLE a 1 ≠ type then s
  else
    let h := s.rdLE (a + 0x14) 1
    s.wrBytes (a + 0x10) (leBytes 4 e.toNat ++ leBytes 1 (h / 4 * 4 + (if h % 4 = 3 then 3 else 1)))

/-- R458: an accepted ECHO goes to the partner; its length, port and epoch stand before it. -/
def echoForward (s : State) (port : Nat) (l : Bytes) : State :=
  if s.brace.state != .active then s
  else
    let n := 32 + beAt l 6 2
    s.braceSend 4 (beBytes 2 n ++ beBytes 1 port ++ [0] ++ beBytes 4 s.time.epoch.toNat ++ l.take n)

/-- R259: what every accepted ECHO does. -/
def echoSeen (s : State) (port : Nat) (x : VcnRx) : State :=
  let s := (s.eptSeen x.src 1 x.epoch).bump R.VCN_RX_ECHO_CNT
  let r := s.routeOf x.src
  if r.port = port then s
  else
    let s := s.bump R.VCN_PORT_MOVED_CNT
    if s.vcnLearn && !r.static then s.wrLE (s.routeAddr x.src + 6) 1 port else s

/-- R256: the window entries of a REPORT. -/
def repWins (p : Bytes) : List (Nat × Word) :=
  (List.range (beAt p 0x0B 1)).map (fun i => (beAt p (0x40 + 8 * i) 2, w32 (beAt p (0x44 + 8 * i) 4)))

/-- R256: a REPORT is well formed. -/
def repOk (p : Bytes) : Bool := p.length == 64 + 8 * beAt p 0x0B 1 && (repWins p).all (fun w => decide (w.1 ≤ 4095))

/-- R259, R458: TEMP and the Sheaf fields reach CALIB and Sheaf. -/
def repDeliver (s : State) (t : Nat) (e : Epoch) (p : Bytes) : State :=
  let temp := beAt p 0x0C 2
  let s := if temp = 0x8000 then s else s.tempReport t (signed 16 temp) e
  s.sheafReport t e p

/-- R458: with brace enabled, TEMP and the Sheaf fields wait for step 1 of the boundary that starts `accepted` + 2; after it
they are left out. -/
def repTimed (s : State) (x : VcnRx) (accepted : Epoch) : State :=
  if !s.braceOn then s.repDeliver x.src x.epoch x.payload
  else
    let due := accepted + 2
    if reached due s.time.epoch then s
    else { s with brace := { s.brace with deferred := s.brace.deferred
      ++ [{ due := due, tile := x.src, epoch := x.epoch, payload := x.payload }] } }

/-- R256, R87: a REPORT's HEALTH is kept for the host, and its LATCH_TS32 is extended against local time at its arrival. -/
def noteReport (s : State) (t : Nat) (p : Bytes) : State :=
  s.setVcn { s.vocon with health := Sparse.put [] s.vocon.health t (slice p 0x2C 20)
                          latches := Sparse.put 0 s.vocon.latches t (ts32Extend (s.lt / uNs) (w32 (beAt p 4 4))) }

/-- R259: a REPORT. -/
def echoReport (s : State) (port : Nat) (accepted : Epoch) (x : VcnRx) : State :=
  if !repOk x.payload then s.rxMalformed
  else
    let p := x.payload
    let s := ((s.echoSeen port x).noteReport x.src p).noteLatched x.src (w32 (beAt p 0 4))
    let s := s.verReport x.epoch x.src (beAt p 0x0A 1 % 2 == 1) (repWins p)
    s.repTimed x accepted

/-- R252: the ranges of a LOSS: first index and count. -/
def lossRanges (p : Bytes) : List (Nat × Nat) :=
  (List.range (beAt p 0 2)).map (fun i => (beAt p (4 + 4 * i) 2, beAt p (6 + 4 * i) 2))

def lossOk (p : Bytes) : Bool := decide (1 ≤ beAt p 0 2) && decide (beAt p 0 2 ≤ 1024) && p.length == 4 + 4 * beAt p 0 2

/-- R253: one fragment is resent, or denied. -/
def resendOne (t : Nat) (e : Epoch) (s : State) (j : Nat) : State :=
  match s.tilePlan t e with
  | none => s.resendDenied 1
  | some p =>
    let port := (s.routeOf t).port
    if s.isVoid e || !s.windowOpen e || p.void || !p.ready.contains j || decide (s.field R.VCN_RESEND_MAX 15 0 ≤ p.resent) || !s.vcnPort port
    then s.resendDenied 1
    else
      let s := s.setTilePlan t { p with resent := p.resent + 1 }
      let q := s.vcnQueue port
      s.setVcnQueue port (q.takeWhile (·.resend) ++ { tile := t, epoch := e, idx := j, resend := true } :: q.dropWhile (·.resend))

/-- R253: a LOSS is served. A plan that is not staged any more names no FRAG_CNT: all its fragments are denied. -/
def serveLoss (s : State) (t : Nat) (e : Epoch) (p : Bytes) : State :=
  match s.tilePlan t e with
  | none => s.resendDenied ((lossRanges p).map (·.2)).sum
  | some q => (lossRanges p).foldl (fun s r =>
      ((List.range (min r.2 (q.frags - r.1))).map (r.1 + ·)).foldl (resendOne t e) s) s

/-- R258: the records of a DETECT payload: kind, line, chain, NBITS, open and short bits; none where it is malformed. The first
argument is fuel. -/
def detRecords : Nat → Bytes → Option (List (Nat × Nat × Nat × Nat × Bytes × Bytes))
  | 0, _ => none
  | k + 1, p =>
    if p.isEmpty then some []
    else
      let n := beAt p 4 2
      let b := n / 8
      if p.length < 8 ∨ n = 0 ∨ 3072 < n ∨ n % 16 ≠ 0 ∨ p.length < 8 + 2 * b then none
      else (detRecords k (p.drop (8 + 2 * b))).map
        ((beAt p 0 1, beAt p 1 1, beAt p 2 1, n, slice p 8 b, slice p (8 + b) b) :: ·)

/-- R258, R259: a DETECT. -/
def echoDetect (s : State) (port : Nat) (x : VcnRx) : State :=
  match detRecords (x.payload.length + 1) x.payload with
  | none | some [] => s.rxMalformed
  | some l => l.foldl (fun s r => s.detectReport x.src x.epoch r.1 r.2.1 r.2.2.1 r.2.2.2.1 r.2.2.2.2.1 r.2.2.2.2.2) (s.echoSeen port x)

/-- R253, R259: a LOSS; a standby serves none (R458). -/
def echoLoss (s : State) (port : Nat) (x : VcnRx) : State :=
  if !lossOk x.payload then s.rxMalformed
  else
    let s := s.echoSeen port x
    if s.sendsEpoch x.epoch then s.serveLoss x.src x.epoch x.payload else s

/-- R459, R458: a frame forwarded by the active, accepted there in epoch `accepted`; one that comes after the boundary that starts
`accepted` + 2 counts. -/
def echoForwarded (s : State) (port : Nat) (accepted : Epoch) (l : Bytes) : State :=
  let x := VcnRx.read l
  let s := (s.noteStamp x).bumpIf (s.braceOn && reached (accepted + 2) s.time.epoch) R.BRACE_FWD_LATE_CNT
  match x.sub with
  | 0 => s.echoReport port accepted x
  | 1 => if lossOk x.payload then s.echoSeen port x else s.rxMalformed
  | 2 => s.echoDetect port x
  | _ => s.rxMalformed

/-- Each ECHO subtype has its row. REPORT's row also takes the subtypes that R252, R256 and R258 do not define and the types that
only a device sends (R235): both are malformed (DEDUCED). -/
def isEcho (sub : Nat) (x : VcnRx) : Bool :=
  (x.type == 4 && (x.sub == sub || (sub == 0 && decide (3 ≤ x.sub))))
    || (sub == 0 && (x.type == 2 || x.type == 3 || x.type == 5 || x.type == 6))

def rxReport (s : State) (port : Nat) (l : Bytes) : State :=
  s.vcnRx port l (isEcho 0) (fun s x =>
    if x.type ≠ 4 ∨ x.sub ≠ 0 ∨ !repOk x.payload then s.rxMalformed else (s.echoReport port s.time.epoch x).echoForward port l)

def rxLoss (s : State) (port : Nat) (l : Bytes) : State :=
  s.vcnRx port l (isEcho 1) (fun s x => if !lossOk x.payload then s.rxMalformed else (s.echoLoss port x).echoForward port l)

def rxDetect (s : State) (port : Nat) (l : Bytes) : State :=
  s.vcnRx port l (isEcho 2) (fun s x =>
    if (match detRecords (x.payload.length + 1) x.payload with
      | none | some [] => true
      | _ => false) then s.rxMalformed else (s.echoDetect port x).echoForward port l)

/-! ## DIAG (R264) -/

/-- R264: a PING is answered with a PONG on the port it came from. -/
def pingRx (s : State) (port : Nat) (x : VcnRx) : State :=
  if 64 < x.payload.length then s.rxMalformed
  else if !s.vcnSends then s
  else match s.vcnFrame 8 0 1 x.src s.time.epoch 0 0 0 (beBytes 4 s.nowTs32.toNat ++ x.payload) with
    | (some b, s) => s.vcnPut port x.src b (.cfg none 0)
    | (none, s) => s

end State

/-! ## Meanings -/

def execHelloRx (port : Nat) (frame : Bytes) (s : State) : Host.Outcome State Fault Refusal :=
  onMain s (fun s => s.vcnRx port frame (fun x => x.type == 1) (fun s x => s.hello port x))

def execEchoReportRx (port : Nat) (frame : Bytes) (s : State) : Host.Outcome State Fault Refusal := onMain s (·.rxReport port frame)

def execEchoLossRx (port : Nat) (frame : Bytes) (s : State) : Host.Outcome State Fault Refusal := onMain s (·.rxLoss port frame)

def execEchoDetectRx (port : Nat) (frame : Bytes) (s : State) : Host.Outcome State Fault Refusal := onMain s (·.rxDetect port frame)

def execDiagPingRx (port : Nat) (frame : Bytes) (s : State) : Host.Outcome State Fault Refusal :=
  onMain s (fun s => s.vcnRx port frame (fun x => x.type == 8 && x.sub == 0) (fun s x => s.pingRx port x))

def execDiagTileRx (port : Nat) (frame : Bytes) (s : State) : Host.Outcome State Fault Refusal :=
  onMain s (fun s => s.vcnRx port frame (fun x => x.type == 8 && decide (2 ≤ x.sub)) (fun s x => s.logTile port 5 x))

end Sys2Proof.Machine
end

