-- ==== Sys2Proof/Machine/Fixture.lean ====
section
/-! DEFINITION. Fixture output (R291–R312): the fixture sink, the slot store and its images, sACN output and input, the endpoint
table's ageing, DMX512-A and RDM. -/

namespace Sys2Proof.Machine

/-- R294: an entry of the output universe table. -/
structure OutUni where
  uni : Nat
  en : Bool
  sacn : Bool
  preview : Bool
  ovr : Bool
  source : Nat
  prio : Nat
  inIdx : Nat
  port : Nat
  destIp : Nat
deriving DecidableEq, Repr

namespace State

def setFix (s : State) (f : FixtureSt) : State := { s with fixture := f }

/-! ## Options (R313, R314) -/

def fixEn (s : State) : Bool := s.flag R.FIX_CTRL 0
def fixOut (s : State) : Bool := s.fixEn && s.flag R.FIX_CTRL 1
def fixIn (s : State) : Bool := s.fixEn && s.flag R.FIX_CTRL 2
def fixBase (s : State) (lo hi : Nat) : Nat := s.field hi 1 0 * 2 ^ 32 + s.field lo 31 16 * 65536
def outCount (s : State) : Nat := min 32768 (s.field R.FIX_OUT_COUNT 16 0)
def inCount (s : State) : Nat := min 4096 (s.field R.FIX_IN_COUNT 12 0)
def slotBase (s : State) : Nat := s.fixBase R.FIX_SLOT_LO R.FIX_SLOT_HI

/-- R314: SYNC_UNIV; 0 disables. -/
def syncUniv (s : State) : Nat := let v := s.field R.FIX_SYNC 15 0; if 63999 < v then 0 else v

/-- R294: entry u of the output universe table; an entry whose universe number is none is disabled. -/
def outUni (s : State) (u : Nat) : OutUni :=
  let e := s.rdBytes (s.fixBase R.FIX_OUT_LO R.FIX_OUT_HI + 32 * u) 16
  let fl := leAt e 2 1
  let n := leAt e 0 2
  { uni := n, en := decide (u < s.outCount) && decide (1 ≤ n) && decide (n ≤ 63999) && decide (128 ≤ fl)
    sacn := fl / 64 % 2 == 1, preview := fl / 32 % 2 == 1, ovr := fl / 16 % 2 == 1, source := fl / 4 % 4 % 3
    prio := min 200 (leAt e 3 1), inIdx := leAt e 4 2, port := leAt e 6 1, destIp := leAt e 8 4 }

/-- R304: entry i of the input universe table: enabled, SYNC, LTP, universe. -/
def inUni (s : State) (i : Nat) : Bool × Bool × Bool × Nat :=
  let e := s.rdBytes (s.fixBase R.FIX_IN_LO R.FIX_IN_HI + 16 * i) 3
  let fl := leAt e 2 1
  let n := leAt e 0 2
  (decide (i < s.inCount) && decide (1 ≤ n) && decide (n ≤ 63999) && decide (128 ≤ fl), fl / 2 % 2 == 1, fl % 2 == 1, n)

/-- R295: the image of universe u for an epoch, and the snapshot of input i. -/
def imageAddr (s : State) (u : Nat) (e : Epoch) : Nat := s.slotBase + (e.toNat % 2) * 0x2000000 + 1024 * u
def snapAddr (s : State) (i : Nat) : Nat := s.slotBase + 0x6000000 + 1024 * i
def ovrAddr (s : State) (u : Nat) : Nat := s.slotBase + 0x4000000 + 1024 * u

/-- R295: an image read: START code and COUNT slots. -/
def readImage (s : State) (a : Nat) : Bytes := s.rdBytes a (1 + min 512 (s.rdLE (a + 0x202) 2))

/-- R295: an image written: START code, slots, zeros behind them, COUNT. -/
def writeImage (s : State) (a : Nat) (l : Bytes) : State := (s.wrBytes a (slice l 0 513)).wrLE (a + 0x202) 2 (l.length - 1)

/-! ## The sink (R297) -/

def graphKey (u : Nat) (e : Epoch) : Nat := 2 * u + e.toNat % 2

/-- R297: the graph part of universe u for epoch e. -/
def graphPart (s : State) (u : Nat) (e : Epoch) : Option Bytes :=
  match s.fixture.graph.lookup (graphKey u e) with
  | some (e', l) => if e' = e then some l else none
  | none => none

def putGraphPart (s : State) (u : Nat) (e : Epoch) (l : Bytes) : State :=
  s.setFix { s.fixture with graph := (graphKey u e, (e, l)) :: s.fixture.graph.filter (fun x => x.1 != graphKey u e) }

def sinkErr (s : State) : State := (s.bump R.FIX_SINK_BAD_CNT).raise R.FIX_STATUS 1

/-- R297: the fixture sink takes the next record. With EN = 0 it is discarded (DEDUCED). -/
def fixSink (s : State) : State :=
  match s.sinkHead 2 with
  | none => s
  | some (f, r) =>
    let u := r.tag
    let o := s.outUni u
    let ok := r.kind == 2 && decide (u < s.outCount) && o.en && (o.source == 0 || o.source == 2) && decide (2 ≤ r.payload.length)
      && decide (r.payload.length ≤ 513) && (s.graphPart u s.kennel.epoch).isNone
    let s := if !s.fixEn then s
      else if ok then (s.putGraphPart u s.kennel.epoch r.payload).digestRecord 2 r
      else s.sinkErr
    s.sinkTake f

/-! ## Images (R298, R299) -/

/-- The slot-wise higher of two images, the START code of the first. -/
def mergeHigh (a b : Bytes) : Bytes :=
  let n := max a.length b.length
  (List.range n).map (fun i => if i = 0 then a.getD 0 0 else
    let x := a.getD i 0
    let y := b.getD i 0
    if x.toNat < y.toNat then y else x)

/-- R298, step 4: the overrides of a universe. -/
def withOverrides (s : State) (u : Nat) (l : Bytes) : Bytes :=
  let a := s.ovrAddr u
  let v := s.rdBytes a 576
  let on (i : Nat) : Bool := (v.getD (512 + i / 8) 0).getLsbD (i % 8)
  let top := (List.range 512).foldl (fun m i => if on i then i + 1 else m) 0
  let n := max (l.length - 1) top
  (l.getD 0 0) :: (List.range n).map (fun i => if on i then v.getD i 0 else l.getD (i + 1) 0)

/-- R301, R303: a composed universe is queued for its data packet. -/
def queueUni (s : State) (u : Nat) (o : OutUni) (r : Epoch) : State :=
  if !(o.sacn && s.fixOut && decide (o.port ≤ 35)) then s
  else if s.bracePort o.port then s.raise R.FIX_STATUS 10
  else s.setFix { s.fixture with queue := s.fixture.queue ++ [(u, r)]
                                 sending := if s.fixture.sending.contains u then s.fixture.sending else u :: s.fixture.sending }

/-- R298: the image of universe u for epoch r, with its graph part as given. -/
def composeUni (s : State) (u : Nat) (o : OutUni) (r : Epoch) (graph : Bytes) : State :=
  let snap := if o.inIdx < 4096 then s.readImage (s.snapAddr o.inIdx) else [0]
  let base := if o.source = 0 then graph else if o.source = 1 then snap else mergeHigh graph snap
  let l := if o.ovr then s.withOverrides u base else base
  (s.writeImage (s.imageAddr u r) l).queueUni u o r

/-- R303: a universe that was sending is enabled no longer: three terminated packets. -/
def noteStopped (s : State) (u : Nat) : State :=
  s.setFix { s.fixture with sending := s.fixture.sending.filter (· != u), term := s.fixture.term ++ [(u, 3)],
                                 termAt := Sparse.erase s.fixture.termAt u }

/-- R303: entries whose EN has fallen; seen when the universes are composed. -/
def stopFallen (s : State) : State :=
  (s.fixture.sending.filter (fun u => !(s.outUni u).en)).foldl noteStopped s

/-- R298: the universes of SOURCE 1, at step 7. -/
def composeInputs (s : State) (r : Epoch) : State :=
  (List.range s.outCount).foldl (fun s u => let o := s.outUni u
    if o.en && o.source == 1 then s.composeUni u o r [0] else s) s.stopFallen

/-- R298: the graph part in effect for r, where the frame of r was dropped or brought none: that of r − 1; an empty image where
there is none (DEDUCED). -/
def graphInEffect (s : State) (u : Nat) (r : Epoch) (dropped : Bool) : Bytes × State :=
  match (if dropped then none else s.graphPart u r) with
  | some l => (l, s)
  | none =>
    let l := (s.graphPart u (r - 1)).getD [0]
    let s := if dropped then s else (s.bump R.FIX_GRAPH_MISS_CNT).raise R.FIX_STATUS 2
    (l, s.putGraphPart u r l)

/-- R298: the other universes, when Kennel's frame of r completes or is dropped. -/
def composeFrame (s : State) (r : Epoch) (dropped : Bool) : State :=
  if !s.fixEn then s
  else (List.range s.outCount).foldl (fun s u => let o := s.outUni u
    if o.en && o.source != 1 then
      let (l, s) := s.graphInEffect u r dropped
      s.composeUni u o r l
    else s) s.stopFallen

/-- R299: an override is queued. -/
def queueOverride (s : State) (u slot : Nat) (mask : Bool) (v : Nat) : State :=
  if 4096 ≤ s.fixture.overs.length then (s.bump R.FIX_OVR_DROP_CNT).raise R.FIX_STATUS 8
  else s.setFix { s.fixture with overs := s.fixture.overs ++ [(u % 32768, slot % 512, mask, v % 256)] }

/-- R299: one override lands in the override area. -/
def applyOverride (s : State) (x : Nat × Nat × Bool × Nat) : State :=
  let a := s.ovrAddr x.1
  let m := a + 512 + x.2.1 / 8
  let old := s.rdLE m 1
  let b := 2 ^ (x.2.1 % 8)
  let cleared := if old / b % 2 = 1 then old - b else old
  (s.wrLE (a + x.2.1) 1 x.2.2.2).wrLE m 1 (if x.2.2.1 then cleared + b else cleared)

/-! ## sACN input (R305–R307) -/

def sourcesOf (s : State) (i : Nat) : List SacnSource := (s.fixture.src.lookup i).getD []
def setSources (s : State) (i : Nat) (l : List SacnSource) : State :=
  s.setFix { s.fixture with src := (if l.isEmpty then [] else [(i, l)]) ++ s.fixture.src.filter (fun x => x.1 != i) }

/-- R306: the merged image of an input universe; only sources whose data has entered the merge take part. -/
def mergedInput (s : State) (i : Nat) : Bytes :=
  let l := (s.sourcesOf i).filter (fun x => !x.data.isEmpty)
  let top := l.foldl (fun m x => max m x.prio) 0
  let l := l.filter (fun x => x.prio == top)
  let last : Option SacnSource := l.foldl (fun a x => match a with
    | some y => if y.order < x.order then some x else a
    | none => some x) none
  match last with
  | none => [0]
  | some y => if (s.inUni i).2.2.1 then y.data else l.foldl (fun a x => mergeHigh a x.data) [0]

/-- R307: the merged images enter the snapshot region; a universe that is not enabled has no source. -/
def snapshotInputs (s : State) : State :=
  (List.range s.inCount).foldl (fun s i => s.writeImage (s.snapAddr i) (if (s.inUni i).1 then s.mergedInput i else [0])) s

/-- R299, R307, R298: what the fixture block does at step 7 of the boundary that starts r. -/
def fixStep (s : State) (r : Epoch) : State :=
  if !s.fixEn then s
  else
    let s := s.fixture.overs.foldl applyOverride s
    (s.setFix { s.fixture with overs := [] }).snapshotInputs.composeInputs r

/-- R306: input universe i has four sources, and `cid` is none of them; a DMX port is an extra source (R310). -/
def inputFull (s : State) (i cid : Nat) : Bool :=
  let l := s.sourcesOf i
  !l.any (fun y => y.cid == cid) && decide (cid < 2 ^ 128) && decide (4 ≤ (l.filter (fun y => decide (y.cid < 2 ^ 128))).length)

/-- R306: one source feeds input universe i. -/
def feedInput (s : State) (i : Nat) (x : SacnSource) (sync : Nat) (dmx : Bool) : State :=
  let l := s.sourcesOf i
  let old := l.find? (fun y => y.cid == x.cid)
  if s.inputFull i x.cid then (s.bump R.FIX_IN_FULL_CNT).raise R.FIX_STATUS 3
  else
    let hold := (s.inUni i).2.1 && sync != 0
    let n := s.fixture.arrivals
    let y : SacnSource := { x with order := n
                                   data := if hold then (match old with
                                     | some z => z.data
                                     | none => []) else x.data
                                   held := if hold then some (sync, x.data) else none }
    let s := s.setSources i (l.filter (fun z => z.cid != x.cid) ++ [y])
    (s.setFix { s.fixture with arrivals := n + 1 }).bumpIf (!dmx) R.FIX_IN_RX_CNT

def inBad (s : State) : State := s.bump R.FIX_IN_BAD_CNT

/-- R304: sACN is received on a port. -/
def sacnPort (s : State) (p : Nat) : Bool :=
  s.fixIn && !s.bracePort p && (if p < 32 then s.flag R.FIX_IN_PORTS_LO p else decide (p < 36) && s.flag R.FIX_IN_PORTS_HI (p - 32))

/-- R305: the packet's sequence number is stale for input universe i. -/
def sacnStale (s : State) (x : SacnIn) (i : Nat) : Bool := match (s.sourcesOf i).find? (fun y => y.cid == x.cid) with
  | some y => let d := signed 8 (x.seq + 256 - y.seq); decide (-20 < d) && decide (d ≤ 0)
  | none => false

/-- R305, R306: one packet for input universe i. -/
def sacnFeed (x : SacnIn) (s : State) (i : Nat) : State :=
  let l := s.sourcesOf i
  if s.sacnStale x i then s.bump R.FIX_IN_SEQ_CNT
  else if x.terminated && !s.inputFull i x.cid then (s.setSources i (l.filter (fun y => y.cid != x.cid))).bump R.FIX_IN_RX_CNT
  else s.feedInput i { cid := x.cid, prio := x.prio, seq := x.seq, data := x.values, order := 0 } x.sync false

/-- R305: the input universes that take a data packet: none where it is refused. -/
def sacnIndices (s : State) (x : SacnIn) : List Nat :=
  if x.values.length = 0 ∨ 513 < x.values.length ∨ x.values.getD 0 0 ≠ 0 then []
  else (List.range s.inCount).filter (fun i => let e := s.inUni i; e.1 && e.2.2.2 == x.uni)

/-- R305, R306, R410: the fixture block accepts a data packet, for some input universe. -/
def sacnTakes (s : State) (l : Bytes) : Bool := match sacnRead l with
  | some x => (s.sacnIndices x).any (fun i => !s.sacnStale x i && !s.inputFull i x.cid)
  | none => false

/-- R305: a data packet arrives on a port. -/
def sacnInput (s : State) (p : Nat) (l : Bytes) : State :=
  if !(s.sacnPort p && s.rxReady p) || sacnDiscovery l then s
  else match sacnRead l with
    | none => s.inBad
    | some x => if (s.sacnIndices x).isEmpty then s.inBad else (s.sacnIndices x).foldl (sacnFeed x) s

/-- R306: held data enters the merge where p says so. -/
def releaseHeld (s : State) (p : Nat → SacnSource → Bool) : State :=
  s.setFix { s.fixture with src := s.fixture.src.map (fun e => (e.1, e.2.map (fun y => match y.held with
    | some (_, d) => if p e.1 y then { y with data := d, held := none } else y
    | none => y))) }

/-- R306: a synchronisation packet arrives. -/
def sacnSyncIn (s : State) (p : Nat) (l : Bytes) : State :=
  if !(s.sacnPort p && s.rxReady p) then s
  else match sacnSyncRead l with
    | none => s.inBad
    | some a => s.releaseHeld (fun _ y => (y.held.map (·.1)) == some a)

/-- R306, R310: a source has been silent for 2.5 s. -/
def sourceLost (s : State) (i cid : Nat) : State :=
  if (s.sourcesOf i).any (fun y => y.cid == cid) then
    (s.setSources i ((s.sourcesOf i).filter (fun y => y.cid != cid))).raise R.FIX_STATUS 4
  else s

/-! ## sACN output (R300–R303) -/

def words4 (s : State) (r : Nat → Nat) (n : Nat) : Bytes := (List.range n).flatMap (fun i => beBytes 4 (s.reg (r i)).toNat)
def fixCid (s : State) : Bytes := s.words4 R.FIX_CIDw 4

/-- A universe number in `sequence number` space: R300. -/
def uniSeq (s : State) (u : Nat) : Nat := Sparse.get 0 s.fixture.seq u
def bumpSeq (s : State) (u : Nat) : State := s.setFix { s.fixture with seq := Sparse.put 0 s.fixture.seq u ((s.uniSeq u + 1) % 256) }

/-- A sACN packet to an address; the unicast MAC address, DSCP and TTL are not stated and come from a free value. -/
def sacnFrame (s : State) (port ip : Nat) (payload : Bytes) : Bytes × State :=
  let (v, s) := s.fresh
  let mac := if 0xE0000000 ≤ ip then groupMac ip else beBytes 6 (v / 2 ^ 64)
  (s.ether port mac none 0x0800 (udp4 v (v / 2 ^ 40 % 64) (v / 2 ^ 48 % 256) (s.reg R.FIX_SRC_IP).toNat ip 5568 5568 payload), s)

/-- R300: a data packet of universe u for epoch r (none for a terminated one) leaves for its port. -/
def sendUni (s : State) (u : Nat) (r : Epoch) (use : TxUse) (terminated : Bool) : State :=
  let o := s.outUni u
  let options := 128 * b2n o.preview + 64 * b2n terminated
  let pkt := sacnData s.fixCid (s.words4 R.FIX_NAMEw 16) o.prio s.syncUniv (s.uniSeq u) options o.uni (s.readImage (s.imageAddr u r))
  let ip := if o.destIp = 0 then 0xEFFF0000 + o.uni else o.destIp
  let (b, s) := s.sacnFrame o.port ip pkt
  (s.bumpSeq u).enqueue o.port { queue := 2, bytes := b, use := use }

/-- R314: FIX_SACN_GUARD in nanoseconds. -/
def sacnGuard (s : State) : Nat := atLeast1 (s.field R.FIX_SACN_GUARD 15 0) * 1000

/-- R301: the local time from which a data packet of an epoch is late. -/
def guardTime (s : State) (x : HeelEp) : Int := x.t - s.sacnGuard * uNs

/-- R301: a data packet of epoch r that has not started is late: also where r's HEEL record has gone, behind those of later epochs. -/
def sacnLate (s : State) (r : Epoch) : Bool := match s.heelEp r with
  | some x => decide (s.guardTime x ≤ s.lt)
  | none => s.heel.eps.any (fun x => later x.epoch r)

/-- R301: n late data packets are discarded. -/
def noteLate (s : State) (n : Nat) : State := if n = 0 then s else (s.count R.FIX_SACN_LATE_CNT n).raise R.FIX_STATUS 0

/-- R301: the next queued data packet; a late one is discarded. While the outputs are off only its sequence number advances (R459). -/
def sacnSend (s : State) : State :=
  match s.fixture.queue with
  | [] => s
  | (u, r) :: rest =>
    let s := s.setFix { s.fixture with queue := rest }
    if s.sacnLate r then s.noteLate 1
    else if !s.sendsEpoch r then s.bumpSeq u else s.sendUni u r (.sacn (some r)) false

/-- A queued frame is a late data packet. -/
def frameLate (s : State) (f : TxFrame) : Bool := match f.use with
  | .sacn (some e) => s.sacnLate e
  | _ => false

/-- R301: the data packets that are late and have not started are discarded; where none is, those of the epoch whose guard time comes next,
at that time. -/
def guardExpiry (s : State) : State :=
  let any := s.fixture.queue.any (fun q => s.sacnLate q.2) || s.mac.port.any (fun m => m.2.txq.any s.frameLate)
  let s := if any then s else match (s.heel.eps.filter (fun x => decide (s.lt ≤ s.guardTime x))).getLast? with
    | some x => s.waitUntil (s.guardTime x)
    | none => s
  let old := s.fixture.queue.filter (fun q => s.sacnLate q.2)
  let waiting := (s.mac.port.map (fun m => (m.2.txq.filter s.frameLate).length)).sum
  let u := s.setFix { s.fixture with queue := s.fixture.queue.filter (fun q => !s.sacnLate q.2) }
  let u : State := { u with mac := { s.mac with port := s.mac.port.map (fun m => (m.1, { m.2 with txq := m.2.txq.filter (fun f => !s.frameLate f) })) } }
  u.noteLate (old.length + waiting)

/-- R302: FIX_SYNC_ADJ, clamped. -/
def syncAdj (s : State) : Int := clampInt (-1000000) 1000000 (s.reg R.FIX_SYNC_ADJ).toInt

/-- R302: the ports that carry a universe with SACN = 1. -/
def sacnPorts (s : State) : List Nat :=
  let l := (List.range s.outCount).filterMap (fun u => let o := s.outUni u
    if o.en && o.sacn && decide (o.port ≤ 35) && !s.bracePort o.port then some o.port else none)
  (List.range 36).filter l.contains

/-- R302: the synchronisation packet of the next epoch. -/
def syncSend (s : State) : State :=
  if s.syncUniv = 0 ∨ !s.fixOut then s
  else
    let due (x : HeelEp) : Bool := !x.missed && (match s.fixture.syncSent with
      | some e => later x.epoch e
      | none => true)
    match (s.heel.eps.filter due).getLast? with
    | none => s
    | some x =>
      let at_ := x.t + s.syncAdj * uNs
      let s := s.waitUntil at_
      let s := s.setFix { s.fixture with syncSent := some x.epoch }
      if !s.sendsEpoch x.epoch then s
      else
        let pkt := sacnSync s.fixCid s.fixture.syncSeq s.syncUniv (s.flag R.FIX_SYNC 16)
        let s := s.setFix { s.fixture with syncSeq := (s.fixture.syncSeq + 1) % 256 }
        s.sacnPorts.foldl (fun s p =>
          let (b, s) := s.sacnFrame p (0xEFFF0000 + s.syncUniv) pkt
          s.enqueue p { queue := 7, bytes := b, use := .sync at_ }) s

/-- R303: the next Stream_Terminated packet, 1 ms after the one before it of its universe. -/
def termSend (s : State) : State :=
  match s.fixture.term with
  | [] => s
  | (u, n) :: rest =>
    let s := s.waitFrc (Sparse.get 0 s.fixture.termAt u)
    let at_ := Sparse.erase s.fixture.termAt u
    let s := s.setFix { s.fixture with term := rest ++ (if n ≤ 1 then [] else [(u, n - 1)])
                                       termAt := if n ≤ 1 then at_ else Sparse.put 0 at_ u (s.time.frc + 1250000) }
    if !s.outputsOn || decide (35 < (s.outUni u).port) || s.bracePort (s.outUni u).port then s.bumpSeq u
    else s.sendUni u s.time.epoch (.sacn none) true

/-! ## Endpoints (R293) -/

/-- R293: an endpoint's age exceeds the limit. -/
def eptAge (s : State) (i : Nat) : State :=
  let a := s.eptBase + 32 * i
  let type := s.rdLE a 1
  let h := s.rdLE (a + 0x14) 1
  let age := (s.time.epoch - w32 (s.rdLE (a + 0x10) 4)).toNat
  if i < 262144 ∧ (type = 1 ∨ (type = 2 ∧ 32768 ≤ i)) ∧ h % 4 = 1 ∧ atLeast1 (s.reg R.FIX_EPT_SILENT).toNat < age then
    ((s.wrLE (a + 0x14) 1 (h / 4 * 4 + 2)).bump R.FIX_EPT_SILENT_CNT).raise R.FIX_STATUS 9
  else s

/-! ## DMX512-A (R308–R310) -/

/-- R308: the port runs DMX. -/
def dmxOn (s : State) (p : Nat) : Bool :=
  decide (p < 64) && s.fixEn && s.flag (R.FIX_DMXp_CFG p) 31 && s.uartOwner p == 2 && s.uartEn p

/-- FRC ticks of a number of microseconds. -/
def usTicks (n : Nat) : Nat := 1250 * n

def dmxBreak (s : State) (p : Nat) : Nat := max 92 (s.field (R.FIX_DMXp_TIM p) 31 20)
def dmxMab (s : State) (p : Nat) : Nat := max 12 (s.field (R.FIX_DMXp_TIM p) 19 12)
def dmxSlots (s : State) (p : Nat) : Nat := let n := s.field (R.FIX_DMXp_CFG p) 24 16; if n = 0 then 512 else min 512 n
def dmxFreeAt (s : State) (p : Nat) : Nat := Sparse.get 0 s.fixture.dmxFree p
def rdmOf (s : State) (p : Nat) : Rdm := Sparse.get .none s.fixture.rdm p
def setRdm (s : State) (p : Nat) (r : Rdm) : State := s.setFix { s.fixture with rdm := Sparse.put .none s.fixture.rdm p r }

def setDmxFree (s : State) (p t : Nat) : State := s.setFix { s.fixture with dmxFree := Sparse.put 0 s.fixture.dmxFree p t }

/-- R309, R312, R331, R334: bytes behind a break go out on port p, from the end of what it sends now. The transmitter shifts and counts
whether or not the driver is enabled; without it nothing reaches the line. -/
def dmxSend (s : State) (p brk : Nat) (l : Bytes) : State :=
  let auto := s.field (R.UARTn_CTRL p) 7 6 == 0
  let start := max s.time.frc (s.dmxFreeAt p)
  let s := s.echoPackets p
  let u := s.uartOf p
  let ends := start + usTicks (brk + s.dmxMab p + 44 * l.length)
  let x : DmxOut := { start := start, ends := ends, low := 1000 * brk, mark := 1000 * s.dmxMab p, data := l }
  let s := (s.driveFrom p).setUart p { u with shifter := some 0x800, sentAt := start, sentEnds := ends, sentDiv := 160000
                                              driver := u.driver || auto, idleSeen := false, packets := u.packets ++ [x] }
  let s := (s.count (R.UARTn_TX_CNT p) (l.length + 1)).setDmxFree p ends
  if s.uartDriving p then s.send (.dmx p brk (s.dmxMab p) l) else s

/-- R309: the START code and slots that port p sends for an epoch. -/
def dmxImage (s : State) (p : Nat) (e : Epoch) : Bytes :=
  let u := s.field (R.FIX_DMXp_CFG p) 14 0
  let n := s.dmxSlots p
  if (s.outUni u).en then slice (s.readImage (s.imageAddr u e)) 0 (n + 1) else List.replicate (n + 1) 0


/-- R310: a packet arrives on a DMX input port: its break and mark-after-break in ns, and its bytes. -/
def dmxRx (s : State) (p brk mab : Nat) (bad : Bool) (l : Bytes) : State :=
  if !(s.dmxOn p && s.flag (R.FIX_DMXp_CFG p) 30) || decide (brk < 88000) || decide (mab < 8000) || l.isEmpty then s
  else if bad || decide (513 < l.length) then (s.bump (R.FIX_DMXp_ERR_CNT p)).raise R.FIX_STATUS 6
  else if l.getD 0 0 ≠ 0 then s
  else
    let i := s.field (R.FIX_DMXp_CFG p) 11 0
    let s := s.bump (R.FIX_DMXp_PKT_CNT p)
    if (s.inUni i).1 then s.feedInput i { cid := 2 ^ 128 + p, prio := 100, seq := 0, data := l, order := 0 } 0 true else s

/-- R308: at each application of group 8, configured ports that DMX does not own. -/
def dmxOwners (s : State) : State :=
  let n := ((List.range 64).filter (fun p => s.flag (R.FIX_DMXp_CFG p) 31 && s.uartOwner p != 2)).length
  if n = 0 then s else (s.count R.FIX_DMX_OWNER_CNT n).raise R.FIX_STATUS 5

/-! ## RDM (R311, R312) -/

def rdmArea (s : State) (p : Nat) : Nat := s.fixBase R.FIX_RDM_LO R.FIX_RDM_HI + 1024 * p
def rdmBit (lo hi p : Nat) : Nat × Nat := if p < 32 then (lo, p) else (hi, p - 32)

/-- R312: a transaction completes: STATUS, the GO bit, the DONE bit, RDM_DONE. -/
def rdmDone (s : State) (p status : Nat) : State :=
  let s := s.wrLE (s.rdmArea p) 1 status
  let go := rdmBit R.FIX_RDM_GO_LO R.FIX_RDM_GO_HI p
  let dn := rdmBit R.FIX_RDM_DONE_LO R.FIX_RDM_DONE_HI p
  (((s.setRdm p .none).lower go.1 go.2).raise dn.1 dn.2).raise R.FIX_STATUS 7

/-- R309: a transaction ends now. -/
def rdmOver (s : State) (p : Nat) : State := s.setDmxFree p (max s.time.frc (s.dmxFreeAt p))

/-- R311: RSP_LEN. -/
def rdmLen (s : State) (p n : Nat) : State := s.wrLE (s.rdmArea p + 4) 2 n

/-- R303: a transaction that meets a device whose outputs are off ends with a status: CONFLICT where it would start, ABORTED where it has
started or waits (DESIGN CHOICE, log entry 27). -/
def rdmOff (s : State) (p status : Nat) : State := ((s.rdmOver p).rdmLen p 0).rdmDone p status

/-- R312: the request of port p goes out behind what the port sends now. -/
def rdmSend (s : State) (p : Nat) : State :=
  if !s.outputsOn then s.rdmOff p stAborted
  else
  let a := s.rdmArea p
  let msg := s.rdBytes (a + 0x40) (s.rdLE (a + 2) 2 % 256)
  let disc := beAt msg 20 1 == 0x10 && beAt msg 21 2 == 1
  let bcast := beAt msg 5 4 == 0xFFFFFFFF
  let wait : Rdm := if disc then .response true else if bcast then .broadcast else .response false
  let s := s.wrLE (a + 1) 1 (if disc then 2 else if bcast then 0 else 1)
  let s := (s.dmxSend p (max 176 (s.dmxBreak p)) (msg ++ beBytes 2 (rdmSum msg))).setRdm p wait
  s.setFix { s.fixture with rdmRan := p :: s.fixture.rdmRan.filter (· != p) }

/-- R309: the port starts a packet at the first HEEL time at which MBB has passed since it ended what it sent last. A request that had
to wait for a packet follows it (R312). -/
def dmxStart (s : State) (p : Nat) : State :=
  if !(s.dmxOn p && s.fixOut && !s.flag (R.FIX_DMXp_CFG p) 30 && (s.rdmOf p == .none || s.rdmOf p == .queued)) then s
  else
    let free := s.dmxFreeAt p + usTicks (s.field (R.FIX_DMXp_TIM p) 11 0)
    let ok (x : HeelEp) : Bool := !x.missed && decide (s.lt ≤ x.t) && decide (free ≤ s.frcAt x.t)
    match (s.heel.eps.filter ok).getLast? with
    | none => s
    | some x =>
      let s := s.waitUntil x.t
      let s := (s.dmxSend p (s.dmxBreak p) (s.dmxImage p x.epoch)).bump (R.FIX_DMXp_PKT_CNT p)
      let s := s.setFix { s.fixture with rdmRan := s.fixture.rdmRan.filter (· != p) }
      if s.rdmOf p = .queued then s.rdmSend p else s

/-- R312: a GO bit is written. A second transaction without a packet since the first waits for one. -/
def rdmGo (s : State) (p : Nat) : State :=
  let go := rdmBit R.FIX_RDM_GO_LO R.FIX_RDM_GO_HI p
  if 64 ≤ p ∨ s.flag go.1 go.2 = true then s
  else
    let s := s.raise go.1 go.2
    let a := s.rdmArea p
    let len := s.rdLE (a + 2) 2
    let cfg := s.reg (R.FIX_DMXp_CFG p)
    if !s.dmxOn p || bit cfg 30 || !bit cfg 29 then (s.rdmLen p 0).rdmDone p stConflict
    else if s.rdLE (a + 0x40) 1 ≠ 0xCC then (s.rdmLen p 0).rdmDone p stBadOpcode
    else if len < 24 ∨ 255 < len ∨ len ≠ s.rdLE (a + 0x42) 1 then (s.rdmLen p 0).rdmDone p stBadLength
    else if !s.outputsOn then s.rdmOff p stConflict
    else if s.fixture.rdmRan.contains p then s.setRdm p .queued
    else s.rdmSend p

/-- R312: a response. `ago`: FRC ticks since its first byte. -/
def rdmResponse (s : State) (p ago : Nat) (collision : Bool) (l : Bytes) : State :=
  match s.rdmOf p with
  | .response disc =>
    if !s.outputsOn then s.rdmOff p stAborted
    else
    let ok := !collision && decide (l.length ≤ 257) && (if disc then discOk l else rdmOk l)
    let a := s.rdmArea p
    let ts : Word := BitVec.ofNat 32 (s.ltThen (s.time.frc - ago) / uNs % 2 ^ 32).toNat
    let s := (s.wrLE (a + 0x0C) 4 ts.toNat).rdmOver p
    if !ok then (s.rdmLen p 0).rdmDone p stCheckFail
    else
      let s := (s.rdmLen p l.length).wrBytes (a + 0x200) l
      let ep := s.rdLE (a + 8) 4
      let s := if 32768 ≤ ep ∧ ep < 262144 then s.eptSeen ep 2 s.time.epoch else s
      s.rdmDone p stOk
  | _ => s

/-- R312: no response for 2.8 ms, or the 176 µs of a broadcast, from the end of the request. -/
def rdmTimeout (s : State) (p : Nat) : State :=
  if !s.outputsOn && (s.rdmOf p != .none) then s.rdmOff p stAborted
  else match s.rdmOf p with
  | .response _ => (((s.waitFrc (s.dmxFreeAt p + usTicks 2800)).rdmOver p).rdmLen p 0).rdmDone p stTimeout
  | .broadcast => (((s.waitFrc (s.dmxFreeAt p + usTicks 176)).rdmOver p).rdmLen p 0).rdmDone p stOk
  | .none | .queued => s

/-- R302: synchronisation packets are scheduled. -/
def syncOn (s : State) : Bool := s.syncUniv != 0 && s.fixOut

/-- R302: where the schedule starts now, the epochs whose time has passed have none. -/
def syncStart (s : State) : State := match s.heel.eps.filter (fun x => decide (x.t + s.syncAdj * uNs < s.lt)) with
  | x :: _ => s.setFix { s.fixture with syncSent := some x.epoch }
  | [] => s

/-- R303, R308, R312: what an application of group 8 does besides copying; `outWas`, `syncWas`: OUT_EN and the schedule of
synchronisation packets as they stood. -/
def fixApply (s : State) (outWas syncWas : Bool) : State :=
  let s := if !syncWas && s.syncOn then s.syncStart else s
  let s := s.dmxOwners
  let s := if outWas && !s.fixOut then s.fixture.sending.foldl noteStopped s else s
  ((List.range 64).filter (fun p => s.rdmOf p != .none && !(s.fixEn && s.flag (R.FIX_DMXp_CFG p) 31))).foldl
    (fun s p => s.rdmOff p stAborted) s

end State

/-! ## Meanings -/

def execFixtureSinkRecord (s : State) : Host.Outcome State Fault Refusal := onMain s (·.fixSink)

def execSacnPacketSend (s : State) : Host.Outcome State Fault Refusal := onMain s (·.sacnSend)

def execSacnGuardExpiry (s : State) : Host.Outcome State Fault Refusal := onMain s (·.guardExpiry)

def execSacnSyncSend (s : State) : Host.Outcome State Fault Refusal := onMain s (·.syncSend)

def execStreamTerminatedSend (s : State) : Host.Outcome State Fault Refusal := onMain s (·.termSend)

def execSacnInputRx (port : Nat) (packet : Bytes) (s : State) : Host.Outcome State Fault Refusal := onMain s (·.sacnInput port packet)

def execSacnInputSyncRx (port : Nat) (packet : Bytes) (s : State) : Host.Outcome State Fault Refusal :=
  onMain s (·.sacnSyncIn port packet)

def execSacnSourceLoss (input cid : Nat) (s : State) : Host.Outcome State Fault Refusal := onMain s (·.sourceLost input cid)

def execSacnSyncHoldExpiry (input cid : Nat) (s : State) : Host.Outcome State Fault Refusal :=
  onMain s (·.releaseHeld (fun i y => i == input && y.cid == cid))

def execEptAge (entry : Nat) (s : State) : Host.Outcome State Fault Refusal := onMain s (·.eptAge entry)

def execFixOvrDataWrite (value : Word) (s : State) : Host.Outcome State Fault Refusal :=
  onMain s (fun s => s.queueOverride (s.field R.FIX_OVR_ADDR 23 9) (s.field R.FIX_OVR_ADDR 8 0) (bit value 8) (fld value 7 0))

def execDmxPacketStart (port : Nat) (s : State) : Host.Outcome State Fault Refusal := onMain s (·.dmxStart port)

def execDmxPacketRx (port brkNs mabNs : Nat) (framingError : Bool) (packet : Bytes) (s : State) : Host.Outcome State Fault Refusal :=
  onMain s (·.dmxRx port brkNs mabNs framingError packet)

def execDmxSourceLoss (port : Nat) (s : State) : Host.Outcome State Fault Refusal :=
  onMain s (fun s => s.sourceLost (s.field (R.FIX_DMXp_CFG port) 11 0) (2 ^ 128 + port))

def execRdmGo (port : Nat) (s : State) : Host.Outcome State Fault Refusal := onMain s (·.rdmGo port)

def execRdmResponseRx (port ago : Nat) (collision : Bool) (response : Bytes) (s : State) : Host.Outcome State Fault Refusal :=
  onMain s (·.rdmResponse port ago collision response)

def execRdmTimeout (port : Nat) (s : State) : Host.Outcome State Fault Refusal := onMain s (·.rdmTimeout port)

end Sys2Proof.Machine
end

