-- ==== Sys2Proof/Machine/Mac.lean ====
section
/-! DEFINITION. The Ethernet ports (R367–R389): host frames on receive (R410), the receive filter, flow control and Leash, the next
frame on the wire, the deadlines of queue 7, the link, preemption's verify process, and automatic downshift. Pause times count
in units of 10 ps; a cycle of FRC is 80 of them. -/

namespace Sys2Proof.Machine

namespace State

/-! ## Speeds and time -/

/-- R390: SPEED as it acts. -/
def speedSel (s : State) (n : Nat) : Nat :=
  let v := s.field (R.MACn_CTRL n) 6 4
  if n < 32 then (if v < 4 then v else 2) else if n = 36 then 1 else (if v < 4 then v else 0)

/-- Bit time at the port's speed, in units of 10 ps. -/
def bitTime (s : State) (n : Nat) : Nat :=
  if n < 32 then (match s.speedSel n with
    | 0 => 100
    | 1 => 40
    | 2 => 10
    | _ => 4)
  else match (s.macOf n).speed with
    | 1 => 100
    | 2 => 1000
    | 3 => 10000
    | 4 => 10000
    | _ => 100

/-- Now, in units of 10 ps of FRC. -/
def now10 (s : State) : Nat := 80 * s.time.frc

/-- The first cycle at or past an instant in that unit. -/
def waitUntil10 (s : State) (t : Nat) : State := { s with time := { s.time with frc := max s.time.frc ((t + 79) / 80) } }

/-! ## Flow control received (R375–R379) -/

/-- R376: a queue that a pause does not hold: an express queue under PAUSE_EXPRESS. -/
def exempt (s : State) (n q : Nat) : Bool := s.flag (R.MACn_FC_CTRL n) 2 && s.isExpress n q

/-- Queue q is paused now. -/
def isPaused (s : State) (n q : Nat) : Bool :=
  !s.exempt n q && (match (s.macOf n).pause.lookup q with
    | some (a, e) => decide (a ≤ s.now10) && decide (s.now10 < e)
    | none => false)

/-- R376: one queue's pause takes the time of a frame just received. A pause that is already held counts on as one (R379). -/
def pauseQueue (s : State) (n wire time : Nat) (l : List (Nat × (Nat × Nat))) (q : Nat) : List (Nat × (Nat × Nat)) :=
  let now := s.now10
  let stop := now + time * 512 * s.bitTime n
  let start := match l.lookup q with
    | some (a, e) => if now < e then a else now + 100 * wire
    | none => now + 100 * wire
  let rest := l.filter (fun x => x.1 != q)
  if s.exempt n q || decide (stop ≤ max now start) then rest else rest ++ [(q, (start, stop))]

/-- R376, R377: the queues and times of a valid frame that acts. -/
def pauseAct (s : State) (n wire : Nat) (l : List (Nat × Nat)) : State :=
  let m := s.macOf n
  s.setMac n { m with pause := l.foldl (fun p x => s.pauseQueue n wire x.2 p x.1) m.pause }

/-- R379: Leash holds. -/
def leashHolds (s : State) (n : Nat) : Bool := match (s.macOf n).hold with
  | some t => decide (s.now10 < t)
  | none => false

/-- MACn_FC_CTRL.FC_MODE: 3 acts as 0. -/
def fcMode (s : State) (n : Nat) : Nat := s.field (R.MACn_FC_CTRL n) 1 0 % 3

/-- R375: a received frame of EtherType 0x8808. Its length is no condition. -/
def macControl (s : State) (n : Nat) (l : Bytes) (fcs : Bool) (wire : Nat) : State :=
  let op := beAt l 14 2
  let valid := fcs && (l.take 6 == beBytes 6 0x0180C2000001 || l.take 6 == s.macAddr n) && (op == 1 || op == 0x0101)
  if !valid then s.macStat n 27 1
  else
    let s := s.macStat n (if op = 1 then 6 else 7) 1
    if s.leashHolds n then s.bump (R.MACn_LEASH_IGN_CNT n)
    else if op = 1 ∧ s.fcMode n = 1 then s.pauseAct n wire ((List.range 8).map (fun q => (q, beAt l 16 2)))
    else if op = 0x0101 ∧ s.fcMode n = 2 then
      s.pauseAct n wire (((List.range 8).filter (fun q => beAt l 16 2 / 2 ^ q % 2 == 1)).map (fun q => (q, beAt l (18 + 2 * q) 2)))
    else s

/-- R376: the earliest pause time runs out. -/
def pauseExpiry (s : State) (n : Nat) : State :=
  match (s.macOf n).pause with
  | [] => s
  | x :: t =>
    let s := s.waitUntil10 (t.foldl (fun m y => min m y.2.2) x.2.2)
    s.setMac n { s.macOf n with pause := (s.macOf n).pause.filter (fun y => decide (s.now10 < y.2.2)) }

/-- R379: the earliest pause that lasts LEASH_LIMIT breaks every pause of the port. -/
def leashBreak (s : State) (n : Nat) : State :=
  let lim := s.field (R.MACn_LEASH_LIMIT n) 19 0 * 100000
  let due := ((s.macOf n).pause.filter (fun y => decide (y.2.1 + lim ≤ y.2.2))).map (fun y => y.2.1 + lim)
  match (if lim = 0 then [] else due) with
  | [] => s
  | x :: t =>
    let at_ := t.foldl min x
    let s := s.waitUntil10 at_
    let s := s.setMac n { s.macOf n with pause := [], hold := some (max at_ s.now10 + s.field (R.MACn_LEASH_HOLD n) 19 0 * 100000) }
    (s.bump (R.MACn_LEASH_CNT n)).raise (R.MACn_STATUS n) 3

/-- R379: the hold ends. -/
def leashRearm (s : State) (n : Nat) : State :=
  match (s.macOf n).hold with
  | none => s
  | some t => let s := s.waitUntil10 t; s.setMac n { s.macOf n with hold := none }

/-! ## Receive (R369, R370, R374, R410) -/

/-- R369: the frame is addressed to the port. -/
def macAccepts (s : State) (n : Nat) (l : Bytes) (addr : Bytes) : Bool :=
  let d := l.take 6
  let h := crc32 d / 2 ^ 24
  d == addr || castOf l == 2 || (castOf l == 1 && s.flag (R.MACn_MCAST_HASHh n (h / 32)) (h % 32)) || s.flag (R.MACn_CTRL n) 3

/-- R232: a frame of the transport that Vocon uses. -/
def isVocon (s : State) (l : Bytes) : Bool :=
  if s.vcnUdp then (udpOf l).any (fun u => u.2.2.1 == s.field R.VCN_UDP 15 0) else (inner l).1 == s.field R.VCN_ETHERTYPE 15 0

/-- R410: the blocks that claim a frame. Ports 30 and 31 carry brace frames and PTP only while brace is enabled (R448); a Vocon frame
there is a host frame (R232). -/
def claimed (s : State) (n : Nat) (l : Bytes) : Bool :=
  isPtp l || (inner l).1 == 0x888E || (s.bracePort n && !s.isVocon l) || (s.vcnEn && s.vcnPort n && s.isVocon l)
    || (match udpOf l with
      | none => false
      | some (dst, src, port, d) =>
        (s.sacnPort n && port == 5568 && (s.sacnTakes d || (sacnSyncRead d).isSome))
          || (n == 36 && (s.flag R.UPD_CTRL 0 || s.upd.recovery) && dst == (s.reg R.UPD_IP).toNat && port == s.field R.UPD_PORT 15 0)
          || (List.range 8).any (fun r => [false, true].any (fun au => (s.streamPath r au n).isSome
            && s.flag (streamBase r au) 0
            && s.streamHears r au { port := n, dstIp := w32 dst, srcIp := w32 src, udp := port, payloadType := beAt d 1 1 % 128 })))

/-- R410: a host frame of port p fills the oldest RX_POST of its ring, or is discarded. -/
def hostFrame (s : State) (p : Nat) (l : Bytes) : State :=
  let r := s.field (R.HOST_PORTp_RXRING p) 7 0
  let post := (s.ringOf r).cmds.find? (fun c => c.started && c.work == .rxPost)
  if 63 < r ∨ s.flag R.HOST_CTRL 1 = false ∨ (s.ringOf r).state ≠ .running then s.bump R.HOST_RX_NOBUF_CNT
  else match post with
    | none => s.bump R.HOST_RX_NOBUF_CNT
    | some c =>
      if min 16384 c.desc.len < l.length then s.complete r c.idx stBadLength l.length
      else (s.ownWrite r c.desc.addr l).complete r c.idx stOk l.length p

/-- R369–R389: a frame arrives on port n: its bytes from the destination address, without FCS. -/
def macRx (s : State) (n : Nat) (l : Bytes) (i : RxInfo) : State :=
  if !s.rxReady n then s
  else
    let s := s.macStat n 26 i.frags
    if i.smd then s.macStat n 24 1
    else if i.assembly then s.macStat n 25 1
    else
      let len := l.length + 4
      let sized := decide (64 ≤ len) && decide (len ≤ s.maxFrame n)
      let good := i.fcs && sized
      let s := ((s.macStat n 0 len).macStat n 20 (b2n i.code)).traffic n len 0
      let s := if sized then s.macStat n 15 (b2n !i.fcs)
        else if len < 64 then s.macStat n (if i.fcs then 16 else 17) 1 else s.macStat n (if i.fcs then 18 else 19) 1
      let s := if good then ((((s.macStat n 1 len).macStat n 2 1).macStat n (3 + castOf l) 1).macStat n (8 + lenBin len) 1).macStat n 23
        (b2n (etype l == 0x8100)) else s
      if i.full then (s.macStat n 21 1).raise (R.MACn_STATUS n) 7
      else if etype l = 0x8808 then s.macControl n l i.fcs i.wire
      else if !good then s
      else if !s.macAccepts n l (s.macAddr n) then s.macStat n 22 1
      else match s.msIn n l with
        | (none, s) => s
        | (some l, s) => if s.claimed n l then s else s.hostFrame n l

/-- R376: a valid PAUSE frame. -/
def pauseFrame (quanta : Nat) : Bytes :=
  slice (beBytes 6 0x0180C2000001 ++ beBytes 6 0 ++ beBytes 2 0x8808 ++ beBytes 2 1 ++ beBytes 2 quanta) 0 60

/-- R377: a valid PFC frame. -/
def pfcFrame (enable : BitVec 8) (times : List Nat) : Bytes :=
  slice (beBytes 6 0x0180C2000001 ++ beBytes 6 0 ++ beBytes 2 0x8808 ++ beBytes 2 0x0101 ++ beBytes 2 enable.toNat
    ++ (List.range 8).flatMap (fun q => beBytes 2 (times.getD q 0))) 0 60

/-! ## Flow control sent (R378) -/

/-- R378: XOFF and XON in bytes, as they act. -/
def xoffAt (s : State) (n : Nat) : Nat := min (s.field (R.MACn_FC_THRESH n) 31 16) ((if n < 32 then 256 else 64) - 16) * 1024
def xonAt (s : State) (n : Nat) : Nat := min (s.field (R.MACn_FC_THRESH n) 15 0 * 1024) (s.xoffAt n)

/-- The port sends: enabled, its link up, TX_EN = 1 and not in wake-only mode. -/
def txReady (s : State) (n : Nat) : Bool :=
  s.macEn n && (s.macOf n).up && s.flag (R.MACn_CTRL n) 1 && !s.isWakeOnly n

/-- A frame on the wire, express or preemptable, without FCS, unless the port is looped back (MACn_CTRL.LOOP). -/
def wireOut (s : State) (n : Nat) (express : Bool) (l : Bytes) : State :=
  if s.flag (R.MACn_CTRL n) 12 then s else s.send (.frame n express (padded l))

/-- R378: a PAUSE or PFC frame with a time goes out ahead of every queue; under MACn_CTRL.LOOP it comes back. -/
def fcSend (s : State) (n time : Nat) : State :=
  let pfc := s.fcMode n == 2
  let mask := s.field (R.MACn_FC_CTRL n) 15 8
  let l := beBytes 6 0x0180C2000001 ++ s.macAddr n ++ beBytes 2 0x8808 ++ (if pfc
    then beBytes 2 0x0101 ++ beBytes 2 mask ++ (List.range 8).flatMap (fun q => beBytes 2 (if mask / 2 ^ q % 2 = 1 then time else 0))
    else beBytes 2 1 ++ beBytes 2 time)
  let s := ((s.txStats n false 1 64).macStat n (if pfc then 38 else 37) 1).wireOut n false l
  if s.flag (R.MACn_CTRL n) 12 then s.macRx n (padded l) {} else s

/-- PAUSE_QUANTA. -/
def quanta (s : State) (n : Nat) : Nat := s.field (R.MACn_FC_CTRL n) 31 16

def noteFc (s : State) (n : Nat) (v : Option Nat) : State := s.setMac n { s.macOf n with fc := v }

/-- R378: the receive buffer has come to hold `held` bytes, at or above XOFF. -/
def fcXoff (s : State) (n held : Nat) : State :=
  if s.fcMode n = 0 ∨ s.txReady n = false ∨ held < s.xoffAt n ∨ (s.macOf n).fc.isSome = true then s
  else (s.fcSend n (s.quanta n)).noteFc n (some s.now10)

/-- R378: half the pause time has passed with the buffer at or above XON. -/
def fcAgain (s : State) (n held : Nat) : State :=
  match (s.macOf n).fc with
  | none => s
  | some t =>
    if s.fcMode n = 0 ∨ s.txReady n = false ∨ held < s.xonAt n then s
    else
      let s := s.waitUntil10 (t + s.quanta n * 256 * s.bitTime n)
      (s.fcSend n (s.quanta n)).noteFc n (some s.now10)

/-- R378: the buffer has fallen below XON. -/
def fcXon (s : State) (n held : Nat) : State :=
  if (s.macOf n).fc.isNone = true ∨ s.xonAt n ≤ held then s
  else if s.fcMode n = 0 ∨ s.txReady n = false then s.noteFc n none
  else (s.fcSend n 0).noteFc n none

/-! ## Transmit (R371, R372, R374, R381) -/

/-- R373: preemption is active. -/
def preemptActive (s : State) (n : Nat) : Bool :=
  let m := s.macOf n
  let gig := if n < 32 then s.speedSel n == 0 else m.speed == 1
  s.flag (R.MACn_PREEMPT n) 0 && (m.verify == 3 || s.flag (R.MACn_PREEMPT n) 1)
    && (!gig || decide (s.field (R.MACn_PREEMPT n) 9 8 ≤ 1)) && (decide (n < 32) || (m.up && gig))

/-- R372: the first frame of the highest queue that satisfies p. -/
def nextFrame (m : MacPort) (p : Nat → Bool) : Option TxFrame :=
  ([7, 6, 5, 4, 3, 2, 1, 0].filter p).findSome? (fun q => m.txq.find? (fun f => f.queue == q))

def unqueue (s : State) (n : Nat) (f : TxFrame) : State := s.setMac n { s.macOf n with txq := (s.macOf n).txq.erase f }

/-- A host frame that is discarded completes its TX_FRAME with ABORTED (R409). A posted far write has waited only for its last piece
to leave the queue (R422; DESIGN CHOICE, log entry 35). A fragment that was to be resent counts as denied (R253). -/
def txAborted (s : State) (f : TxFrame) : State := match f.use with
  | .host r i => s.complete r i stAborted
  | .far r i n _ _ => s.complete r i stOk n
  | .plan _ _ _ true => s.resendDenied 1
  | _ => s

/-- R381: bytes held before a frame starts; none where the whole frame is. -/
def storeLevel (s : State) (n : Nat) : Option Nat :=
  let v := s.field (R.MACn_TX_THRESH n) 2 0
  if v < 5 then some (256 * 2 ^ v) else none

/-- R381: the bytes of a frame that leave before the buffer runs dry after `dry` of them. -/
def dryAt (s : State) (n len : Nat) (dry : Option Nat) : Option Nat := match dry, s.storeLevel n with
  | some d, some h => if max d h < len then some (max d h) else none
  | _, _ => none

/-- R83–R85, R381: the stamp of a frame that has started; an underrun frame loses it. Answers whether it was stamped. -/
def txStamped (s : State) (n : Nat) (f : TxFrame) (cut : Bool) : Bool × State := match f.stamp with
  | none => (false, s)
  | some id =>
    if cut then (false, s.tagLost n id)
    else
      let (v, s) := s.txPhase n
      s.stampOut n id false (s.txStamp n v)

/-- What the departure of a frame means to the block that queued it (R80, R249, R301, R314, R406). -/
def txUsed (s : State) (n : Nat) (f : TxFrame) (stamped : Bool) : State := match f.use with
  | .ptp k q t c => s.ptpLeaves n k q t c
  | .plan t e j r => s.fragStarted t e j r
  | .sacn _ => s.bump R.FIX_SACN_TX_CNT
  | .sync _ => s.bump R.FIX_SYNC_TX_CNT
  | .host r i => s.complete r i stOk (b2n stamped)
  | .far r i n _ _ => s.complete r i stOk n
  | _ => s

/-- R374, R381: frame f of port n starts on the wire as the bytes l. -/
def txStart (s : State) (n : Nat) (f : TxFrame) (l : Bytes) (dry : Option Nat) : State :=
  let w := padded l
  match s.dryAt n w.length dry with
  | some d =>
    let s := ((s.txStats n (s.isExpress n f.queue) (castOf l) (d + 4)).macStat n 46 1).raise (R.MACn_STATUS n) 4
    let s := s.setReg (R.MACn_TX_THRESH n) (w32 (min 5 (s.field (R.MACn_TX_THRESH n) 2 0 + 1)))
    let (k, s) := s.txStamped n f true
    let loops := s.flag (R.MACn_CTRL n) 12
    let s := (if loops then s else s.send (.cut n (w.take d))).txUsed n f k
    if loops then s.macRx n (w.take d) { fcs := false } else s
  | none =>
    let (k, s) := (s.txStats n (s.isExpress n f.queue) (castOf l) (w.length + 4)).txStamped n f false
    let s := match f.use with
      | .ptp _ _ _ _ => s
      | _ => s.wireOut n (s.isExpress n f.queue) l
    let s := s.txUsed n f k
    if s.flag (R.MACn_CTRL n) 12 then s.macRx n w {} else s

/-- One octet on the wire, in units of 10 ps. -/
def octetTime (s : State) (n : Nat) : Nat := 8 * s.bitTime n

/-- R374: an express frame that is ready now while a preemptable frame is part-sent: the instant, in units of 10 ps, at which it
starts, and the octets of the preemptable frame that are left then; none where no point to preempt it is left. R373: a fragment but
the last has 64 × (1 + ADD_FRAG) octets or more; the last has 64 or more (IEEE 802.3br). An express frame that is ready before the one
that preempted has ended follows it in the same preemption (log entry 63). -/
def preemptPoint (s : State) (n : Nat) : Option (Nat × Nat) :=
  let m := s.macOf n
  if m.cut && decide (s.now10 ≤ m.expEnd) then some (m.expEnd, m.bulkLeft)
  else
    let start := if m.cut then m.expEnd else m.fragAt
    let t := max s.now10 (start + 64 * (1 + s.field (R.MACn_PREEMPT n) 9 8) * s.octetTime n)
    let sent := (t - start) / s.octetTime n
    if m.bulkLeft < sent + 64 then none else some (t, m.bulkLeft - sent)

/-- R374: a frame that is len octets long on the wire preempts the preemptable frame at the instant t, of which `left` octets are left. -/
def preempt (s : State) (n len t left : Nat) : State :=
  let m := s.macOf n
  let s := if m.cut && decide (s.now10 ≤ m.expEnd) then s else (s.macStat n 50 1).macStat n 49 (b2n !m.cut)
  (s.waitUntil10 t).setMac n { m with cut := true, bulkLeft := left, expEnd := t + (len + 20) * s.octetTime n }

/-- A frame of len octets starts behind the last one. -/
def startAfresh (s : State) (n : Nat) (express : Bool) (len : Nat) : State :=
  s.setMac n { s.macOf n with bulk := !express, cut := false, fragAt := s.now10, bulkLeft := len }

/-- R371: the frame at the head of the queues is discarded, for want of a link or of TX_EN. -/
def linkDrop (s : State) (n : Nat) : State :=
  match nextFrame (s.macOf n) (fun _ => true) with
  | none => s
  | some f => ((s.unqueue n f).bump (R.MACn_TX_LINK_DROP n)).txAborted f

/-- R370, R372, R374: frame f of port n has its turn; one that is longer than MAX_FRAME is not sent. `point`: the preemption it waits
for, where a preemptable frame is part-sent. A Vocon frame that may not leave any more is discarded (R241, R459), and so
is a late sACN data packet (R301). -/
def macSend (s : State) (n : Nat) (f : TxFrame) (point : Option (Nat × Nat)) (dry : Option Nat) : State :=
  let s := s.unqueue n f
  if s.vcnBarred n f then s.txAborted f
  else if s.frameLate f then s.noteLate 1
  else if s.maxFrame n < (padded f.bytes).length + 4 then (s.macStat n 47 1).txAborted f
  else match s.msOut n f.bytes with
    | (none, s) => s.txAborted f
    | (some l, s) =>
      let len := (padded l).length + 4
      (match point with
        | some (t, left) => s.preempt n len t left
        | none => s.startAfresh n (s.isExpress n f.queue) len).txStart n f l dry

/-- R371, R372, R374: the port starts its next frame, or discards it while its link is down or TX_EN is 0. `during` says that a
preemptable frame is part-sent. -/
def macTx (s : State) (n : Nat) (during : Bool) (dry : Option Nat) : State :=
  let m := s.macOf n
  if 37 ≤ n then s
  else if !(s.macEn n && m.up && s.flag (R.MACn_CTRL n) 1) then s.linkDrop n
  else if s.isWakeOnly n then s
  else match nextFrame m (fun q => !s.isPaused n q && (!during || s.isExpress n q)) with
    | none => s
    | some f =>
      if !during then s.macSend n f none dry
      else if m.bulk && s.preemptActive n then
        (match s.preemptPoint n with
          | none => s
          | some p => s.macSend n f (some p) dry)
      else s

/-- R380: the local time at which a frame of queue 7 is discarded. -/
def deadlineOf (f : TxFrame) : Option Int := match f.use with
  | .heel _ t => some (t - 10000 * uNs)
  | .sync due => some (due + 100000 * uNs)
  | _ => none

/-- R380: the frame of queue 7 with the earliest deadline misses it. -/
def deadlineDrop (s : State) (n : Nat) : State :=
  let l := (s.macOf n).txq.filterMap (fun f => (deadlineOf f).map (fun t => (t, f)))
  match l with
  | [] => s
  | x :: t =>
    let y := t.foldl (fun a b => if b.1 < a.1 then b else a) x
    (((s.waitUntil y.1).unqueue n y.2).macStat n 51 1).raise (R.MACn_STATUS n) 6

/-! ## Link (R368, R373, R384, R385) -/

/-- R373: the verify process's next state; its third attempt without an answer fails. -/
def verifyNext (s : State) (n : Nat) (answered : Bool) : Nat :=
  if !s.flag (R.MACn_PREEMPT n) 0 || s.flag (R.MACn_PREEMPT n) 1 then 0
  else if !(s.macOf n).up then 1
  else match (s.macOf n).verify with
    | 0 => 1
    | 1 => 2
    | 2 => if answered then 3 else if (s.macOf n).verifyTries < 3 then 2 else 4
    | v => v

/-- R373, R390: VERIFY_TIME in units of 10 ps. -/
def verifyTime (s : State) (n : Nat) : Nat := min 128 (atLeast1 (s.field (R.MACn_PREEMPT n) 30 24)) * 100000000

/-- R373: a step of the verify process; an attempt is given up VERIFY_TIME after it was made, and the next is made. A change of the
state sets PREEMPT_CHANGE. -/
def verifyStep (s : State) (n : Nat) (answered : Bool) : State :=
  let m := s.macOf n
  let v := s.verifyNext n answered
  let s := if m.verify = 2 ∧ (v = 2 ∨ v = 4) then s.waitUntil10 (m.verifyAt + s.verifyTime n) else s
  (s.setMac n { m with verify := v, verifyTries := if v = 2 then (if m.verify = 2 then m.verifyTries + 1 else 1) else 0
                       verifyAt := if v = 2 then s.now10 else 0 }).raiseIf (v != m.verify) (R.MACn_STATUS n) 5

/-- MACn_LINK.UP falls. -/
def linkDown (s : State) (n : Nat) : State :=
  if (s.macOf n).up then
    let s := (s.setMac n { s.macOf n with up := false, anDone := false, block := false }).raise (R.MACn_STATUS n) 0
    let s := s.raiseIf (s.bracePort n) R.BRACE_STATUS 11
    if (s.macOf n).verify = 0 then s else s.verifyStep n false
  else s

/-- R37: the clock of the port's lane or PHY has lost lock. -/
def portClockLost (s : State) (n : Nat) : Bool := if n < 32 then s.unitLost (.lane n) || s.unitLost (.recovery n) else s.unitLost .phy

/-- R36: a link that comes up has lane n's receive clock recovery locked. -/
def recoveryLocks (s : State) (n : Nat) : State :=
  if n < 32 ∧ !s.power.recovered.contains n then { s with power := { s.power with recovered := n :: s.power.recovered } } else s

/-- R390: the speed code a link comes up at. -/
def linkSpeed (s : State) (n v : Nat) : Nat :=
  if n < 32 then s.speedSel n
  else if s.isWakeOnly n then 4
  else if n = 36 then 1
  else if (s.macOf n).downshifted then 2
  else if s.speedSel n = 0 then clampNat 1 3 v else s.speedSel n

/-- R385: the traffic of a port is measured from now on. -/
def trafficAfresh (s : State) (n : Nat) : State := s.setMac n { s.macOf n with dsAt := s.now10, dsRx := 0, dsTx := 0 }

/-- R368, R390: the link of a port that runs comes up, or goes down. Auto-negotiation runs where AN_EN is not ignored; a partner's
pause bits are known from it alone (DEDUCED). -/
def linkChange (s : State) (n : Nat) (link : Option LinkReport) : State :=
  if 37 ≤ n then s
  else match link with
    | none => s.linkDown n
    | some r =>
      if !s.macEn n || s.portClockLost n then s
      else
        let was := (s.macOf n).up
        let fec := if n < 32 ∧ s.speedSel n = 3 then min 2 (s.field (R.MACn_CTRL n) 9 8) else 0
        let an : Bool := r.anDone && s.flag (R.MACn_CTRL n) 10 && (decide (32 ≤ n) || s.speedSel n == 0)
        let s := s.setMac n { s.macOf n with up := true, speed := s.linkSpeed n r.speed, fec := fec, anDone := an
                                             block := r.block, pauseAdv := if an then r.pauseAdv % 4 else 0 }
        let s := s.recoveryLocks n
        let s := if was then s else s.trafficAfresh n
        s.raiseIf (!was) (R.MACn_STATUS n) 0

/-- R385: the conditions of automatic downshift. -/
def mayDownshift (s : State) (n : Nat) : Bool :=
  decide (32 ≤ n) && decide (n < 37) && s.flag (R.MACn_LP n) 0 && s.speedSel n == 0 && !s.inShow && s.field R.TIME_PTP_CTRL 21 16 != n
    && !(List.range 8).any (fun r => [false, true].any (fun au => s.flag (streamBase r au) 0 && (s.streamPath r au n).isSome))
    && !(List.range 8).any (fun g => s.flag (R.HUB_GRPg_CTRL g) 31 && s.field (R.HUB_GRPg_CTRL g) 29 24 == n)

/-- R385: a move takes the link down. -/
def downshift (s : State) (n : Nat) (down : Bool) : State :=
  ((s.setMac n { s.macOf n with downshifted := down }).raise (R.MACn_STATUS n) 8).linkDown n

/-- R390: a byte of MACn_DS_CFG: 0 acts as 1; a percentage above 100 acts as 100. -/
def dsCfg (s : State) (n hi lo : Nat) : Nat := atLeast1 (s.field (R.MACn_DS_CFG n) hi lo)
def dsPercent (s : State) (n hi lo : Nat) : Nat := min 100 (s.dsCfg n hi lo)

/-- R385: the traffic, over the time it has been measured for: that time is sec seconds at least. -/
def dsWait (s : State) (n sec : Nat) : State := s.waitUntil10 ((s.macOf n).dsAt + sec * 100000000000)
def dsSpan (s : State) (n : Nat) : Nat := s.now10 - (s.macOf n).dsAt

/-- R385: a move that its traffic has not earned: the traffic is measured anew (log entry 63). -/
def shiftDown (s : State) (n : Nat) : State :=
  if s.mayDownshift n && (s.macOf n).up && !(s.macOf n).downshifted then
    let s := s.dsWait n (s.dsCfg n 31 24)
    let low (octets : Nat) : Bool := decide (octets * 80000 < s.dsPercent n 23 16 * s.dsSpan n)
    if low (s.macOf n).dsRx && low (s.macOf n).dsTx then s.downshift n true else s.trafficAfresh n
  else s

def shiftUp (s : State) (n : Nat) : State :=
  if (s.macOf n).downshifted && (s.macOf n).up then
    let s := s.dsWait n (s.dsCfg n 15 8)
    let high (octets : Nat) : Bool := decide (s.dsPercent n 7 0 * s.dsSpan n < octets * 800000)
    if high (s.macOf n).dsRx || high (s.macOf n).dsTx then s.downshift n false else s.trafficAfresh n
  else s

/-- R385: a downshifted port whose conditions no longer hold moves up at once. -/
def downshiftsEnd (s : State) : State :=
  ([32, 33, 34, 35, 36].filter (fun n => (s.macOf n).downshifted && !s.mayDownshift n)).foldl (fun s n => s.downshift n false) s

/-- R368, R384: what the application of group 11 does to the ports: a change of SPEED, FEC or AN_EN drops the link, and so do a
fall of EN and a change of WAKE_ONLY, which enters or leaves wake-only mode. -/
def macApplyOne (old s : State) (n : Nat) : State :=
  let a := old.reg (R.MACn_CTRL n)
  let b := s.reg (R.MACn_CTRL n)
  let wasWake := old.flag (R.MACn_LP n) 1
  let wake := s.flag (R.MACn_LP n) 1
  let s := if a &&& 0x771 = b &&& 0x771 then s else s.linkDown n
  let s := if n < 32 then s.setMac n { s.macOf n with speed := s.speedSel n }
    else if !bit a 0 && bit b 0 then s.setMac n { s.macOf n with speed := 0 } else s
  if n < 32 ∨ wasWake = wake then s
  else
    let l := s.power.wakeOnly.filter (· != n)
    let s : State := { s with power := { s.power with wakeOnly := if wake then l ++ [n] else l
                                                      wakeAddr := if wake then Sparse.put 0 s.power.wakeAddr n (beNat (s.macAddr n)) else s.power.wakeAddr } }
    s.linkDown n

def macApply (old s : State) : State := (List.range 37).foldl (fun s n => macApplyOne old s n) s

/-- R382: a read of a statistics counter returns it and clears it. -/
def macStatRead (s : State) (n k : Nat) : State :=
  if 37 ≤ n ∨ 64 ≤ k then s
  else { s.setReg (R.MACn_STATk n k) 0 with bus := s.reg (R.MACn_STATk n k) }

end State

/-! ## Meanings -/

def execMacFrameRx (port : Nat) (frame : Bytes) (info : RxInfo) (s : State) : Host.Outcome State Fault Refusal :=
  onPort port s (·.macRx port frame info)

def execPauseRx (port quanta wire : Nat) (s : State) : Host.Outcome State Fault Refusal :=
  onPort port s (·.macRx port (State.pauseFrame quanta) { wire := wire })

def execPfcRx (port : Nat) (enable : BitVec 8) (times : List Nat) (wire : Nat) (s : State) : Host.Outcome State Fault Refusal :=
  onPort port s (·.macRx port (State.pfcFrame enable times) { wire := wire })

def execPauseExpiry (port : Nat) (s : State) : Host.Outcome State Fault Refusal := onPort port s (·.pauseExpiry port)

def execLeashLimit (port : Nat) (s : State) : Host.Outcome State Fault Refusal := onPort port s (·.leashBreak port)

def execLeashHoldEnd (port : Nat) (s : State) : Host.Outcome State Fault Refusal := onPort port s (·.leashRearm port)

def execFcXoffSend (port held : Nat) (s : State) : Host.Outcome State Fault Refusal := onPort port s (·.fcXoff port held)

def execFcRefresh (port held : Nat) (s : State) : Host.Outcome State Fault Refusal := onPort port s (·.fcAgain port held)

def execFcXonSend (port held : Nat) (s : State) : Host.Outcome State Fault Refusal := onPort port s (·.fcXon port held)

def execMacTxFrame (port : Nat) (during : Bool) (dry : Option Nat) (s : State) : Host.Outcome State Fault Refusal :=
  onPort port s (·.macTx port during dry)

def execDeadlineDrop (port : Nat) (s : State) : Host.Outcome State Fault Refusal := onPort port s (·.deadlineDrop port)

def execMacLinkChange (port : Nat) (link : Option LinkReport) (s : State) : Host.Outcome State Fault Refusal :=
  onPort port s (·.linkChange port link)

def execPreemptVerify (port : Nat) (answered : Bool) (s : State) : Host.Outcome State Fault Refusal :=
  onMain s (fun s => if port < 37 then s.verifyStep port answered else s)

def execDownshiftDown (port : Nat) (s : State) : Host.Outcome State Fault Refusal := onMain s (·.shiftDown port)

def execDownshiftUp (port : Nat) (s : State) : Host.Outcome State Fault Refusal := onMain s (·.shiftUp port)

def execMacsecSaWrite (port : Nat) (sc : Option Nat) (an : Nat) (value : Word) (s : State) : Host.Outcome State Fault Refusal :=
  onMain s (fun s =>
    if port < 32 ∨ 37 ≤ port ∨ 4 ≤ an then s
    else match sc with
      | none => s.txSaWrite port an value
      | some c => if c < 8 then s.rxSaWrite port c an value else s)

def execMacStatRead (port counter : Nat) (s : State) : Host.Outcome State Fault Refusal := onMain s (·.macStatRead port counter)

end Sys2Proof.Machine
end

