-- ==== Sys2Proof/Machine/Host.lean ====
section
/-! DEFINITION. The host interface (R392–R415): doorbells, rings, the fetch of descriptors, the opcodes of R406 but CALIB and
UPDATE, the PCIe link, and the DRAM window BAR4. -/

namespace Sys2Proof.Machine

namespace State

/-! ## Doorbells (R398–R400) -/

/-- R400: a doorbell write to a ring that is not RUNNING is ignored and sets WDROP. -/
def doorbell (s : State) (r : Nat) (f : Ring → State) : State :=
  if 64 ≤ r then s
  else if (s.ringOf r).state = .running then f (s.ringOf r) else s.wdrop .host 0

/-- R400: CMD_TAIL. -/
def cmdTail (s : State) (r v : Nat) : State :=
  s.doorbell r (fun x =>
    if 2 ^ s.ringK r < (v + 65536 - x.fetch) % 65536 then s.stopRing r 1 else s.setRing r { x with cmdTail := v })

/-- R400: CPL_HEAD. -/
def cplHead (s : State) (r v : Nat) : State :=
  s.doorbell r (fun x =>
    if 2 ^ s.ringK r < (x.cplTail + 65536 - v) % 65536 then s.stopRing r 2 else s.setRing r { x with cplHead := v })

/-- R400, R415: what a read of BAR2 offset o returns: the value of the last doorbell write that took effect; other offsets read 0. -/
def doorbellRead (s : State) (o : Nat) : Word :=
  if 64 ≤ o / 0x1000 then 0
  else if o % 0x1000 = 0 then w32 (s.ringOf (o / 0x1000)).cmdTail
  else if o % 0x1000 = 4 then w32 (s.ringOf (o / 0x1000)).cplHead
  else 0

/-! ## The function (R392) -/

/-- R392: what the function's configuration space presents. -/
structure PcieFunction where
  vendor : Nat
  device : Nat
  revision : Nat
  classCode : Nat
  maxPayload : Nat
  maxReadRequest : Nat
  tagBits : Nat
  outstanding : Nat
  capabilities : List String
deriving DecidableEq, Repr

/-- R392: the one physical function; its revision is GLOBAL_REV.STEPPING (R2). -/
def pcieFunction (s : State) : PcieFunction :=
  { vendor := 0x1E9B, device := 0x9160, revision := s.field R.GLOBAL_REV 7 0, classCode := 0x048000, maxPayload := 512
    maxReadRequest := 4096, tagBits := 10, outstanding := 256
    capabilities := ["power management (D0, D3hot)", "PCI Express", "MSI-X", "AER", "Resizable BAR", "Device Serial Number"] }

/-! ## EN (R397, R403) -/

/-- R397: EN = 1 on a ring that is DISABLED. -/
def ringEnable (s : State) (r : Nat) : State :=
  let x := s.ringOf r
  if 64 ≤ r ∨ x.state ≠ .disabled then s
  else
    let size := 2 ^ s.ringK r
    let bad := s.cmdBase r % 64 != 0 || s.cplBase r % 32 != 0
      || (s.coreOwned r && (decide (fwBase < s.cmdBase r + 64 * size) || decide (fwBase < s.cplBase r + 32 * size)))
    if bad then s.setRing r { x with err := 4 }
    else (s.setRing r { state := .running }).raise (R.HOST_RINGr_CTRL r) 0

/-- R403: the groups of an UPDATE that has not been applied leave GLOBAL_UPD_PEND. -/
def withdrawUpdate (s : State) (groups : Nat) : State :=
  { s with staged := s.staged.filter (fun x => !(groups.testBit x.group)) }

/-- R403: a command that waits on a future event ends with ABORTED. -/
def abortWait (r : Nat) (s : State) (c : Cmd) : State := match c.work with
  | .epochWait => s.complete r c.idx stAborted
  | .rxPost => s.complete r c.idx stAborted
  | .update g =>
    if s.staged.any (fun x => g.testBit x.group && x.when != .now) then (s.withdrawUpdate g).complete r c.idx stAborted else s
  | .calib => (match s.calib.run with
    | some (.commit _ _) => s.calibStop
    | _ => s)
  | _ => s

/-- R403: EN = 0 on a RUNNING or STOPPED ring. -/
def ringDisable (s : State) (r : Nat) : State :=
  let x := s.ringOf r
  if r < 64 ∧ (x.state = .running ∨ x.state = .stopped) then
    let s := (s.setRing r { x with state := .draining }).lower (R.HOST_RINGr_CTRL r) 0
    (x.cmds.filter (·.started)).foldl (abortWait r) s
  else s

/-- What a queued frame is once its ring has ended. -/
def unownedUse (r : Nat) : TxUse → TxUse
  | .host q i => if q = r then .plain else .host q i
  | .cfg o n => .cfg (if o.map (·.1) = some r then none else o) n
  | .far q i n o l => if q = r then .cfg none 0 else .far q i n o l
  | u => u

/-- R403: what ring r has started and left running completes no command of it any more: frames in the MACs, the CALIB command, the
ARM, a Sheaf computation, the HANDOVER and a VERIFY run on without it, and the far bridge waits for none of its pieces (R425). -/
def disown (s : State) (r : Nat) : State :=
  let mine (o : Option (Nat × Nat)) : Option (Nat × Nat) := if o.map (·.1) = some r then none else o
  { s with
    mac := { s.mac with port := s.mac.port.map (fun m => (m.1, { m.2 with txq := m.2.txq.map (fun f => { f with use := unownedUse r f.use }) })) }
    calib := { s.calib with owner := mine s.calib.owner }
    sheaf := { s.sheaf with arm := s.sheaf.arm.map (fun a => { a with owner := mine a.owner }), waiters := s.sheaf.waiters.filter (fun w => w.1 != r) }
    upd := { s.upd with asker := s.upd.asker.filter (fun a => !(match a with
      | .ring q _ => q == r
      | _ => false)) }
    brace := { s.brace with owner := mine s.brace.owner }
    far := { s.far with ops := s.far.ops.filter (fun o => o.owner.map (·.1) != some r) } }

/-- R403: the ring becomes DISABLED when every fetched command has completed, or under error 0x03. -/
def ringDrained (s : State) (r : Nat) : State :=
  let x := s.ringOf r
  if r < 64 ∧ x.state = .draining ∧ (x.cmds.isEmpty = true ∨ x.err = 3) then
    (s.disown r).setRing r { x with state := .disabled, cmds := [] }
  else s

/-- R397: a write of ring register a of ring r. While the ring is not DISABLED all but EN is ignored, with WDROP. -/
def ringWrite (s : State) (r a : Nat) (v : Word) : State :=
  let ctrl := a == R.HOST_RINGr_CTRL r
  let s :=
    if (s.ringOf r).state = .disabled then
      (if ctrl then s.setReg a (v &&& 0x1F0312#32 ||| (s.reg a &&& 1)) else s.setReg a v)
    else if ctrl && (v &&& 0x1F0312#32) == (s.reg a &&& 0x1F0312#32) then s
    else s.wdrop .host 0
  if !ctrl then s else if bit v 0 then s.ringEnable r else s.ringDisable r

/-! ## Fetch (R399, R412) -/

/-- R399: a command may be fetched from ring r. -/
def canFetch (s : State) (r : Nat) : Bool :=
  let x := s.ringOf r
  x.state == .running && x.cmdTail != x.fetch && decide ((x.fetch + 65536 - x.cplHead) % 65536 < 2 ^ s.ringK r)

/-- R412: the ring served next: highest PRIO, and within it each in turn. -/
def fetchRing (s : State) : Option Nat :=
  [3, 2, 1, 0].findSome? (fun p =>
    let l := (List.range 64).filter (fun r => s.ringPrio r == p && s.canFetch r)
    match l.find? (fun r => match s.host.lastRing.lookup p with
      | some q => decide (q < r)
      | none => true) with
    | some r => some r
    | none => l.head?)

/-- R404: a descriptor from its 64 bytes. -/
def descOf (l : Bytes) : Desc :=
  { opcode := leAt l 0 1, atEpoch := leAt l 1 1 / 4 % 2 == 1, irq := leAt l 1 1 / 2 % 2 == 1, fence := leAt l 1 1 % 2 == 1
    tag := leAt l 2 2, len := leAt l 4 4, epoch := w32 (leAt l 8 4), addr := leAt l 16 8, addr2 := leAt l 24 8
    args := (List.range 8).map (fun i => w32 (leAt l (32 + 4 * i) 4)) }

/-- R399, R402: the device fetches the next command; over PCIe the fetch may fail. -/
def fetch (s : State) (failed : Bool) : State :=
  match s.fetchRing with
  | none => s
  | some r =>
    let x := s.ringOf r
    let k := s.ringK r
    let s : State := { s with host := { s.host with lastRing := Sparse.put 64 s.host.lastRing (s.ringPrio r) r } }
    if !s.coreOwned r && (failed || !s.host.up) then s.stopRing r 3
    else
      let d := descOf (s.ownRead r (s.cmdBase r + 64 * (x.fetch % 2 ^ k)) 64)
      let n := s.host.fetched
      let s := s.setRing r { x with fetch := (x.fetch + 1) % 65536, cmds := x.cmds ++ [{ idx := x.fetch, desc := d, seq := n }] }
      ({ s with host := { s.host with fetched := n + 1 } } : State).reap r (2 ^ k + 1)

/-! ## Opcodes (R406–R409) -/

/-- Whether a ring drains: what would wait for a future event is aborted (R403). -/
def drains (s : State) (r : Nat) : Bool := (s.ringOf r).state == .draining

def arg (c : Cmd) (i : Nat) : Word := c.desc.args.getD i 0

/-- PARAM_WRITE. -/
def opParam (s : State) (r : Nat) (c : Cmd) : State :=
  let n := c.desc.len
  let w := fld (arg c 0) 11 0
  if n = 0 ∨ 16384 < n ∨ n % 4 ≠ 0 then s.complete r c.idx stBadLength
  else if 4096 < w + n / 4 then s.complete r c.idx stBadAddress
  else
    let l := s.ownRead r c.desc.addr n
    ((List.range (n / 4)).foldl (fun s i => s.paramWrite (w + i) (w32 (leAt l (4 * i) 4))) s).complete r c.idx stOk

/-- R407, R408: the DMA opcodes. -/
def opDma (toDev : Bool) (s : State) (r : Nat) (c : Cmd) : State :=
  let n := c.desc.len
  let core := s.coreOwned r
  let dst := if toDev then c.desc.addr2 else c.desc.addr
  if n = 0 ∨ 0x40000000 < n then s.complete r c.idx stBadLength
  else if fwBase < c.desc.addr2 + n ∨ (core = true ∧ fwBase < c.desc.addr + n) then s.complete r c.idx stBadAddress
  else if (toDev || core) && s.protectedRange dst n then s.protCount.complete r c.idx stLocked
  else s.startCmd r c.idx (.dma (if toDev then s.ownRead r c.desc.addr n else s.rdBytes c.desc.addr2 n) 0)

/-- R402: a transfer of command c of a host's ring fails on PCIe: the data of its DMA, the frame an RX_POST takes, what a command
that stands ready reads or its completion. The ring stops; that command ends without a completion. A failure while another command
runs stops the ring alone: that command runs to its end and writes none. -/
def transferFail (s : State) (r : Nat) (c : Cmd) : State :=
  let ends : Bool := (match c.work with
    | .dma _ _ => c.started
    | .rxPost => c.started
    | _ => false) || (s.startable r).map Cmd.idx == some c.idx
  if ends then (s.pcieFail r).complete r c.idx stOk else if c.started then s.pcieFail r else s

/-- R411: the last byte of a data-moving command lands, or a transfer of a command fails on PCIe (R402). -/
def dmaDone (s : State) (r i : Nat) (failed : Bool) : State :=
  match s.cmdOf r i with
  | none => s
  | some c =>
    if failed && !s.coreOwned r then s.transferFail r c
    else match c.work with
    | .dma data _ =>
      if !s.coreOwned r && !s.host.up then s.transferFail r c
      else
        let toDev := c.desc.opcode == 3
        let (n, s) := if toDev then s.landBytes c.desc.addr2 data
          else if s.coreOwned r then s.landBytes c.desc.addr data else (0, s.ownWrite r c.desc.addr data)
        let s := if n = 0 then s else s.protCount
        s.complete r i (if n = 0 then stOk else stLocked) (data.length - n)
    | _ => s

/-- EPOCH_WAIT. -/
def opEpochWait (s : State) (r : Nat) (c : Cmd) : State :=
  if !later c.desc.epoch s.time.epoch then s.complete r c.idx stStaleEpoch
  else if s.drains r then s.complete r c.idx stAborted
  else s.startCmd r c.idx .epochWait

/-- TX_FRAME. -/
def opTx (s : State) (r : Nat) (c : Cmd) : State :=
  let p := fld (arg c 0) 5 0
  let q := fld (arg c 1) 2 0
  let stamp := bit (arg c 2) 31
  let id := fld (arg c 2) 15 0
  let n := c.desc.len
  if !s.macEn p || decide (4 < q) || (stamp && decide (0x8000 ≤ id)) then s.complete r c.idx stBadAddress
  else if s.bracePort p then s.complete r c.idx stConflict
  else if n < 14 ∨ s.maxFrame p - 4 < n then s.complete r c.idx stBadLength
  else
    let f : TxFrame := { queue := q, bytes := s.ownRead r c.desc.addr n, use := .host r c.idx, stamp := if stamp then some id else none }
    (s.enqueue p f).startCmd r c.idx (.tx p q)

/-- RX_POST. -/
def opRx (s : State) (r : Nat) (c : Cmd) : State :=
  if c.desc.len < 64 then s.complete r c.idx stBadLength
  else if s.drains r then s.complete r c.idx stAborted
  else s.startCmd r c.idx .rxPost

/-- R571: at step 7 of the boundary that starts epoch e, the EPOCH_WAIT commands whose epoch is reached complete. -/
def epochWaits (s : State) (e : Epoch) : State :=
  (s.cmdsWith (fun c => c.work == .epochWait && reached c.desc.epoch e)).foldl (fun s x => s.complete x.1 x.2.idx stOk e.toNat) s

/-! ## The PCIe link (R395) -/

/-- R395: every ring that the PCIe host owns stops with error 0x03. -/
def hostStop (s : State) : State := (List.range 64).foldl (fun s r => if s.coreOwned r then s else s.pcieFail r) s

/-- The link is lost. -/
def linkLoss (s : State) : State :=
  (({ s with host := { s.host with up := false, gen := 0, width := 0 } }).raiseIf s.host.up R.HOST_STATUS 2).hostStop

/-- A function-level reset: the MSI-X table and its enables clear, and the stopped rings are disabled. -/
def flr (s : State) : State :=
  let s := s.hostStop
  let s : State := { s with regs := s.regs.filter (fun x => !(decide (0x31000 ≤ x.1) && decide (x.1 < 0x32000)))
                            host := { s.host with msixEn := false, funcMask := false, pba := [] } }
  (List.range 64).foldl (fun s r => if s.coreOwned r then s else s.ringDisable r) s

/-- The link comes up, where its clock has not lost lock (R37), at a generation and width, with the BAR4 size (log₂) and the function's
MSI-X bits as the host has set them. -/
def linkUp (s : State) (gen width bar4 : Nat) (msixEn funcMask : Bool) : State :=
  let w := if 8 ≤ width then 8 else if 4 ≤ width then 4 else if 2 ≤ width then 2 else 1
  if s.unitLost .pcie then s
  else
    ({ s with host := { s.host with up := true, gen := clampNat 3 5 gen, width := w, bar4 := clampNat 28 34 bar4, msixEn := msixEn
                                    funcMask := funcMask } }).raiseIf (!s.host.up) R.HOST_STATUS 2

/-! ## BAR4 (R394, R26) -/

/-- R394: the DRAM address of a BAR4 offset. -/
def bar4Addr (s : State) (o : Nat) : Nat :=
  let win := s.field R.HOST_BAR4_WIN_HI 1 0 * 2 ^ 32 + s.field R.HOST_BAR4_WIN_LO 31 28 * 2 ^ 28
  (win / 2 ^ s.host.bar4 * 2 ^ s.host.bar4 + o) % dramSize

/-- R26: a BAR4 access meets the firmware region. -/
def fwRegion (s : State) : State := (s.bump R.HOST_FWREGION_CNT).raise R.HOST_STATUS 1

/-- The bytes of a host access that may land: neither the firmware region nor a protected bank takes any (R26, R199). -/
def barWrite (s : State) (a : Nat) (l : Bytes) : State :=
  let s := if fwBase < a + l.length then s.fwRegion else s
  let (n, s) := s.landBytes a (l.take (fwBase - a))
  if n = 0 then s else s.protCount

/-- A BAR4 access: a write of bytes, or a read of `count` bytes, of which the low four show in `bus`. -/
def bar4 (s : State) (o : Nat) (w : Option Bytes) (count : Nat) : State :=
  if !s.host.up || decide (2 ^ s.host.bar4 ≤ o) then s
  else
    let a := s.bar4Addr o
    match w with
    | some l => s.barWrite a l
    | none =>
      let v := leNat ((List.range (min 4 count)).map (fun i => if a + i < fwBase then s.rd8 (a + i) else 0))
      { (if fwBase < a + count then s.fwRegion else s) with bus := w32 v }

end State

/-! ## Meanings -/

def execCmdTailWrite (ring : Nat) (value : BitVec 16) (s : State) : Host.Outcome State Fault Refusal :=
  onMain s (·.cmdTail ring value.toNat)

def execCplHeadWrite (ring : Nat) (value : BitVec 16) (s : State) : Host.Outcome State Fault Refusal :=
  onMain s (·.cplHead ring value.toNat)

def execRingEnable (ring : Nat) (s : State) : Host.Outcome State Fault Refusal := onMain s (·.ringEnable ring)

def execRingDisable (ring : Nat) (s : State) : Host.Outcome State Fault Refusal := onMain s (·.ringDisable ring)


def execDescriptorFetch (failed : Bool) (s : State) : Host.Outcome State Fault Refusal := onMain s (·.fetch failed)

def execNop (ring : Nat) (s : State) : Host.Outcome State Fault Refusal :=
  onMain s (fun s => s.runDesc ring 1 (fun s c => s.complete ring c.idx stOk))

def execParamWrite (ring : Nat) (s : State) : Host.Outcome State Fault Refusal :=
  onMain s (fun s => s.runDesc ring 2 (fun s c => s.opParam ring c))

def execDmaToDevice (ring : Nat) (s : State) : Host.Outcome State Fault Refusal :=
  onMain s (fun s => s.runDesc ring 3 (fun s c => s.opDma true ring c))

def execDmaFromDevice (ring : Nat) (s : State) : Host.Outcome State Fault Refusal :=
  onMain s (fun s => s.runDesc ring 4 (fun s c => s.opDma false ring c))

def execDmaComplete (ring index : Nat) (failed : Bool) (s : State) : Host.Outcome State Fault Refusal :=
  onMain s (·.dmaDone ring index failed)

def execEpochWait (ring : Nat) (s : State) : Host.Outcome State Fault Refusal :=
  onMain s (fun s => s.runDesc ring 7 (fun s c => s.opEpochWait ring c))

def execTxFrame (ring : Nat) (s : State) : Host.Outcome State Fault Refusal :=
  onMain s (fun s => s.runDesc ring 8 (fun s c => s.opTx ring c))

def execRxPost (ring : Nat) (s : State) : Host.Outcome State Fault Refusal :=
  onMain s (fun s => s.runDesc ring 9 (fun s c => s.opRx ring c))

def execPcieLinkLoss (s : State) : Host.Outcome State Fault Refusal := onMain s (·.linkLoss)

def execFunctionLevelReset (s : State) : Host.Outcome State Fault Refusal := onMain s (·.flr)

def execPcieLinkUp (gen width bar4 : Nat) (msixEn funcMask : Bool) (s : State) : Host.Outcome State Fault Refusal :=
  onMain s (·.linkUp gen width bar4 msixEn funcMask)

def execBar4Access (offset : Nat) (write : Option Bytes) (count : Nat) (s : State) : Host.Outcome State Fault Refusal :=
  onMain s (·.bar4 offset write count)

end Sys2Proof.Machine
end

