-- ==== Sys2Proof/Machine/FarBridge.lean ====
section
/-! DEFINITION. The far bridge (R416–R428): windows, pieces, answers, prefetch, sideband polling and the error log. -/

namespace Sys2Proof.Machine

namespace State

def setFar (s : State) (f : FarSt) : State := { s with far := f }
def farEn (s : State) : Bool := s.flag R.FARBR_CTRL 0

/-! ## The log (R428) -/

/-- One entry; a full log keeps what it holds. -/
def farLog (s : State) (type win status target tag addr bytes : Nat) (sent rsp : Epoch) : State :=
  let head := s.field R.FARBR_LOG_HEAD 9 0
  if (head + 1) % 1024 = s.field R.FARBR_LOG_TAIL 9 0 then s.raise R.FARBR_STATUS 7
  else
    let a := s.field R.FARBR_LOG_HI 1 0 * 2 ^ 32 + s.field R.FARBR_LOG_LO 31 6 * 64 + 32 * head
    let s := s.wrBytes a (leBytes 1 type ++ leBytes 1 win ++ leBytes 1 status ++ [0] ++ leBytes 2 target ++ leBytes 2 tag ++ leBytes 4 addr
      ++ leBytes 2 bytes ++ [0, 0] ++ leBytes 4 sent.toNat ++ leBytes 4 rsp.toNat ++ List.replicate 8 0)
    (s.setReg R.FARBR_LOG_HEAD (w32 ((head + 1) % 1024))).raise R.FARBR_STATUS 6

/-! ## Prefetch buffers (R424, R425) -/

/-- R425: words read and not delivered. -/
def discard (s : State) (win target tag addr : Nat) (sent rsp : Epoch) : State :=
  ((s.bump R.FARBR_PF_DISCARD_CNT).raise R.FARBR_STATUS 1).farLog 2 win 0 target tag addr 256 sent rsp

/-- R424: a window's buffer is dropped. -/
def dropBuf (s : State) (w : Nat) : State :=
  match s.far.bufs.lookup w with
  | none => s
  | some b =>
    let s := s.setFar { s.far with bufs := s.far.bufs.filter (fun x => x.1 != w) }
    if b.seen.length < b.data.length / 4 then s.discard w b.target b.tag b.block b.sentEpoch b.rspEpoch else s

/-! ## Sending (R420–R422) -/

/-- R421: non-posted pieces outstanding. -/
def farInflight (s : State) : Nat :=
  (s.far.ops.map (fun o => if o.posted then 0 else (o.pieces.filter (fun p => p.sentAt.isSome && p.res.isNone)).length)).sum

def farTag (w serial : Nat) : Nat := 512 * w + serial

/-- R263: the operation header. -/
def opHeader (addr tag flags status bytes : Nat) : Bytes :=
  beBytes 4 addr ++ beBytes 2 tag ++ beBytes 1 flags ++ beBytes 1 status ++ beBytes 2 bytes ++ [0, 0]

/-- R419: why no frame goes to a tile, whichever it is: a status, or none. -/
def tilesBarred (s : State) : Option Nat :=
  if !s.vcnEn || s.vcnSilent then some stNoResource else if !s.outputsOn then some stConflict else none

/-- One frame of an operation goes to its target. `use` rides on the frames to tiles, and on a posted write's last one to the partner.
Answers the status with which the piece fails where it does not go: R238's, or that of R419 where a tile would be refused by now (R241,
R459; DESIGN CHOICE, log entry 35). A frame that meets a route which is gone by now is lost on its way. -/
def farOut (s : State) (target type : Nat) (payload : Bytes) (use : TxUse) : Option Nat × State :=
  if target = 0x8000 then (none, s.braceSend 5 payload use)
  else
    let route := s.routeOf target
    if !route.valid || !s.vcnPort route.port then (none, match use with
      | .far r i n _ _ => s.complete r i stOk n
      | _ => s)
    else match s.tilesBarred with
      | some st => (some st, s)
      | none => match s.vcnFrame type 0 0 target s.time.epoch 0 0 0 payload with
        | (some b, s) => (none, s.vcnPut route.port target b use)
        | (none, s) => (some stNoResource, s)

/-- A piece is sent, or sent again; answers the status with which it fails where it does not go. -/
def sendPiece (s : State) (o : FarOp) (p : Piece) (use : TxUse) : Option Nat × State :=
  let tag := farTag o.win p.serial
  match s.farOut o.target (if o.write then 5 else 6) (opHeader p.addr tag (b2n o.posted) 0 p.bytes ++ p.data) use with
  | (none, s) =>
    let s := s.bump (if o.write then R.FARBR_WR_CNT else R.FARBR_RD_CNT)
    (none, if o.posted then s.setFar { s.far with hist := (p.serial, (o.target, p.addr, s.time.epoch)) :: s.far.hist.filter (fun h => h.1 != p.serial) } else s)
  | (some st, s) => (some st, s)

/-- Operation number k of the list is replaced. -/
def setOp (s : State) (k : Nat) (o : FarOp) : State := s.setFar { s.far with ops := s.far.ops.set k o }

/-- The first failed piece, in address order. -/
def failedPiece (o : FarOp) : Option (Piece × PieceEnd) :=
  o.pieces.findSome? (fun p => match p.res with
    | some e => if e.status = 0 then none else some (p, e)
    | none => none)

/-- R422: the operation has pieces to send: none once a piece has failed. -/
def sendsMore (o : FarOp) : Bool := (failedPiece o).isNone && o.pieces.any (fun q => q.sentAt.isNone && q.res.isNone)

/-- How a piece ends that has no answer. -/
def pieceEnd (s : State) (status : Nat) : PieceEnd := { status := status, far := 0, data := [], at_ := s.time.frc, epoch := s.time.epoch }

/-- R420, R421: piece j of operation k is sent when its turn has come: no operation before it on its window has pieces to send,
no piece of its own has failed (R422), and a non-posted piece finds room. One that does not go has failed. -/
def pumpPiece (k : Nat) (s : State) (j : Nat) : State :=
  match s.far.ops[k]? with
  | none => s
  | some o => match o.pieces[j]? with
    | none => s
    | some p =>
      let blocked := (s.far.ops.take k).any (fun x => x.win == o.win && sendsMore x)
      if p.sentAt.isSome || p.res.isSome || (failedPiece o).isSome || blocked || (!o.posted && decide (256 ≤ s.farInflight)) then s
      else
        let p := { p with serial := s.far.serial, sentAt := some s.time.frc, sentEpoch := s.time.epoch }
        let s := s.setFar { s.far with serial := (s.far.serial + 1) % 512 }
        let s := s.setOp k { o with pieces := o.pieces.set j p }
        let use : TxUse := match o.owner with
          | some (r, i) => if o.posted && j + 1 == o.pieces.length then .far r i o.len (o.start - o.rbase) p.bytes
            else .cfg (if o.posted then some (r, i) else none) p.bytes
          | none => .cfg none p.bytes
        match s.sendPiece o p use with
        | (none, s) => s
        | (some st, s) => s.setOp k { o with pieces := o.pieces.set j { p with sentAt := none, res := some (s.pieceEnd st) } }

/-- Every piece whose turn has come is sent; posted writes that have sent all their pieces need no record. -/
def pump (s : State) : State :=
  let s := (List.range s.far.ops.length).foldl (fun s k =>
    (List.range (match s.far.ops[k]? with
      | some o => o.pieces.length
      | none => 0)).foldl (pumpPiece k) s) s
  s.setFar { s.far with ops := s.far.ops.filter (fun o => !(o.posted && o.pieces.all (fun p => p.sentAt.isSome))) }

/-! ## Starting (R416–R420, R424) -/

/-- R416: the window's settings. -/
def winTarget (s : State) (w : Nat) : Nat := let t := s.reg (R.FARBR_WINw_TARGET w); if bit t 15 then 0x8000 else fld t 14 0
def winBase (s : State) (w : Nat) : Nat := s.field (R.FARBR_WINw_RBASE w) 31 8 * 256
def winSize (s : State) (w : Nat) : Nat := 2 ^ clampNat 8 26 (s.field (R.FARBR_WINw_SIZE w) 4 0)

/-- R416: the window reaches no further than its target's address space. -/
def winFits (s : State) (w : Nat) : Bool :=
  decide (s.winBase w + s.winSize w ≤ (if s.winTarget w = 0x8000 then 2 ^ 26 else 2 ^ 32))

def winUsable (s : State) (w : Nat) : Bool := s.flag (R.FARBR_WINw_CTRL w) 0 && s.winFits w

/-- R419: why a tile is not reached: a status, or none. -/
def tileRefuses (s : State) (t : Nat) : Option Nat :=
  let r := s.routeOf t
  if !r.valid || !s.vcnPort r.port then some stBadAddress else s.tilesBarred

/-- R419. The bridge itself must be enabled (log entry 14). -/
def farRefuses (s : State) (w off len : Nat) : Option Nat :=
  if !s.winUsable w ∨ off % 4 ≠ 0 then some stBadAddress
  else if len = 0 ∨ len % 4 ≠ 0 ∨ 65536 < len ∨ s.winSize w < off + len then some stBadLength
  else if !s.farEn then some stNoResource
  else if s.winTarget w = 0x8000 then (if s.braceOn then none else some stNoResource)
  else s.tileRefuses (s.winTarget w)

/-- R420: the pieces of n bytes from target address a; the argument is fuel. -/
def cut (tries : Nat) (a n : Nat) (data : Bytes) : Nat → List Piece
  | 0 => []
  | f + 1 =>
    if n = 0 then []
    else
      let k := min n (256 - a % 256)
      { serial := 0, addr := a, bytes := k, data := data.take k, left := tries } :: cut tries (a + k) (n - k) (data.drop k) f

/-- An operation of window w is made, with its pieces. -/
def farOp (s : State) (w : Nat) (owner : Option (Nat × Nat)) (write : Bool) (start len dst : Nat) (data : Bytes) : FarOp :=
  let c := s.reg (R.FARBR_WINw_CTRL w)
  let pf := !write && bit c 2
  let a := if pf then start / 256 * 256 else start
  let n := if pf then (start + len + 255) / 256 * 256 - a else len
  { owner := owner, win := w, target := s.winTarget w, write := write, posted := write && bit c 1, prefetch := pf, ahead := bit c 3
    age := atLeast1 (fld c 31 16) * 1250, rbase := s.winBase w, size := s.winSize w, start := start, len := len, dst := dst
    pieces := cut (if write && !bit c 4 then 0 else s.field R.FARBR_RETRY 2 0) a n data 260 }

/-- R424: a read that lies wholly in the window's buffer. -/
def bufServes (s : State) (w start len : Nat) : Option FarBuf :=
  match s.far.bufs.lookup w with
  | some b => if b.block ≤ start && start + len ≤ b.block + 256 && decide (s.time.frc ≤ b.until_) then some b else none
  | none => none

/-- The words of a block that a request of len bytes at start covers. -/
def wordsIn (block start len : Nat) : List Nat := (List.range 64).filter (fun i => decide (start ≤ block + 4 * i) && decide (block + 4 * i < start + len))

/-- R422: the data of a piece that succeeded reaches its place in owner memory. -/
def deliver (r : Nat) (o : FarOp) (s : State) (p : Piece) : State :=
  match p.res with
  | some e =>
    if e.status ≠ 0 then s
    else
      let lo := max p.addr o.start
      let hi := min (p.addr + p.bytes) (o.start + o.len)
      s.ownWrite r (o.dst + (lo - o.start)) (slice e.data (lo - p.addr) (hi - lo))
  | none => s

/-- Nothing of the operation is on its way, and nothing more will be sent. A posted write is over once a piece has failed. -/
def opOver (o : FarOp) : Bool :=
  if o.posted then (failedPiece o).isSome else o.pieces.all (fun p => p.res.isSome || (p.sentAt.isNone && (failedPiece o).isSome))

/-- R418: a piece that has reached its end: sent, where the write is posted; else answered with OK. -/
def pieceDone (o : FarOp) (p : Piece) : Bool := match p.res with
  | some e => e.status == 0
  | none => o.posted && p.sentAt.isSome

/-- R418: RESULT0 of an operation that does not end with OK: the bytes of a write that were sent or acknowledged; of a read the bytes
up to the first piece that is not there. -/
def partResult (o : FarOp) : Nat :=
  if o.write then ((o.pieces.filter (pieceDone o)).map Piece.bytes).sum
  else match o.pieces.find? (fun p => !pieceDone o p) with
    | some p => p.addr - o.start
    | none => o.len

/-- R425: a block of a completed read, not kept, that leaves words undelivered. -/
def looseWords (o : FarOp) (p : Piece) : Bool := match p.res with
  | some e => e.status == 0 && decide ((wordsIn p.addr o.start o.len).length < 64)
  | none => false

/-- R425: the first of the pieces of a prefetchable read that leaves words undelivered is a discard. -/
def looseDiscard (s : State) (o : FarOp) (l : List Piece) : State := match l.find? (looseWords o) with
  | some p => s.discard o.win o.target (farTag o.win p.serial) p.addr p.sentEpoch (match p.res with
    | some e => e.epoch
    | none => 0)
  | none => s

/-- R460, R418: an operation ends with ABORTED, with what has come of it so far. A prefetchable read keeps no buffer (R425). -/
def abortOp (s : State) (o : FarOp) : State := match o.owner with
  | none => s
  | some (r, i) =>
    let s := if o.write then s else o.pieces.foldl (deliver r o) s
    let s := if o.prefetch then s.looseDiscard o o.pieces else s
    s.complete r i stAborted (partResult o) 0 (match o.pieces.find? (fun p => !pieceDone o p) with
      | some p => p.addr - o.rbase
      | none => 0)

/-- R420, R424: reads that are on their way on the windows that p picks leave no buffer behind. -/
def staleReads (s : State) (p : Nat → Bool) : State :=
  s.setFar { s.far with ops := s.far.ops.map (fun o => if p o.win then { o with stale := true } else o) }

/-- R424: the buffer that the last block of a prefetchable read becomes; one that is stale is not kept, and its words that have gone
nowhere are discards (R425). -/
def keepBuf (s : State) (o : FarOp) (p : Piece) (seen : List Nat) : State :=
  match p.res with
  | some e =>
    if e.status ≠ 0 then s
    else if o.stale then (if seen.length < 64 then s.discard o.win o.target (farTag o.win p.serial) p.addr p.sentEpoch e.epoch else s)
    else
      let s := s.dropBuf o.win
      s.setFar { s.far with bufs := (o.win, { block := p.addr, data := e.data, seen := seen, until_ := e.at_ + o.age, target := o.target
                                              tag := farTag o.win p.serial, sentEpoch := p.sentEpoch, rspEpoch := e.epoch }) :: s.far.bufs }
  | none => s

/-- R424: what a prefetchable read leaves behind; with AHEAD the next block is read too, unless group 10 has changed the window's target
or base, or made it unusable (DEDUCED, log entry 35). -/
def prefetched (s : State) (o : FarOp) : State :=
  match o.pieces.getLast? with
  | none => s
  | some last =>
    let s := s.looseDiscard o o.pieces.dropLast
    let s := s.keepBuf o last (wordsIn last.addr o.start o.len)
    let next := last.addr + 256
    if o.ahead && s.winUsable o.win && s.winTarget o.win == o.target && s.winBase o.win == o.rbase && o.owner.isSome && next + 256 ≤ o.rbase + o.size && (match last.res with
        | some e => e.status == 0
        | none => false) then
      let c : FarOp := { o with owner := none, stale := false, start := next, len := 0, pieces := cut (s.field R.FARBR_RETRY 2 0) next 256 [] 2 }
      s.setFar { s.far with ops := s.far.ops ++ [c] }
    else s

/-- An operation that is over completes. -/
def finishOp (s : State) (o : FarOp) : State :=
  match o.owner with
  | none => (match o.pieces with
    | [p] => s.keepBuf o p []
    | _ => s)
  | some (r, i) =>
    let s := if o.write then s else o.pieces.foldl (deliver r o) s
    let s := match failedPiece o with
      | none => s.complete r i stOk o.len
      | some (p, e) => s.complete r i e.status (partResult o) e.far (p.addr - o.rbase)
    if o.prefetch then s.prefetched o else s

/-- Operations that are over leave, and pieces that waited for their turn are sent, until nothing more changes; the argument is fuel. -/
def settleOps (s : State) : Nat → State
  | 0 => s
  | n + 1 =>
    let s := s.pump
    if s.far.ops.any opOver then
      let ended := s.far.ops.filter opOver
      let s := s.setFar { s.far with ops := s.far.ops.filter (fun o => !opOver o) }
      settleOps (ended.foldl finishOp s) n
    else s

/-- Every operation has at most one read-ahead behind it. -/
def farSettle (s : State) : State := s.settleOps (2 * s.far.ops.length + 1)

/-- R418: a FAR_WRITE or FAR_READ starts. -/
def farStart (write : Bool) (s : State) (r : Nat) (c : Cmd) : State :=
  let w := fld (arg c 0) 5 0
  let off := (arg c 1).toNat
  match s.farRefuses w off c.desc.len with
  | some st => s.complete r c.idx st
  | none =>
    let a := s.winBase w + off
    match (if write then none else s.bufServes w a c.desc.len) with
    | some b =>
      let seen := b.seen ++ (wordsIn b.block a c.desc.len).filter (fun i => !b.seen.contains i)
      let s := s.setFar { s.far with bufs := (w, { b with seen := seen }) :: s.far.bufs.filter (fun x => x.1 != w) }
      (s.ownWrite r c.desc.addr (slice b.data (a - b.block) c.desc.len)).complete r c.idx stOk c.desc.len
    | none =>
      let s := s.dropBuf w
      let s := if write then s.staleReads (· == w) else s
      let data := if write then s.ownRead r c.desc.addr c.desc.len else []
      let o := s.farOp w (some (r, c.idx)) write a c.desc.len c.desc.addr data
      let s := s.startCmd r c.idx (.far o.pieces.length)
      (s.setFar { s.far with ops := s.far.ops ++ [o] }).farSettle

/-! ## Ending (R422, R424, R425) -/

/-- The outstanding non-posted piece that a tag names at a target: operation and piece number. -/
def farFind (s : State) (target tag : Nat) : Option (Nat × Nat) :=
  (List.range s.far.ops.length).findSome? (fun k => match s.far.ops[k]? with
    | none => none
    | some o =>
      if o.posted ∨ o.target ≠ target then none
      else ((List.range o.pieces.length).find? (fun j => match o.pieces[j]? with
        | some p => p.sentAt.isSome && p.res.isNone && farTag o.win p.serial == tag
        | none => false)).map (fun j => (k, j)))

/-- A piece ends. -/
def endPiece (s : State) (k j : Nat) (e : PieceEnd) : State :=
  match s.far.ops[k]? with
  | none => s
  | some o => match o.pieces[j]? with
    | none => s
    | some p => (s.setOp k { o with pieces := o.pieces.set j { p with res := some e } }).farSettle

/-! ## Answers (R422–R427) -/

/-- R423: a late failure of a posted write. -/
def lateFail (s : State) (target : Nat) (l : Bytes) (e : Epoch) : State :=
  let tag := beAt l 4 2
  let sent : Epoch := match s.far.hist.lookup (tag % 512) with
    | some (t, a, x) => if t = target ∧ a = beAt l 0 4 then x else 0xFFFFFFFF
    | none => 0xFFFFFFFF
  ((s.bump R.FARBR_LATE_FAIL_CNT).raise R.FARBR_STATUS 0).farLog 1 (tag / 512 % 64) (beAt l 7 1) target tag (beAt l 0 4) (beAt l 8 2) sent e

/-- R425, R426: an answer that nothing waits for. -/
def strayAnswer (s : State) (target : Nat) (l : Bytes) (e : Epoch) : State :=
  let tag := beAt l 4 2
  let win := if 0x8000 ≤ tag then 0xFF else tag / 512
  let log (s : State) (t : Nat) : State := s.farLog t win (beAt l 7 1) target tag (beAt l 0 4) (beAt l 8 2) 0xFFFFFFFF e
  if 12 < l.length then log ((s.bump R.FARBR_ABORT_DISCARD_CNT).raise R.FARBR_STATUS 1) 3
  else log ((s.bump R.FARBR_STRAY_CNT).raise R.FARBR_STATUS 5) 5

/-- R427: the base of the poll area. -/
def pollBase (s : State) : Nat := s.field R.FARBR_POLL_HI 1 0 * 2 ^ 32 + s.field R.FARBR_POLL_LO 31 6 * 64

/-- R427: the oldest poll of tile t that waits waits no longer. -/
def pollOver (s : State) (t : Nat) : State := s.setFar { s.far with polls := s.far.polls.eraseP (fun x => x.1 == t) }

/-- R427: a tile answers a poll; of several that wait, the oldest (DESIGN CHOICE, log entry 35: they carry one TAG). -/
def pollAnswer (s : State) (t : Nat) (l : Bytes) (e : Epoch) : State :=
  if !s.far.polls.any (fun x => x.1 == t) then s.strayAnswer t l e
  else
    let s := (s.pollOver t).bump R.FARBR_POLL_CNT
    if beAt l 7 1 ≠ stOk ∨ l.length ≠ 16 then s
    else
      let v := beAt l 12 4
      let a := s.pollBase + 0x2000 + 4 * t
      let mask := (s.reg R.FARBR_POLL_MASK).toNat
      let old := s.rdLE a 4
      let s := if v &&& mask = old &&& mask then s
        else
          let b := s.pollBase + 0x1000 + t / 8
          ((s.wr8 b (s.rd8 b ||| BitVec.ofNat 8 (2 ^ (t % 8)))).setReg R.FARBR_POLL_LAST (w32 t)).raise R.FARBR_STATUS 3
      s.wrLE a 4 v

/-- R422–R427: an answer from a target, its operation header well formed. -/
def farAnswer (s : State) (target : Nat) (l : Bytes) (e : Epoch) : State :=
  let tag := beAt l 4 2
  let st := beAt l 7 1
  let data := l.drop 12
  if beAt l 6 1 % 2 = 1 then s.lateFail target l e
  else if 0x8000 ≤ tag then (if tag - 0x8000 = target then s.pollAnswer target l e else s.strayAnswer target l e)
  else match s.farFind target tag with
    | none => s.strayAnswer target l e
    | some (k, j) => match s.far.ops[k]?.bind (fun o => o.pieces[j]?.map (fun p => (o, p))) with
      | none => s
      | some (o, p) =>
        if st ≠ stOk then s.endPiece k j { status := stFarError, far := st, data := [], at_ := s.time.frc, epoch := e }
        else if !o.write && data.length ≠ p.bytes then s.strayAnswer target l e
        else s.endPiece k j { status := 0, far := 0, data := data, at_ := s.time.frc, epoch := e }

/-- R263: a CFGRSP is well formed. -/
def farShape (l : Bytes) : Bool := l.length == 12 || (decide (12 < l.length) && l.length == 12 + beAt l 8 2)

/-- R422: a CFGRSP from a tile. -/
def cfgrsp (s : State) (x : VcnRx) : State := if farShape x.payload then s.farAnswer x.src x.payload x.epoch else s.rxMalformed

/-- R422: FARBR_TMO in cycles. -/
def farTmo (s : State) : Nat := atLeast1 (s.field R.FARBR_TMO 15 0) * 1250

/-- R422: a piece has no answer in time: it is sent again, or fails with TIMEOUT. -/
def pieceTimeout (s : State) (tag : Nat) : State :=
  let hit := (List.range s.far.ops.length).findSome? (fun k => match s.far.ops[k]? with
    | none => none
    | some o => (s.farFind o.target tag).bind (fun x => if x.1 = k then some x else none))
  match hit with
  | none => s
  | some (k, j) => match s.far.ops[k]?.bind (fun o => o.pieces[j]?.map (fun p => (o, p))) with
    | none => s
    | some (o, p) =>
      let due := (match p.sentAt with
        | some t => t
        | none => 0) + s.farTmo
      let s : State := { s with time := { s.time with frc := max s.time.frc due } }
      if 0 < p.left then
        let p := { p with left := p.left - 1, sentAt := some s.time.frc, sentEpoch := s.time.epoch }
        match (s.setOp k { o with pieces := o.pieces.set j p }).sendPiece o p (.cfg none p.bytes) with
        | (none, s) => s
        | (some st, s) => s.endPiece k j (s.pieceEnd st)
      else
        ((s.bump R.FARBR_TMO_CNT).raise R.FARBR_STATUS 2).endPiece k j (s.pieceEnd stTimeout)

/-- R424: a buffer outlives PF_AGE. -/
def prefetchExpire (s : State) (w : Nat) : State :=
  match s.far.bufs.lookup w with
  | none => s
  | some b => ({ s with time := { s.time with frc := max s.time.frc b.until_ } }).dropBuf w

/-! ## Polling (R427) -/

/-- The next tile enabled in the poll area, from pollNext round. -/
def pollTile (s : State) : Option Nat :=
  let on (t : Nat) : Bool := (s.rd8 (s.pollBase + t / 8)).toNat.testBit (t % 8)
  match (List.range (32768 - s.far.pollNext)).find? (fun i => on (s.far.pollNext + i)) with
  | some i => some (s.far.pollNext + i)
  | none => (List.range s.far.pollNext).find? on

/-- R427: the tiles enabled in the poll area. -/
def pollTiles (s : State) : Nat := ((List.range 4096).map (fun i => popcount 8 (s.rd8 (s.pollBase + i)).toNat)).sum

/-- R427: the cycle in which the next poll is due: the enabled tiles' polls lie evenly over each POLL_IVL ms. -/
def pollDue (s : State) : Nat := match s.far.pollAt with
  | none => s.time.frc
  | some a => a + atLeast1 (s.field R.FARBR_POLL_CTRL 31 16) * 1250000 / s.pollTiles

/-- R427: the next poll; skipped where R419 would refuse it. -/
def poll (s : State) : State :=
  if !s.farEn || !s.flag R.FARBR_POLL_CTRL 0 then s
  else match s.pollTile with
    | none => s
    | some t =>
      let s := s.waitFrc s.pollDue
      let s := s.setFar { s.far with pollNext := (t + 1) % 32768, pollAt := some s.time.frc }
      if (s.tileRefuses t).isSome then s
      else
        let a := s.field R.FARBR_POLL_ADDR 31 2 * 4
        let x : FarPoll := { sentAt := s.time.frc, epoch := s.time.epoch, addr := a }
        let s := s.setFar { s.far with polls := s.far.polls ++ [(t, x)] }
        (s.farOut t 6 (opHeader a (0x8000 + t) 0 0 4) (.cfg none 4)).2

/-- R427: the oldest poll of tile t that waits gets no answer. -/
def pollTimeout (s : State) (t : Nat) : State :=
  match s.far.polls.lookup t with
  | none => s
  | some x =>
    let s := s.waitFrc (x.sentAt + s.farTmo)
    let s := s.pollOver t
    ((s.bump R.FARBR_POLL_TMO_CNT).raise R.FARBR_STATUS 4).farLog 4 0xFF stTimeout t (0x8000 + t) x.addr 4 x.epoch s.time.epoch

/-! ## Group 10 -/

/-- The log and the poll area, from register values: they overlap, or reach the firmware's region. -/
def farBasesBad (get : Nat → Word) : Bool :=
  let at_ (lo hi : Nat) : Nat := fld (get hi) 1 0 * 2 ^ 32 + fld (get lo) 31 6 * 64
  let log := at_ R.FARBR_LOG_LO R.FARBR_LOG_HI
  let poll := at_ R.FARBR_POLL_LO R.FARBR_POLL_HI
  (decide (log < poll + 0x22000) && decide (poll < log + 0x8000)) || decide (fwBase < log + 0x8000) || decide (fwBase < poll + 0x22000)

/-- R416, R417: what the application of group 10 does. -/
def farApply (s : State) : State :=
  let s := ((List.range 64).foldl dropBuf s).staleReads (fun _ => true)
  s.raiseIf ((List.range 64).any (fun w => s.flag (R.FARBR_WINw_CTRL w) 0 && !s.winFits w)) R.FARBR_STATUS 8

end State

/-! ## Meanings -/

def execCfgrspRx (port : Nat) (frame : Bytes) (s : State) : Host.Outcome State Fault Refusal :=
  onMain s (fun s => s.vcnRx port frame (fun x => x.type == 7) State.cfgrsp)

def execFarWrite (ring : Nat) (s : State) : Host.Outcome State Fault Refusal :=
  onMain s (fun s => s.runDesc ring 0x20 (fun s c => State.farStart true s ring c))

def execFarRead (ring : Nat) (s : State) : Host.Outcome State Fault Refusal :=
  onMain s (fun s => s.runDesc ring 0x21 (fun s c => State.farStart false s ring c))

/-- R403, R421: the pieces that ring's operations no longer hold back are sent. -/
def execRingDrained (ring : Nat) (s : State) : Host.Outcome State Fault Refusal := onMain s (fun s => (s.ringDrained ring).farSettle)

def execFarPieceTimeout (tag : Nat) (s : State) : Host.Outcome State Fault Refusal := onMain s (·.pieceTimeout tag)

def execPrefetchExpire (window : Nat) (s : State) : Host.Outcome State Fault Refusal := onMain s (·.prefetchExpire window)

def execFarPoll (s : State) : Host.Outcome State Fault Refusal := onMain s (·.poll)

def execFarPollTimeout (tile : Nat) (s : State) : Host.Outcome State Fault Refusal := onMain s (·.pollTimeout tile)

end Sys2Proof.Machine
end

