-- ==== Sys2Proof/Machine/Raster.lean ====
section
/-! DEFINITION. The virtual raster and the preview outputs (R123–R130, R134, R135). One CLK_FABRIC cycle spans two FRC ticks, the
first of them even (R32). -/

namespace Sys2Proof.Machine

namespace State

/-! ## Raster timing (R123, R124) -/

/-- A timing: H_SYNC + H_BP, H_ACTIVE, line total, V_SYNC + V_BP, V_ACTIVE, line count, from the four timing registers. -/
structure Timing where
  hLead : Nat
  hAct : Nat
  hTot : Nat
  vLead : Nat
  vAct : Nat
  vTot : Nat
deriving DecidableEq, Repr

def timingOf (s : State) (ha hb va vb : Nat) : Timing :=
  let hl := s.field hb 31 16 + s.field hb 15 0
  let h := clampNat 1 16384 (s.field ha 30 16)
  let vl := max 1 (s.field vb 31 16 + s.field vb 15 0)
  let v := clampNat 1 16384 (s.field va 30 16)
  { hLead := hl, hAct := h, hTot := hl + h + s.field ha 15 0, vLead := vl, vAct := v, vTot := vl + v + s.field va 15 0 }

def rasterTiming (s : State) : Timing := s.timingOf R.RASTER_HTIM_A R.RASTER_HTIM_B R.RASTER_VTIM_A R.RASTER_VTIM_B

/-- The pixel position of an active pixel, blanking included. -/
def Timing.pos (t : Timing) (line col : Nat) : Nat := (t.vLead + line) * t.hTot + t.hLead + col

/-- PIXRATE: 0 acts as 1, above 0x8000_0000 as 0x8000_0000. -/
def pixRate (s : State) : Nat := clampNat 1 0x80000000 (s.reg R.RASTER_PIXRATE).toNat

/-- R124: CLK_FABRIC cycles after the frame start to the first cycle at or after the end of slot q. -/
def slotEnd (s : State) (q : Nat) : Nat := ((q + 1) * 2 ^ 28 + s.pixRate - 1) / s.pixRate

/-- The raster's state replaced. -/
def setRaster (s : State) (r : Scan) : State := { s with ingest := { s.ingest with raster := r } }

/-- FRC of the next boundary. -/
def boundaryFrc (s : State) : Nat := s.frcAt s.nextInstant

/-- R124, R126: FRC at which the raster is past position q; after a hold it passes 8 positions, blanking included, per CLK_FABRIC cycle
until it is back at its nominal position. -/
def reachedAt (s : State) (q : Nat) : Nat :=
  let r := s.ingest.raster
  let nominal := r.start + 2 * s.slotEnd q
  match r.catchUp with
  | some (t, held) => max nominal (t + 2 * ((q - held) / 8 + 1))
  | none => nominal

/-- R124: FRC at which the next active pixel is due. -/
def pixelDue (s : State) : Nat := s.reachedAt (s.rasterTiming.pos s.ingest.raster.line s.ingest.raster.col)

/-- The raster's next position: that of the next active pixel, or the one after the last. -/
def rasterNext (s : State) : Nat :=
  let r := s.ingest.raster
  s.rasterTiming.pos r.line (if r.done then s.rasterTiming.hAct else r.col)

/-- R124, R125: the value pushed at an active position: the canvas pixel when its line has been fetched; else the pixel pushed
last in this frame, or the fill value. Answers also whether it is a repetition. -/
def pixelValue (s : State) : List Nat × Bool :=
  let r := s.ingest.raster
  match r.fetched.lookup r.line with
  | some l => (l.getD r.col [], false)
  | none => (r.last.getD ((List.range s.canvComps).map s.canvFill), true)

/-- R124: the raster pushes one pixel, at the current cycle. -/
def pushPixel (s : State) : State :=
  let r := s.ingest.raster
  let t := s.rasterTiming
  let (v, rep) := s.pixelValue
  let s := (s.bumpIf rep R.RASTER_UNDERRUN_CNT).raiseIf rep R.RASTER_STATUS 0
  let nominal := r.start + 2 * s.slotEnd (t.pos r.line r.col)
  let lastCol := decide (t.hAct ≤ r.col + 1)
  let lastPix := lastCol && decide (t.vAct ≤ r.line + 1)
  let s := s.setRaster { r with
    part := r.part ++ [v]
    last := some v
    col := if lastCol then 0 else r.col + 1
    line := if lastCol && !lastPix then r.line + 1 else r.line
    fetched := if lastCol then r.fetched.filter (fun l => decide (r.line < l.1)) else r.fetched
    done := lastPix
    catchUp := match r.catchUp with
      | some c => if s.time.frc ≤ nominal then none else some c
      | none => none }
  let elems := ((s.fifoDesc s.rasterFifo).map FifoDesc.elems).getD 64
  let s := if lastCol ∨ elems ≤ s.ingest.raster.part.length then s.rasterFlush r.col r.line else s
  if lastPix then
    let s := (s.setReg R.RASTER_ACTIVE_END (w32 ((s.time.frc - r.start) / 2 * 16 / 10))).setRaster { s.ingest.raster with eofWait := true }
    if s.rasterFull then s.setRaster { s.ingest.raster with hold := some s.time.frc }
    else (s.setRaster { s.ingest.raster with eofWait := false }).rasterEof
  else s

/-- The pace reaches a pixel: it is pushed, or the raster begins to hold (R124–R126). A pixel due after the next boundary is
never reached. -/
def rasterPixel (s : State) : State :=
  let r := s.ingest.raster
  let due := s.pixelDue
  if !r.run || r.done || r.hold.isSome || decide (s.boundaryFrc ≤ due) then s
  else
    let s : State := { s with time := { s.time with frc := max s.time.frc due } }
    if s.rasterFull then s.setRaster { s.ingest.raster with hold := some s.time.frc } else s.pushPixel

/-- R126: the held CLK_FABRIC cycles are counted. -/
def endHold (s : State) : State :=
  let r := s.ingest.raster
  match r.hold with
  | none => s
  | some t => (s.count R.RASTER_HOLD_CYC ((s.time.frc - t) / 2)).setRaster { r with hold := none, catchUp := some (s.time.frc, s.rasterNext) }

/-- R126: the source FIFO has room again: the raster goes on, or pushes the EOF that waited. -/
def holdRelease (s : State) : State :=
  if !s.ingest.raster.hold.isSome || s.rasterFull then s
  else
    let s := s.endHold
    if s.ingest.raster.eofWait then (s.setRaster { s.ingest.raster with eofWait := false }).rasterEof else s

/-- R124: FRC at which the nominal position reaches the start of the line before active line `line`. -/
def fetchFrom (s : State) (line : Nat) : Nat :=
  let t := s.rasterTiming
  let q := (t.vLead + line - 1) * t.hTot
  s.ingest.raster.start + 2 * (if q = 0 then 0 else s.slotEnd (q - 1))

/-- R124: the fetch of an active line ends: its pixels are those that DRAM holds now. It runs during the line before, so not before
the raster has come there, nor past the frame; data for a line already passed is discarded (R125). With EN = 0 nothing is fetched (R123): a
frame that runs then goes on with what has been fetched (DESIGN CHOICE, log entry 60). -/
def fetchDone (s : State) (line : Nat) : State :=
  let r := s.ingest.raster
  let t := s.rasterTiming
  if s.flag R.RASTER_CTRL 0 && r.run && !r.done && decide (r.line ≤ line) && decide (line ≤ r.line + 1) && decide (line < t.vAct) && (r.fetched.lookup line).isNone
      && decide (s.fetchFrom line < s.boundaryFrc) then
    let s := s.waitFrc (s.fetchFrom line)
    s.setRaster { r with fetched := (line, (List.range t.hAct).map (fun x => s.canvPixel r.frame x line)) :: r.fetched }
  else s

/-- R126: what a boundary does to the raster's running frame: an abandon, or a frame cut short in V_FP. A boundary in the H_FP of the
last active line counts as in V_FP, since no active pixel remains (DESIGN CHOICE, log entry 60). -/
def rasterBoundary (s : State) : State :=
  let r := s.ingest.raster
  if !r.run then s
  else
    let s := s.endHold
    let r := s.ingest.raster
    let t := s.rasterTiming
    if !r.done then
      let s := ((s.bump R.RASTER_ABANDON_CNT).raise R.RASTER_STATUS 1).setRaster { r with run := false, part := [] }
      let s : State := { s with ingest := { s.ingest with abandoned := true } }
      s.rasterEof
    else
      let short := decide (s.rasterNext < t.vTot * t.hTot) && decide (s.time.frc < s.reachedAt (t.vTot * t.hTot - 1))
      ((s.bumpIf short R.RASTER_SHORT_CNT).raiseIf short R.RASTER_STATUS 2).setRaster { r with run := false, eofWait := false }

/-! ## Preview outputs (R127–R130) -/

def previewOf (s : State) (n : Nat) : Scan := Sparse.get {} s.ingest.preview n
def setPreview (s : State) (n : Nat) (p : Scan) : State :=
  { s with ingest := { s.ingest with preview := Sparse.put {} s.ingest.preview n p } }
def hpdOf (s : State) (n : Nat) : Bool := Sparse.get false s.ingest.hpd n
def setTrained (s : State) (n : Nat) (v : Bool) : State :=
  { s with ingest := { s.ingest with trained := Sparse.put false s.ingest.trained n v } }

/-- Bits per component, lanes, link rate in kbit/s and pixel clock in kHz of PVn_CTRL and PVn_PIXCLK. -/
def pvBits (s : State) (n : Nat) : Nat := if s.flag (R.PVn_CTRL n) 8 then 10 else 8
def pvLanes (s : State) (n : Nat) : Nat := match s.field (R.PVn_CTRL n) 2 1 with
  | 0 => 1
  | 1 => 2
  | _ => 4
def pvRate (s : State) (n : Nat) : Nat := match s.field (R.PVn_CTRL n) 5 4 with
  | 0 => 1620000
  | 1 => 2700000
  | 2 => 5400000
  | _ => 8100000
def pvClock (s : State) (n : Nat) : Nat := clampNat 25000 900000 (s.field (R.PVn_PIXCLK n) 19 0)

/-- R128: DEC. -/
def pvDec (s : State) (n : Nat) : Nat := 2 ^ min 4 (s.field (R.PVn_CTRL n) 14 12)

/-- R130: the output trains its link, with the outcome `ok` where the bandwidth suffices; without lock of its PLL training fails
(R37). The lane count trained is kept. -/
def trainPreview (s : State) (n : Nat) (ok : Bool) : State :=
  if !s.flag (R.PVn_CTRL n) 0 then s.setTrained n false
  else if ok && !s.unitLost (.displayPort n) && decide (s.pvClock n * 3 * s.pvBits n * 10 ≤ s.pvLanes n * s.pvRate n * 8) then
    let s := s.setTrained n true
    { s with ingest := { s.ingest with lanes := Sparse.put 0 s.ingest.lanes n (min 2 (s.field (R.PVn_CTRL n) 2 1)) } }
  else (s.setTrained n false).raise R.RASTER_STATUS (7 + n)

/-- R130: HPD is asserted. -/
def previewHpd (s : State) (n : Nat) (ok : Bool) : State :=
  if 2 ≤ n then s
  else
    let s := s.raiseIf (!s.hpdOf n) R.RASTER_STATUS (5 + n)
    let s : State := { s with ingest := { s.ingest with hpd := Sparse.put false s.ingest.hpd n true } }
    s.trainPreview n ok

/-- R134: HPD is deasserted. -/
def previewDrop (s : State) (n : Nat) : State :=
  if 2 ≤ n then s
  else
    let s := s.raiseIf (s.hpdOf n) R.RASTER_STATUS (5 + n)
    let s : State := { s with ingest := { s.ingest with hpd := Sparse.put false s.ingest.hpd n false } }
    (s.setTrained n false).setPreview n {}

/-- R130: the retries at an application of group 2; whether training succeeds is a free value. A link already trained stays as it was
trained (DESIGN CHOICE, log entry 60). -/
def previewRetry (s : State) (n : Nat) : State :=
  if !s.flag (R.PVn_CTRL n) 0 then (s.setTrained n false).setPreview n {}
  else if s.hpdOf n && !s.trainedOf n then let (v, s) := s.fresh; s.trainPreview n (v % 2 == 1)
  else s

/-- R129: a preview frame starts at a raster frame start, or only at those of even epochs: under HALF a frame goes on across the boundary of
the odd epoch (DESIGN CHOICE, log entry 60). -/
def previewStart (s : State) (f : Epoch) (start n : Nat) : State :=
  if s.flag (R.PVn_CTRL n) 0 && s.trainedOf n then
    if s.flag (R.PVn_CTRL n) 16 && s.time.epoch.toNat % 2 = 1 then s
    else s.setPreview n { run := true, frame := f, start := start }
  else s

/-- R128: one component converted to 8 or 10 bits. -/
def pvConvert (bits v : Nat) : Nat :=
  if bits = 10 then min 1023 ((v + 0x20) / 64) else min 255 ((v + 0x80) / 256)

/-- R128: the three components of a preview pixel. -/
def pvComps (s : State) (f : Epoch) (x y : Nat) : List Nat × State :=
  [0, 1, 2].foldl (fun (a : List Nat × State) c => let (v, s) := a.2.canvAny f x y c; (a.1 ++ [v], s)) ([], s)

/-- R127: an output's own timing. -/
def previewTiming (s : State) (n : Nat) : Timing := s.timingOf (R.PVn_HTIM_A n) (R.PVn_HTIM_B n) (R.PVn_VTIM_A n) (R.PVn_VTIM_B n)

/-- R129: FRC at which the output's next pixel is due, by its pixel clock. -/
def previewDue (s : State) (n : Nat) : Nat :=
  (s.previewOf n).start + ((s.previewTiming n).pos (s.previewOf n).line (s.previewOf n).col + 1) * 1250000 / s.pvClock n

/-- R128, R129: a preview output reaches its next pixel; data not fetched in time repeats the last pixel, or the fill value. A pixel due
at the next boundary or later is never reached. -/
def previewPixel (s : State) (n : Nat) (fetched : Bool) : State :=
  let p := s.previewOf n
  if 2 ≤ n || !p.run || p.done then s
  else
    let t := s.previewTiming n
    let due := s.previewDue n
    if s.boundaryFrc ≤ due then s
    else
    let s := s.waitFrc due
    let x := s.field (R.PVn_VIEW n) 14 0 + p.col * s.pvDec n
    let y := s.field (R.PVn_VIEW n) 30 16 + p.line * s.pvDec n
    let (v, s) := if fetched then
        let (l, s) := s.pvComps p.frame x y
        (l.map (pvConvert (s.pvBits n)), s)
      else (p.last.getD ([0, 1, 2].map (fun c => pvConvert (s.pvBits n) (s.canvFill c))), s)
    let s := (s.bumpIf (!fetched) (R.PVn_UNDERRUN_CNT n)).raiseIf (!fetched) R.RASTER_STATUS (3 + n)
    let lastCol := decide (t.hAct ≤ p.col + 1)
    let lastPix := lastCol && decide (t.vAct ≤ p.line + 1)
    let s := s.setPreview n { p with
      last := some v
      col := if lastCol then 0 else p.col + 1
      line := if lastCol && !lastPix then p.line + 1 else p.line
      done := lastPix }
    s.send (.pixel n p.line p.col v)

/-! ## Frame start (R123) -/

/-- R123: the raster starts its frame in the first CLK_FABRIC cycle after step 7 of R22 (taken in the boundary's cycle, log entry
3); while EN = 0 it pushes EOF alone. OVERSIZE is reported by R115. -/
def rasterStart (s : State) : State :=
  let f := s.time.epoch - BitVec.ofNat 32 s.canvD
  let start := (s.time.frc / 2 + 1) * 2
  let s : State := { s with ingest := { s.ingest with abandoned := false } }
  let s := s.raiseIf (s.oversize && (s.flag R.RASTER_CTRL 0 || s.trainedOf 0 || s.trainedOf 1)) R.INGEST_STATUS 1
  let s := if s.flag R.RASTER_CTRL 0 then s.setRaster { run := true, frame := f, start := start }
    else (s.setRaster {}).rasterEof
  (s.previewStart f start 0).previewStart f start 1

/-! ## AUX (R135) -/

/-- R134: a write to PVn_AUX_CMD starts an AUX transaction, also while one runs (DESIGN CHOICE, log entry 60); other commands than 0, 1,
8 and 9 are ignored. Bits [7:4] are the hardware's (R135). -/
def auxStart (s : State) (n : Nat) (v : Word) : State :=
  let c := fld v 31 28
  if 2 ≤ n ∨ ¬ (c = 0 ∨ c = 1 ∨ c = 8 ∨ c = 9) then s
  else
    let s := s.setReg (R.PVn_AUX_CMD n) (setFld v 7 4 (s.field (R.PVn_AUX_CMD n) 7 4))
    let len := fld v 3 0 + 1
    let data := if c = 0 ∨ c = 8 then ((List.range 4).flatMap (fun i => leBytes 4 (s.reg (R.PVn_AUX_DATAi n i)).toNat)).take len else []
    let s : State := { s with ingest := { s.ingest with auxBusy := Sparse.put false s.ingest.auxBusy n true } }
    s.send (.aux n c (fld v 27 8) data)

/-- R135: an AUX transaction finishes. -/
def auxEnd (s : State) (n : Nat) (r : AuxResult) (data : Bytes) : State :=
  if Sparse.get false s.ingest.auxBusy n then
    let v := s.reg (R.PVn_AUX_CMD n)
    let code := match r with
      | .ack => 0
      | .nack => 1
      | .defer => 2
      | .timeout => 3
    let c := fld v 31 28
    let s : State := { s with ingest := { s.ingest with auxBusy := Sparse.put false s.ingest.auxBusy n false } }
    let s := (s.setField (R.PVn_AUX_CMD n) 7 4 code).raise R.RASTER_STATUS 9
    if (c = 1 ∨ c = 9) ∧ r = .ack then
      let d := data.take (fld v 3 0 + 1)
      (List.range 4).foldl (fun s i =>
        let old := leBytes 4 (s.reg (R.PVn_AUX_DATAi n i)).toNat
        let part := (d.drop (4 * i)).take 4
        s.setReg (R.PVn_AUX_DATAi n i) (w32 (leNat (part ++ old.drop part.length)))) s
    else s
  else s

end State

/-! ## Meanings -/

def execRasterFetchDone (line : Nat) (s : State) : Host.Outcome State Fault Refusal := onMain s (·.fetchDone line)

def execRasterPixelDue (s : State) : Host.Outcome State Fault Refusal := onMain s (·.rasterPixel)

def execRasterHoldRelease (s : State) : Host.Outcome State Fault Refusal := onMain s (·.holdRelease)

def execPreviewHpd (output : Nat) (trained : Bool) (s : State) : Host.Outcome State Fault Refusal :=
  onMain s (·.previewHpd output trained)

def execPreviewHpdDrop (output : Nat) (s : State) : Host.Outcome State Fault Refusal := onMain s (·.previewDrop output)

def execPreviewPixelDue (output : Nat) (fetched : Bool) (s : State) : Host.Outcome State Fault Refusal :=
  onMain s (·.previewPixel output fetched)

def execPvAuxCmd (output : Nat) (value : Word) (s : State) : Host.Outcome State Fault Refusal := onMain s (·.auxStart output value)

def execAuxDone (output : Nat) (result : AuxResult) (data : Bytes) (s : State) : Host.Outcome State Fault Refusal :=
  onMain s (·.auxEnd output result data)

end Sys2Proof.Machine
end

