-- ==== Sys2Proof/Machine/Frame.lean ====
section
/-! DEFINITION. A frame from start to end (R158–R163): its start at step 7, its completion, its deadline, its drop and the flush. -/

namespace Sys2Proof.Machine

namespace State

def setKennel (s : State) (k : KennelSt) : State := { s with kennel := k }

/-- REn_LOAD of the frame that has ended: running and stalled cycles, per mille of the frame's time. -/
def loadStep (s : State) (e : Nat) : State :=
  let span := s.time.frc - s.kennel.start
  if span = 0 then s else s.setReg (R.REn_LOAD e) (w32 (min 1000 ((s.engineOf e).cycles * 1000 / span)))

/-- R158: Kennel starts the frame of epoch e. With KNL_CTRL.EN = 0, or without a live graph, no frame runs (R178). A source without
records ends at once (R167, R169). -/
def kennelStart (s : State) (e : Epoch) : State :=
  let s := ((List.range 16).foldl loadStep s).setReg R.KNL_FRAME_EPOCH e
  let s : State := { s with calib := { s.calib with sum := [] } }
  let k := s.kennel
  let s := s.setKennel { k with
    run := s.flag R.KNL_CTRL 0 && k.graph.isSome
    epoch := e
    start := s.time.frc
    complete := false
    dropped := false
    fifos := []
    ready := []
    nodes := []
    engines := k.engines.map (fun x => (x.1, { x.2 with frameGrains := 0, cycles := 0 })) }
  if s.kennel.run then s.eofSweep else s

/-- Engine e abandons the grain it runs. -/
def abandonGrain (s : State) (e : Nat) : State := match (s.engineOf e).running with
  | none => s
  | some _ => s.endRun e

/-- R160: the flush. The cycles for which FIFOs have been full and completed grains have waited are counted (R157, R178). -/
def flush (s : State) : State :=
  let s := (List.range 16).foldl abandonGrain s
  let s := (s.kennel.fifos.map (·.1)).foldl (fun s f => s.putFifo f { fullSince := (s.fifoOf f).fullSince }) s
  let s := (List.range 64).foldl (fun s q => match s.flowNode q with
    | some n => s.count (R.KNL_FLOWq_HOLD_CYC q) (s.holdSum n.1)
    | none => s) s
  s.setKennel { s.kennel with fifos := [], ready := [], nodes := [] }

/-- R159: the frame of the epoch being rendered is dropped: counters, and the signal to Vocon, HEEL, verification and fixtures. -/
def dropFrame (s : State) : State :=
  let e := s.kennel.epoch
  let s := s.setKennel { s.kennel with dropped := true }
  let s := ((s.bump R.KNL_FRAME_DROP_CNT).setReg R.KNL_LAST_DROP_EPOCH e).raise R.KNL_STATUS 0
  ((s.vcnVoid e).verCloseNow e).composeFrame e true

/-- R159: the frame is complete; calibration is told by the caller. -/
def completeFrame (s : State) : State :=
  let s := s.setKennel { s.kennel with complete := true }
  let s := (s.setReg R.KNL_DONE_TIME (w32 ((s.time.frc - s.kennel.start) * 4 / 5))).bump R.KNL_FRAME_DONE_CNT
  s.composeFrame s.kennel.epoch false

/-- R159: the running frame has all its EOFs and no abandon. -/
def frameWhole_ (s : State) : Bool := s.frameRuns && s.sinksDone && !s.ingest.abandoned

/-- R159: the frame completes where its sinks have all received EOF. -/
def frameComplete (s : State) : State :=
  if s.frameWhole_ then s.completeFrame.calibFrameEnd s.kennel.epoch true else s

/-- R159, R160: the frame is dropped before the boundary. -/
def dropNow (s : State) : State := (s.dropFrame.calibFrameEnd s.kennel.epoch false).flush

/-- R159: the deadline: the next boundary, or HEEL's first copy for this frame where that is earlier. -/
def deadline (s : State) : Int :=
  let b := s.nextInstant
  match s.heelEp s.kennel.epoch with
  | some x =>
    if s.heelOn && x.copy == 0 && !x.missed then min b (s.heelCopyTime x 0) else b
  | none => b

/-- R159: the deadline arrives. -/
def frameDeadline (s : State) : State :=
  if !s.frameRuns then s
  else
    let s := s.waitUntil s.deadline
    if s.frameWhole_ then s.frameComplete else s.dropNow

/-- R269, R274: the next HEEL copy. Where it is copy 0 of the frame that runs, the frame's deadline comes first. -/
def heelCopyDue (s : State) : State :=
  match s.nextCopy with
  | none => s
  | some x =>
    if s.heelOn && x.copy == 0 && x.epoch == s.kennel.epoch && !x.passed.contains 0 && decide (s.heelCopyTime x 0 ≤ x.t - 10000 * uNs)
    then s.frameDeadline.heelCopy
    else s.heelCopy

/-- R159: at a boundary, a frame that has not ended does: complete where it is, else dropped. Answers also whether it completed;
CALIB is told in step 7, when the flush runs (R160, R195). -/
def frameAtBoundary (s : State) : Option Bool × State :=
  if !s.frameRuns then (none, s)
  else if s.frameWhole_ then (some true, s.completeFrame)
  else (some false, s.dropFrame)

/-- R137, R163: an error in the local store of engine e: of one bit of a 64-bit word, which ECC corrects, or of two. -/
def localStoreError (s : State) (e : Nat) (corrected : Bool) : State :=
  if 16 ≤ e then s
  else if corrected then (s.bump (R.REn_LS_CE_CNT e)).raise (R.REn_STATUS e) 1
  else
    let s := (((s.abandonGrain e).raise (R.REn_STATUS e) 2).raise R.KNL_STATUS 6).unmaskable 3
    if s.frameRuns then s.dropNow else s

end State

/-! ## Meanings -/

def execHeelCopySend (s : State) : Host.Outcome State Fault Refusal := onMain s (·.heelCopyDue)

def execFrameComplete (s : State) : Host.Outcome State Fault Refusal := onMain s (·.frameComplete)

def execFrameDeadline (s : State) : Host.Outcome State Fault Refusal := onMain s (·.frameDeadline)

def execLocalStoreError (engine : Nat) (corrected : Bool) (s : State) : Host.Outcome State Fault Refusal :=
  onMain s (·.localStoreError engine corrected)

end Sys2Proof.Machine
end

