-- ==== Sys2Proof/Machine/Intc.lean ====
section
/-! DEFINITION. The interrupt controller (R431–R443): offers, entry, EOI, the source, pending and mask registers, moderation, and
MSI-X messages. -/

namespace Sys2Proof.Machine

namespace State

def setIntc (s : State) (x : IntcSt) : State := { s with intc := x }

/-! ## Registers (R431, R432, R434) -/

/-- R434: a write of INTC_SRCs; EDGE exists for pin sources only. -/
def srcWrite (s : State) (k : Nat) (v : Word) : State :=
  if srcExists k then
    let v := v &&& (if 1664 ≤ k then 0xF8FF80FF else 0xD8FF80FF)
    (s.setIntc { s.intc with src := Sparse.put 0 s.intc.src k v, pend := if bit v 31 then s.intc.pend else s.intc.pend.filter (· != k) }).fixLive
      (R.INTC_SRCs k)
  else s

/-- R434: a write of INTC_PENDw sets all 32 bits of the word; those of a disabled source stay 0. -/
def pendWrite (s : State) (w : Nat) (v : Word) : State :=
  if 64 ≤ w then s
  else
    let l := (List.range 32).filterMap (fun i => if bit v i && s.srcEn (32 * w + i) then some (32 * w + i) else none)
    s.setIntc { s.intc with pend := s.intc.pend.filter (fun k => k / 32 != w) ++ l }

/-- A write of INTC_MASKw. -/
def maskWrite (s : State) (w : Nat) (v : Word) : State :=
  if 64 ≤ w then s
  else
    let l := (List.range 32).filterMap (fun i => if bit v i && srcExists (32 * w + i) then some (32 * w + i) else none)
    s.setIntc { s.intc with mask := s.intc.mask.filter (fun k => k / 32 != w) ++ l }

/-- A word of PEND, MASK or RAW, as it reads. -/
def bitWord (p : Nat → Bool) (w : Nat) : Word := w32 ((List.range 32).map (fun i => if p (32 * w + i) then 2 ^ i else 0)).sum

/-! ## Offers (R435–R438, R442) -/

/-- FAST, PRIO. -/
def isFast (s : State) (k : Nat) : Bool := bit (s.srcCfg k) 30
def prioOf (s : State) (k : Nat) : Nat := fld (s.srcCfg k) 23 20

/-- Core c may be offered source k now: it holds no offer, and moderation does not hold the source back (R442). -/
def mayOffer (s : State) (k c : Nat) : Bool :=
  s.deliverable k c && (s.coreOf c).offer.isNone
    && (!s.moderated k || s.coreIdle c || s.modCount c == 0 || s.isReleased k)

/-- R437: source a goes before source b. -/
def precedes (s : State) (a b : Nat) : Bool :=
  let key (k : Nat) : Nat := b2n (s.isFast k) * 65536 + s.prioOf k * 4096 + (4095 - k)
  decide (key b < key a)

/-- R437: the source to offer. -/
def offerSource (s : State) : Option Nat :=
  let l := s.intc.pend.filter (fun k => !s.isOffered k && [0, 1, 2, 3].any (s.mayOffer k))
  match l with
  | [] => none
  | x :: t => some (t.foldl (fun a b => if s.precedes b a then b else a) x)

/-- R437: the rank of a core: idle cores first, and by running priority (R436: up to 16) among the idle and among the others. -/
def coreRank (s : State) (c : Nat) : Nat := if s.coreIdle c then s.rp c else 32 + s.rp c

/-- R442: source k is a member of some core's window. -/
def isMember (s : State) (k : Nat) : Bool := [0, 1, 2, 3].any (fun d => (s.coreOf d).window.contains k)

/-- R437: the core a source is offered to: lowest rank, ties in rotation from INTC_RR. -/
def offerCore (s : State) (k : Nat) : Option Nat :=
  let l := ([0, 1, 2, 3].map (fun i => (s.intc.rr + i) % 4)).filter (s.mayOffer k)
  match l with
  | [] => none
  | x :: t => some (t.foldl (fun a b => if s.coreRank b < s.coreRank a then b else a) x)

/-- R437: one offer is made. INTC_RR moves only where cores tie. -/
def offer (s : State) : State :=
  match s.offerSource with
  | none => s
  | some k => match s.offerCore k with
    | none => s
    | some c =>
      let tie := 2 ≤ ([0, 1, 2, 3].filter (fun d => s.mayOffer k d && s.coreRank d == s.coreRank c)).length
      let bypass := s.moderated k && s.coreIdle c && (s.modCount c != 0 || s.isMember k) && !s.isReleased k
      let s := s.setIntc { s.intc with rr := if tie then (c + 1) % 4 else s.intc.rr }
      let s := [0, 1, 2, 3].foldl (fun s d => s.setCore d { s.coreOf d with released := (s.coreOf d).released.filter (· != k) }) s
      (s.setCore c { s.coreOf c with offer := some k, sleeping := false }).bumpIf bypass (R.INTC_Cc_BYPASS_CNT c)

/-- The cores' own interrupt-enable flags and their sleep, as the cores show them. -/
def coreFlags (s : State) (ie asleep : Nat) : State :=
  [0, 1, 2, 3].foldl (fun s c =>
    let x := s.coreOf c
    s.setCore c { x with ie := ie.testBit c, sleeping := asleep.testBit c && x.offer.isNone }) s

/-- R439: core c enters the handler of its offered source. -/
def enter (s : State) (c : Nat) : State :=
  match (s.coreOf c).offer with
  | none => s
  | some k =>
    if 4 ≤ c then s
    else
      let x := s.coreOf c
      let s := s.setIntc { s.intc with pend := s.intc.pend.filter (· != k)
                                       mask := if bit (s.srcCfg k) 28 && !s.isMasked k then s.intc.mask ++ [k] else s.intc.mask }
      (s.setCore c { x with offer := none, sleeping := false, insvc := (k, s.isFast k, s.prioOf k) :: x.insvc }).bump (R.INTC_Cc_DELIV_CNT c)

/-- R440: a write to INTC_Cc_EOI. -/
def eoi (s : State) (c : Nat) (v : Word) : State :=
  if 4 ≤ c then s
  else match (s.coreOf c).insvc with
    | x :: t => if x.1 = fld v 10 0 then s.setCore c { s.coreOf c with insvc := t } else s.raise R.INTC_STATUS 0
    | [] => s.raise R.INTC_STATUS 0

/-- R442: the window of core c is released, at COUNT members or at its TIME. -/
def modRelease (s : State) (c : Nat) : State :=
  let x := s.coreOf c
  if 4 ≤ c ∨ x.window = [] then s
  else
    let full := s.modCount c ≤ x.window.length
    let due := x.opened + atLeast1 (s.field (R.INTC_Cc_MOD c) 31 16) * 1250
    let s : State := if full then s else { s with time := { s.time with frc := max s.time.frc due } }
    let still := x.window.filter (fun k => s.deliverable k c)
    (s.setCore c { x with window := [], released := x.released ++ still.filter (fun k => !x.released.contains k) }).bump (R.INTC_Cc_HOLD_CNT c)

/-- R442: core c becomes idle: it sleeps with nothing in service; one that holds an offer does not sleep (R438). -/
def coreIdles (s : State) (c : Nat) : State :=
  let x := s.coreOf c
  if 4 ≤ c ∨ x.insvc ≠ [] ∨ x.offer.isSome = true then s else (s.setCore c { x with sleeping := true }).offer

/-! ## MSI-X (R414, R443) -/

/-- The four words of an MSI-X table entry. -/
def msixWord (s : State) (v i : Nat) : Word := s.reg (0x31000 + 16 * v + 4 * i)

/-- The message of vector v goes out, or waits in the PBA while it is masked. -/
def msixSend (s : State) (v : Nat) : State :=
  if s.host.funcMask || bit (s.msixWord v 3) 0 then
    { s with host := { s.host with pba := if s.host.pba.contains v then s.host.pba else s.host.pba ++ [v] } }
  else
    let s : State := { s with host := { s.host with pba := s.host.pba.filter (· != v) } }
    let s := s.setIntc { s.intc with quiet := (v, s.time.frc) :: s.intc.quiet.filter (fun x => x.1 != v) }
    s.send (.msix v ((s.msixWord v 1).toNat * 2 ^ 32 + (s.msixWord v 0).toNat) (s.msixWord v 2).toNat)

/-- R443: INTC_MSIX_MOD.TIME in cycles. -/
def msixTime (s : State) : Nat := s.field R.INTC_MSIX_MOD 15 0 * 1250

/-- R443: vector v has sent a message within the moderation time. -/
def isQuiet (s : State) (v : Nat) : Bool := match s.intc.quiet.lookup v with
  | some t => decide (s.time.frc < t + s.msixTime)
  | none => false

/-- R414: messages can be sent: the link is up, and MSI-X enabled. -/
def msixOn (s : State) : Bool := s.host.up && s.host.msixEn

/-- R443: the condition of vector v has risen: one message; or one held in the PBA has been unmasked, which answers a
rise of now as well. While the link is down or
MSI-X is disabled the rise waits (log entry 15). -/
def msix (s : State) (v : Nat) : State :=
  if 256 ≤ v ∨ s.msixOn = false then s
  else
    let rise := s.vecCond v && !s.intc.risen.contains v
    let s := if rise then s.setIntc { s.intc with risen := s.intc.risen ++ [v] } else s
    if s.host.pba.contains v then (if s.isQuiet v then s else s.msixSend v)
    else if !rise then s
    else if s.isQuiet v then s.setIntc { s.intc with held := s.intc.held.filter (· != v) ++ [v] } else s.msixSend v

/-- R443: the moderation time of vector v ends. What cannot be sent then waits (log entry 15). -/
def msixExpiry (s : State) (v : Nat) : State :=
  match s.intc.quiet.lookup v with
  | none => s
  | some t =>
    let s : State := { s with time := { s.time with frc := max s.time.frc (t + s.msixTime) } }
    let held := s.intc.held.contains v
    let s := s.setIntc { s.intc with quiet := s.intc.quiet.filter (fun x => x.1 != v), held := s.intc.held.filter (· != v) }
    if !s.msixOn then (if held then s.setIntc { s.intc with risen := s.intc.risen.filter (· != v) } else s)
    else if (held && s.vecCond v) || s.host.pba.contains v then s.msixSend v
    else s

end State

/-! ## Meanings -/

def execIntcOffer (ie asleep : BitVec 4) (s : State) : Host.Outcome State Fault Refusal :=
  onMain s (fun s => (s.coreFlags ie.toNat asleep.toNat).offer)

def execIntcEntry (core : Nat) (s : State) : Host.Outcome State Fault Refusal := onMain s (·.enter core)

def execIntcEoi (core : Nat) (source : Word) (s : State) : Host.Outcome State Fault Refusal := onMain s (·.eoi core source)

def execIntcSrcWrite (source : Nat) (value : Word) (s : State) : Host.Outcome State Fault Refusal := onMain s (·.srcWrite source value)

def execIntcPendWrite (index : Nat) (value : Word) (s : State) : Host.Outcome State Fault Refusal := onMain s (·.pendWrite index value)

def execIntcModRelease (core : Nat) (s : State) : Host.Outcome State Fault Refusal := onMain s (·.modRelease core)

def execIntcCoreIdle (core : Nat) (s : State) : Host.Outcome State Fault Refusal := onMain s (·.coreIdles core)

def execMsixMessage (vector : Nat) (s : State) : Host.Outcome State Fault Refusal := onMain s (·.msix vector)

def execMsixModExpiry (vector : Nat) (s : State) : Host.Outcome State Fault Refusal := onMain s (·.msixExpiry vector)

end Sys2Proof.Machine
end

