-- ==== Sys2Proof/Machine/Pins.lean ====
section
/-! DEFINITION. GPIO balls, what drives them, and the pin interrupt sources (R432–R434, R564, R565). -/

namespace Sys2Proof.Machine

namespace State

/-- R97: the level that the generator of HEEL_OUT n drives. -/
def heelOutLevel (s : State) (n : Nat) : Bool := (s.hoOf n).away != s.flag (R.TIME_HOn_CTRL n) 5

/-- R564, R565: what the device drives ball GPIOi with; none for an input. -/
def pinDrive (s : State) (i : Nat) : Option Bool :=
  let b := i % 32
  if i < 8 ∧ s.flag R.PINS_MUX i = true then some (s.heelOutLevel i)
  else if i < 32 then (if s.flag R.GPIO_DIR_LO b then some (s.flag R.GPIO_OUT_LO b) else none)
  else if s.flag R.GPIO_DIR_HI b then some (s.flag R.GPIO_OUT_HI b) else none

/-- R565: the level of ball GPIOi. -/
def ballLevel (s : State) (i : Nat) : Bool := (s.pinDrive i).getD (s.pins.ball.contains i)

/-- A number put into a list of numbers, or taken out. -/
def member (l : List Nat) (i : Nat) (v : Bool) : List Nat := let l := l.filter (· != i); if v then i :: l else l

/-- R433: the cycles for which filter i wants a level held. -/
def filtCycles (s : State) (i : Nat) : Nat := s.field (R.INTC_FILTi i) 7 0

/-- R565: the ball's level, at once, whatever its filter says. -/
def ballTakes (s : State) (i : Nat) (level : Bool) : State :=
  if (s.pinDrive i).isNone then { s with pins := { s.pins with ball := member s.pins.ball i level } } else s

/-- R433, R434: ball i has taken a level and held it; the change passes the glitch filter once it has been held for long enough. A ball that the device drives has the driven level; another has the
level that stands at it. A rise of the filtered level of an enabled edge source sets its PEND. -/
def pinEdge (s : State) (i : Nat) (level : Bool) (held : Nat) : State :=
  if 64 ≤ i then s
  else
    let s := s.ballTakes i level
    if held < s.filtCycles i then s
    else
    let now := (s.pinDrive i).getD level
    let rose := now && !s.pins.filt.contains i
    let s : State := { s with pins := { s.pins with filt := member s.pins.filt i now } }
    let k := 1664 + i
    if rose && s.srcEdge k && s.srcEn k && !s.isPend k then s.setIntc { s.intc with pend := s.intc.pend ++ [k] } else s

/-- R565: GPIO_SET and GPIO_CLR. -/
def gpioSet (s : State) (high : Bool) (v : Word) : State :=
  let a := if high then R.GPIO_OUT_HI else R.GPIO_OUT_LO
  s.setReg a (s.reg a ||| v)

def gpioClr (s : State) (high : Bool) (v : Word) : State :=
  let a := if high then R.GPIO_OUT_HI else R.GPIO_OUT_LO
  s.setReg a (s.reg a &&& ~~~ v)

end State

/-! ## Meanings -/

def execGpioSet (high : Bool) (value : Word) (s : State) : Host.Outcome State Fault Refusal := onMain s (·.gpioSet high value)

def execGpioClr (high : Bool) (value : Word) (s : State) : Host.Outcome State Fault Refusal := onMain s (·.gpioClr high value)
end Sys2Proof.Machine
end

