-- ==== Sys2Proof/Machine/SheafClass.lean ====
section
/-! DEFINITION. The five configuration classes, their serialisation, and the computation and publication of their digests
(R470–R473, R482). SHA-256 is `Config.sha256`. A class is hashed as it stands when its computation starts. -/

namespace Sys2Proof.Machine

/-- R471: the words that no class covers. -/
def unitLocal (a : Nat) : Bool :=
  [R.VCN_DEV_ID, R.VCN_SRC_IP, R.FIX_SRC_IP, R.HUB_450_SRC_IP, R.BRACE_CTRL, R.BRACE_SB_DLY, R.TIME_PTP_CTRL,
    R.TIME_PTP_MASTER_LO, R.TIME_PTP_MASTER_HI, R.SHEAF_EXPTAB_LO, R.SHEAF_EXPTAB_HI].contains a
  || (match resolve a with
    | .at .time _ l => (decide (0x200 ≤ l) && decide (l < 0x200 + 8 * 37)) || (List.range 8).any (fun n => a == R.TIME_HOn_DLY n)
    | .at .hub _ _ => (List.range 16).any (fun g => a == R.HUB_GRPg_SFI_HI g || a == R.HUB_GRPg_SFI_LO g)
    | .at .mac _ l => l == 0x00C || l == 0x010 || l == 0x808 || l == 0x80C || l == 0x100
    | _ => false)

/-- R470: the words of class 0, in ascending BAR0 offset, aliases excluded. -/
def classWords : List Nat :=
  ((List.range (0x250000 / 4)).map (4 * ·)).filter (fun a => canonOf a == a && isCfg a && !unitLocal a)

namespace State

/-- The live value of a configuration word; the interrupt controller keeps its own. -/
def cfgLive (s : State) (a : Nat) : Word := if 0x10000 ≤ a ∧ a < 0x12000 then s.srcCfg ((a - 0x10000) / 4) else s.reg a

/-- R470, class 0. -/
def classRegs (s : State) : Bytes := classWords.flatMap (fun a => leBytes 4 a ++ leBytes 4 (s.cfgLive a).toNat)

/-- R470, class 2. -/
def classBank (s : State) : Bytes := match s.liveBank with
  | none => List.replicate 32 0
  | some b => s.rdBytes b (0x410000 + s.rdLE (b + 16) 8)

/-- R470, class 3. -/
def classEndpoints (s : State) : Bytes := (List.range 262144).flatMap (fun i => s.rdBytes (s.eptBase + 32 * i) 16)

/-- R470, class 4: the tables, numbered from 1 in their order (DEDUCED: the manual gives the order, not the first number). -/
def classTables (s : State) : Bytes :=
  let b := s.hub.live
  let win := s.rdBytes (s.field R.VER_WIN_HI 1 0 * 2 ^ 32 + (s.reg R.VER_WIN_LO).toNat) (16 * s.winCount)
  let out := s.rdBytes (s.fixBase R.FIX_OUT_LO R.FIX_OUT_HI) (32 * s.outCount)
  let inp := s.rdBytes (s.fixBase R.FIX_IN_LO R.FIX_IN_HI) (16 * s.inCount)
  ((List.range 6).zip [win, b.ruleBytes, b.compBytes, b.mapBytes, out, inp]).flatMap
    (fun t => leBytes 4 (t.1 + 1) ++ leBytes 4 t.2.length ++ t.2)

/-- R470: the byte string of a class. -/
def classBytes (s : State) (c : Nat) : Bytes := match c with
  | 0 => s.classRegs
  | 1 => (s.kennel.graph.map Graph.image).getD []
  | 2 => s.classBank
  | 3 => s.classEndpoints
  | _ => s.classTables

/-- R470: the computation of a class starts, anew where it runs; none while SHEAF_CTRL.EN = 0 (DEDUCED). -/
def classStart (s : State) (c : Nat) : State :=
  if s.sheafEn then s.setSheaf { s.sheaf with busy := (c, Config.sha256 (s.classBytes c)) :: s.sheaf.busy.filter (fun x => x.1 != c) }
  else s

/-- R472: the computation of class c finishes. -/
def classDone (s : State) (c : Nat) : State :=
  match s.sheaf.busy.lookup c with
  | none => s
  | some d => s.setSheaf { s.sheaf with busy := s.sheaf.busy.filter (fun x => x.1 != c), cls := Sparse.put 0 s.sheaf.cls c d }

/-- R483: SHEAF_CSEL; 5 to 7 act as 0. -/
def classSel (s : State) : Nat := let c := s.field R.SHEAF_CSEL 2 0; if 4 < c then 0 else c

/-- R472: the digest over the class digests. -/
def sheafDigest (s : State) : Nat :=
  Config.sha256 ([0x53, 0x48, 0x46, 0x01] ++ (List.range 5).flatMap (fun c => beBytes 32 (Sparse.get 0 s.sheaf.cls c)))

/-- R470, R472: step 1 of the boundary that starts epoch e: the digest is published when no class computation runs, and class 0
is computed anew. Opcode 0x32 completes at the publication (R482). -/
def sheafPublish (s : State) (e : Epoch) : State :=
  if !s.sheafEn then s
  else
    let s := if s.sheaf.busy.isEmpty then
        let w := s.sheaf.waiters
        let s := s.setSheaf { s.sheaf with published := s.sheafDigest, waiters := [] }
        let s := (s.setReg R.SHEAF_DIG_EPOCH e).raise R.SHEAF_STATUS 8
        w.foldl (fun s x => s.complete x.1 x.2 stOk) s
      else s
    s.classStart 0

/-- R470: SHEAF_SWEEP seconds have passed since the sweep before. -/
def sheafSweep (s : State) : State :=
  if !s.sheafEn then s
  else
    let s := s.waitFrc (s.sheaf.sweepAt + atLeast1 (s.field R.SHEAF_SWEEP 15 0) * 1250000000)
    [2, 3, 4].foldl classStart (s.setSheaf { s.sheaf with sweepAt := s.time.frc })

/-- R483: SHEAF_CTRL.EN rises: every class is computed, and the time of the next sweep counts from here. -/
def sheafStart (s : State) : State := (List.range 5).foldl classStart (s.setSheaf { s.sheaf with sweepAt := s.time.frc })

/-- R482: every class is computed anew. -/
def sheafAll (s : State) : State := (List.range 5).foldl classStart s

/-- R473: a STATE of the partner carries a Sheaf digest. -/
def sheafPartner (s : State) (digest : Nat) : State :=
  if !s.sheafEn then s
  else if digest = s.sheaf.published then s.setSheaf { s.sheaf with differ := 0 }
  else
    let n := s.sheaf.differ + 1
    let s := s.setSheaf { s.sheaf with differ := n }
    if n = atLeast1 (s.field R.SHEAF_PARTNER_HOLD 15 0) then (s.bump R.SHEAF_PARTNER_DIFF_CNT).raise R.SHEAF_STATUS 6 else s

end State

/-! ## Meanings -/

def execClassDigestDone (cls : Nat) (s : State) : Host.Outcome State Fault Refusal := onMain s (·.classDone cls)

def execSheafSweep (s : State) : Host.Outcome State Fault Refusal := onMain s (·.sheafSweep)

end Sys2Proof.Machine
end

