-- ==== Sys2Proof/Machine/Brace.lean ====
section
/-! DEFINITION. Brace redundancy (R447–R468): the partner's frames, the comparison of the two renders, the self-test, the states
and the way control passes from one device to the other. -/

namespace Sys2Proof.Machine

namespace State

def setBrace (s : State) (b : BraceSt) : State := { s with brace := b }

/-! ## Settings and health (R455, R467) -/

def braceMiss (s : State) : Nat := atLeast1 (s.field R.BRACE_MISS 7 0)

/-- R455: the bits of HEALTH. -/
def healthBits (s : State) : List Bool :=
  [s.brace.dramUe, s.brace.parity,
   (List.range 16).any (fun e => s.flag (R.REn_STATUS e) 0 || s.flag (R.REn_STATUS e) 2),
   !s.brace.katFail.isEmpty,
   (match s.brace.katCycle with
    | some e => decide (max 16 (s.field R.BRACE_ST_MAXAGE 15 0) < (s.time.epoch - e).toNat)
    | none => true),
   s.time.servo != .locked, (s.macOf 30).up, (s.macOf 31).up]

/-- R455: the HEALTH word. -/
def healthWord (s : State) : Nat := ((indexed s.healthBits).map (fun b => b2n b.2 * 2 ^ b.1)).sum

/-- R455: a HEALTH word of a healthy device. -/
def healthyWord (h : Nat) : Bool := h % 32 == 0

/-- R460, R463: the partner is STANDBY and healthy, in a STATE accepted within the last BRACE_MISS epochs. -/
def partnerReady (s : State) : Bool := match s.brace.theirs, s.brace.stateAt with
  | m :: _, some e => m.bstate == 3 && healthyWord m.health && decide ((s.time.epoch - e).toNat ≤ s.braceMiss)
  | _, _ => false

/-! ## States (R459) -/

/-- The state changes: ROLE_CHANGE, and BRACE_SB0 follows ACTIVE (R449). -/
def braceGo (s : State) (x : BraceState) : State :=
  let old := s.brace.state
  if old = x then s
  else
    let s := (s.setBrace { s.brace with state := x, quiet := if x = .seek then 0 else s.brace.quiet, seekHeard := 0, seekFrom := none, matched := 0, takeover := none
                                        outFrom := none, outUntil := none }).raise R.BRACE_STATUS 0
    if x = .active then (s.setReg R.BRACE_ACTIVE_EPOCHS 0).send (.sideband true 0)
    else if old = .active then (s.setBrace { s.brace with faults := [] }).send (.sideband false 0)
    else s

/-- R467: BRACE_CMD_STAT. -/
def braceStat (s : State) (running : Bool) (status : Nat) : State := s.setReg R.BRACE_CMD_STAT (w32 (256 * b2n running + status))

/-- R463: the HANDOVER of this device ends with a status. -/
def handoverEnd (s : State) (status : Nat) : State :=
  if s.flag R.BRACE_CMD_STAT 8 then
    let o := s.brace.owner
    let s := (s.setBrace { s.brace with handover := none, owner := none }).braceStat false status
    match o with
    | some (r, i) => s.complete r i status
    | none => s
  else s.setBrace { s.brace with handover := none }

/-- R454: the INPUT_CRC of the parameters and gains that are live. -/
def braceInput (s : State) : State :=
  let l := (List.range 4096).flatMap (fun i => leBytes 4 (s.param i).toNat) ++ (List.range 256).flatMap (fun z => leBytes 4 (s.zoneGain z))
  s.setBrace { s.brace with inputCrc := crc32c l }

/-- R454: step 7 of the boundary. While EN = 0 nothing asks for the INPUT_CRC; where EN rises it is taken of the same values. -/
def braceInputStep (s : State) : State := if s.braceOn then s.braceInput else s

/-- R448, R459: the application of group 12 has changed EN; wasOn: EN before. An EN that the boot's configuration restores finds a
device that is not ready yet: it seeks, whatever else is enabled (R459's row for a reset of MAIN). -/
def braceApply (s : State) (wasOn : Bool) : State :=
  if wasOn = s.braceOn then s
  else if s.braceOn then
    let s := s.braceInput.braceGo (if s.power.ready && (s.vcnEn || s.flag R.FIX_CTRL 1) then .active else .seek)
    s.raiseIf (!(s.macOf 30).up || !(s.macOf 31).up) R.BRACE_STATUS 11
  else (s.handoverEnd stAborted).braceGo .off

/-! ## Giving up control (R460) -/

/-- Whether a queued frame is a far-bridge frame to a tile, or another Vocon frame to one that is no fragment and no HEEL copy. -/
def isCfgFrame (f : TxFrame) : Bool := match f.use with
  | .cfg _ _ => true
  | .far _ _ _ _ _ => true
  | _ => false

/-- R460: the posted tile write that waits for frame f, among the Vocon frames l that are queued, ends with ABORTED: the bytes of its
frames that have left are its RESULT0 (R418). -/
def abortPosted (l : List TxFrame) (s : State) (f : TxFrame) : State := match f.use with
  | .far r i n off last =>
    let left := (l.map (fun g => match g.use with
      | .cfg o b => if o = some (r, i) then b else 0
      | _ => 0)).sum
    s.complete r i stAborted (n - last - left) 0 (off + (n - last - left))
  | _ => s

/-- R460: outstanding far-bridge operations to tiles end with ABORTED; the frames to tiles that have not left are discarded. -/
def abortTileOps (s : State) : State :=
  let gone := s.far.ops.filter (fun o => o.target != 0x8000)
  let s := s.setFar { s.far with ops := s.far.ops.filter (fun o => o.target == 0x8000) }
  let s := gone.foldl abortOp s
  let mine (p : Nat) (f : TxFrame) : Bool := !s.bracePort p && isCfgFrame f
  let l := s.mac.port.flatMap (fun m => m.2.txq.filter (mine m.1))
  let s : State := { s with mac := { s.mac with port := s.mac.port.map (fun m => (m.1, { m.2 with txq := m.2.txq.filter (fun f => !mine m.1 f) })) } }
  (l.foldl (abortPosted l) s).farSettle

/-- Whether a queued frame is a HEEL copy. -/
def isHeelFrame (f : TxFrame) : Bool := match f.use with
  | .heel _ _ => true
  | _ => false

/-- R460: a release for cause c. -/
def release (s : State) (c : Nat) : State :=
  let s := s.setBrace { s.brace with cause := c }
  let s := (s.braceSend 2 (beBytes 1 c ++ [0, 0, 0])).handoverEnd stAborted
  let s := (s.braceGo .released).discardFrags (fun _ _ => true)
  let s : State := { s with mac := { s.mac with port := s.mac.port.map (fun m => (m.1, { m.2 with txq := m.2.txq.filter (fun f => !isHeelFrame f) })) } }
  ((s.abortTileOps).bump R.BRACE_RELEASE_CNT).raise R.BRACE_STATUS 1

/-- R460: a cause has arisen in an ACTIVE device: it releases, or stays ACTIVE without a partner to take over. Cause 7, whose
partner is ACTIVE, needs none (R464, DEDUCED). Answers whether it released. -/
def tryRelease (s : State) (c : Nat) : Bool × State :=
  if s.brace.state ≠ .active then (false, s)
  else if s.partnerReady || c == 7 then (true, s.release c)
  else (false, s.raise R.BRACE_STATUS 8)

/-- R460: the oldest cause that waits is acted on. -/
def braceFault (s : State) : State :=
  match s.brace.faults with
  | [] => s
  | c :: t => ((s.setBrace { s.brace with faults := t }).tryRelease c).2

/-! ## Commands (R459, R460, R463, R468) -/

/-- BRACE_CMD RELEASE: the status it ends with. A refusal is CONFLICT (DESIGN CHOICE: the manual names no code). -/
def cmdRelease (s : State) : Nat × State :=
  let (ok, s) := s.tryRelease 5
  (if ok then stOk else stConflict, s)

/-- BRACE_CMD HANDOVER to epoch e for descriptor o: the status it ends with, or none while it runs. -/
def cmdHandover (s : State) (e : Epoch) (o : Option (Nat × Nat)) : Option Nat × State :=
  let d := (e - s.time.epoch).toNat
  if ¬ (2 ≤ d ∧ d < 2 ^ 31) then (some stStaleEpoch, s)
  else if s.brace.state ≠ .active ∨ s.partnerReady = false ∨ s.brace.handover.isSome = true then (some stConflict, s)
  else
    let s := (s.setBrace { s.brace with handover := some e, owner := o }).braceStat true stOk
    (none, s.braceSend 3 (beBytes 4 e.toNat))

/-- BRACE_CMD REJOIN. -/
def cmdRejoin (s : State) : Nat × State := if s.brace.state = .released then (stOk, s.braceGo .seek) else (stConflict, s)

/-- A command of number c, on behalf of descriptor o; while a HANDOVER runs, BRACE_CMD_STAT goes on showing it. -/
def braceCmd (s : State) (c : Nat) (e : Epoch) (o : Option (Nat × Nat)) : State :=
  let r : Option Nat × State := match c with
    | 1 => let (st, s) := s.cmdRelease; (some st, s)
    | 2 => s.cmdHandover e o
    | 3 => let (st, s) := s.cmdRejoin; (some st, s)
    | _ => (some stBadOpcode, s)
  match r with
  | (none, s) => (match o with
    | some (ring, i) => s.startCmd ring i .brace
    | none => s)
  | (some st, s) =>
    let s := if s.brace.handover.isSome then s else s.braceStat false st
    match o with
    | some (ring, i) => s.complete ring i st
    | none => s

/-! ## Brace frames (R450, R451) -/

/-- The payload length that a TYPE asks for. -/
def braceLenOk (type : Nat) (p : Bytes) : Bool :=
  match type with
  | 1 => p.length == 128
  | 2 => p.length == 4
  | 3 => p.length == 4
  | 4 => !p.isEmpty && decide (p.length ≤ 9040)
  | _ => decide (12 ≤ p.length) && decide (p.length ≤ 9040)

/-- R451: a brace frame arrives, MAGIC first. Padding of a short Ethernet frame may follow its CRC. f is given the header EPOCH, SRC_ID,
BSTATE and the payload of a frame of the type that is accepted; STATE's row also takes the frames of no TYPE. -/
def braceRx (s : State) (type : Nat) (l : Bytes) (f : State → Epoch → Nat → Nat → Bytes → State) : State :=
  if !(s.braceOn && (s.rxReady 30 || s.rxReady 31)) then s
  else
    let bad (s : State) : State := s.bump R.BRACE_RX_BAD_CNT
    let t := beAt l 3 1
    let n := beAt l 6 2
    let body := l.take (16 + n)
    let fits := l.length == 20 + n || (decide (20 + n ≤ l.length) && decide (l.length ≤ 46))
    if l.length < 20 ∨ ¬ fits ∨ beAt l 0 2 ≠ 0x4252 ∨ beAt l 2 1 ≠ 1 ∨ t = 0 ∨ 6 < t ∨ crc32c body ≠ beAt l (16 + n) 4
      ∨ !braceLenOk t (slice l 16 n) then (if type = 1 ∨ t = type then bad s else s)
    else if t ≠ type then s
    else
      let src := beAt l 14 2
      if src = s.devId then bad (s.raiseIf (s.brace.state == .sync) R.BRACE_STATUS 13)
      else
        let q := beAt l 12 2
        let s := s.setBrace { s.brace with framed := true, heard := some s.time.epoch }
        let fresh := match s.brace.rxSeq with
          | some k => let d := (q + 65536 - k) % 65536; decide (1 ≤ d) && decide (d ≤ 32767)
          | none => true
        if !fresh then s.bump R.BRACE_DUP_CNT
        else f (s.setBrace { s.brace with rxSeq := some q }) (w32 (beAt l 8 4)) src (beAt l 4 1) (slice l 16 n)

/-! ## STATE (R452–R457, R461, R464) -/

/-- R452: the payload of a STATE. -/
def StateMsg.bytes (m : StateMsg) : Bytes :=
  beBytes 4 m.r.toNat ++ beBytes 1 (2 * b2n m.void + b2n m.dropped) ++ [0, 0, 0] ++ beBytes 8 m.dsum ++ beBytes 4 m.dxor
    ++ beBytes 4 m.dcount ++ beBytes 4 m.inputCrc ++ beBytes 4 m.ingestSrc ++ beBytes 4 m.health ++ beBytes 4 m.graphGen.toNat
    ++ beBytes 4 m.calibGen.toNat ++ beBytes 4 m.epochAdj.toNat ++ beBytes 4 m.compat ++ beBytes 4 m.activeEpochs.toNat
    ++ beBytes 1 m.cause ++ List.replicate 7 0 ++ beBytes 32 m.sheaf ++ List.replicate 32 0

/-- The STATE that a payload holds. -/
def StateMsg.read (src bstate : Nat) (p : Bytes) : StateMsg :=
  { bstate := bstate, r := w32 (beAt p 0 4), dropped := beAt p 4 1 % 2 == 1, void := beAt p 4 1 / 2 % 2 == 1, dsum := beAt p 8 8
    dxor := beAt p 0x10 4, dcount := beAt p 0x14 4, inputCrc := beAt p 0x18 4, ingestSrc := beAt p 0x1C 4, health := beAt p 0x20 4
    graphGen := w32 (beAt p 0x24 4), calibGen := w32 (beAt p 0x28 4), epochAdj := w32 (beAt p 0x2C 4), compat := beAt p 0x30 4
    activeEpochs := w32 (beAt p 0x34 4), cause := beAt p 0x38 1, sheaf := beAt p 0x40 32, srcId := src }

/-- R452: the STATE of render epoch r. -/
def stateOf (s : State) (r : Epoch) : StateMsg :=
  { bstate := s.braceCode, r := r, dropped := s.kennel.dropped && s.kennel.epoch == r, void := s.isVoid r, dsum := s.brace.dsum
    dxor := s.brace.dxor, dcount := s.brace.dcount, inputCrc := s.brace.inputCrc
    ingestSrc := (s.reg (R.CANVAS_SRCs (s.slotOf r))).toNat, health := s.healthWord
    graphGen := (s.kennel.graph.map Graph.gen).getD 0, calibGen := s.reg R.CALIB_LIVE_GEN, epochAdj := s.reg R.TIME_EPOCH_ADJ
    compat := (s.reg R.UPD_RUN_COMPAT).toNat, activeEpochs := s.reg R.BRACE_ACTIVE_EPOCHS, cause := s.brace.cause
    sheaf := s.sheaf.published, srcId := s.devId }

/-- R515: two COMPAT words lie within one level. -/
def compatNear (a b : Nat) : Bool :=
  [1, 256, 65536].all (fun k => let x := a / k % 256; let y := b / k % 256; decide (x ≤ y + 1) && decide (y ≤ x + 1))

/-- R457: the digests of two STATEs match. -/
def stateMatch (a b : StateMsg) : Bool := a.dsum == b.dsum && a.dxor == b.dxor && a.dcount == b.dcount && a.dropped == b.dropped

/-- R461: two STATEs agree in what a joining device compares besides the digest. -/
def joinMatch (a b : StateMsg) : Bool :=
  a.graphGen == b.graphGen && a.calibGen == b.calibGen && a.sheaf == b.sheaf && a.epochAdj == b.epochAdj && compatNear a.compat b.compat

/-- R457, R461: own and partner's STATE of one epoch are compared. -/
def compareStates (s : State) (own their : StateMsg) : State :=
  let same := stateMatch own their
  let s := if same then s.bump R.BRACE_MATCH_CNT
    else if own.inputCrc ≠ their.inputCrc ∨ own.ingestSrc ≠ their.ingestSrc ∨ own.graphGen ≠ their.graphGen
        ∨ own.calibGen ≠ their.calibGen then (s.bump R.BRACE_DIVERGE_CNT).raise R.BRACE_STATUS 4
    else (((s.bump R.BRACE_MISMATCH_CNT).setReg R.BRACE_LAST_MISMATCH own.r).raise R.BRACE_STATUS 3).setBrace
      { s.brace with confirm := true }
  if s.brace.state ≠ .sync then s
  else
    let n := if same && joinMatch own their then s.brace.matched + 1 else 0
    let s := s.setBrace { s.brace with matched := n }
    if atLeast1 (s.field R.BRACE_SYNC_N 7 0) ≤ n then s.braceGo .standby else s

/-- R464: a second ACTIVE device. -/
def dualActive (s : State) (m : StateMsg) : State :=
  if s.brace.state ≠ .active ∨ m.bstate ≠ 4 then s
  else
    let s := s.raise R.BRACE_STATUS 10
    let own := (s.reg R.BRACE_ACTIVE_EPOCHS).toNat
    if own < m.activeEpochs.toNat ∨ (own = m.activeEpochs.toNat ∧ m.srcId < s.devId) then s.unmaskable 7 else s

/-- R461: in SYNC: a difference that the device may not correct. -/
def joinFail (s : State) (m : StateMsg) : State :=
  s.raiseIf ((s.inShow && m.epochAdj != s.reg R.TIME_EPOCH_ADJ) || m.sheaf != s.sheaf.published
    || !compatNear m.compat (s.reg R.UPD_RUN_COMPAT).toNat) R.BRACE_STATUS 13

/-- R459, R461: what a STATE does to a device that seeks or joins. -/
def joinStep (s : State) (m : StateMsg) : State :=
  match s.brace.state with
  | .seek =>
    if m.bstate = 4 then
      let s := s.braceGo .sync
      (if s.inShow then s else (s.setReg R.TIME_EPOCH_ADJ m.epochAdj).fixLive R.TIME_EPOCH_ADJ).joinFail m
    else if m.bstate = 1 then s.setBrace { s.brace with seekFrom := some m.srcId }
    else s
  | .sync => s.joinFail m
  | _ => s

/-- R452–R464: an accepted STATE of the partner. -/
def stateRx (s : State) (m : StateMsg) : State :=
  let s := s.setBrace { s.brace with theirs := (m :: s.brace.theirs).take 4, stateAt := some s.time.epoch }
  let s := (s.setReg R.BRACE_PHEALTH (w32 m.health)).setReg R.BRACE_PEPOCH m.r
  let s := s.raiseIf (!healthyWord m.health) R.BRACE_STATUS 7
  let s := (s.sheafPartner m.sheaf).dualActive m
  let s := if s.brace.confirmed then
      let clear := m.health / 8 % 2 = 0
      let s := s.setBrace { s.brace with confirmed := false }
      if clear then (s.bump R.BRACE_UNRESOLVED_CNT).raise R.BRACE_STATUS 5 else s
    else s
  let s := s.joinStep m
  match s.brace.own.find? (fun o => o.r == m.r) with
  | some o => s.compareStates o m
  | none => s

/-- R452: the STATE that waits leaves. -/
def stateSend (s : State) : State :=
  match s.brace.toSend with
  | none => s
  | some m => (s.setBrace { s.brace with toSend := none }).braceSend 1 (StateMsg.bytes m)

/-! ## Takeover (R462, R463) -/

/-- R462: a STANDBY device schedules a takeover. -/
def takeoverDue (s : State) : State :=
  if s.brace.state = .standby ∧ s.brace.takeover.isNone then s.setBrace { s.brace with takeover := some s.time.frc } else s

/-- R462: BRACE_SB2 falls. -/
def sb2Fall (s : State) : State :=
  let s := s.setBrace { s.brace with sb2 := false }
  if s.braceOn && (s.brace.toggled || decide (s.brace.still < s.braceMiss)) then s.takeoverDue else s

/-- R467: the level that BRACE_SB2 has taken. -/
def sb2Level (s : State) (level : Bool) : State :=
  if level then s.setBrace { s.brace with sb2 := true } else if s.brace.sb2 then s.sb2Fall else s

/-- R462: silence for BRACE_MISS boundaries. -/
def partnerLost (s : State) : State :=
  if s.brace.state ≠ .standby ∨ s.brace.quiet < s.braceMiss ∨ s.brace.toggled ∨ s.brace.framed then s
  else
    let s := s.raise R.BRACE_STATUS 6
    if !healthyWord s.healthWord && !s.flag R.BRACE_CTRL 1 then s.raise R.BRACE_STATUS 9 else s.takeoverDue

/-- R459: a seeking device has heard nothing for BRACE_SEEK_TMO epochs. -/
def seekTimeout (s : State) : State :=
  if s.brace.state = .seek ∧ atLeast1 (s.field R.BRACE_SEEK_TMO 15 0) ≤ s.brace.quiet ∧ !s.brace.toggled ∧ !s.brace.framed
  then s.braceGo .active else s

/-- R449: an edge of BRACE_SB3 and the skew, against the nearer of the two instants around it. -/
def sb3Edge (s : State) : State :=
  let s := s.setBrace { s.brace with sb3 := !s.brace.sb3, toggled := true, still := 0 }
  let a := -(-s.time.mark.1 / s.time.mark.2)
  let b := s.nextInstant
  let near := if s.lt - a ≤ b - s.lt then a else b
  let skew := (s.lt - near) / uNs - (s.reg R.BRACE_SB_DLY).toInt
  (s.setReg R.BRACE_SKEW (i32 skew)).raiseIf (decide (s.field R.BRACE_SKEW_MAX 15 0 < skew.natAbs)) R.BRACE_STATUS 12

/-! ## The self-test (R456, R457) -/

/-- R456: engine e fails its known-answer test: an engine fault (R162). -/
def katFailed (s : State) (e : Nat) : State :=
  let s := (s.setBrace { s.brace with katFail := e :: s.brace.katFail.filter (· != e) }).abandonGrain e
  let s := s.setEngine e { s.engineOf e with held := true }
  ((s.raise (R.REn_STATUS e) 0).raise R.KNL_STATUS 6).unmaskable 3

/-- R456: the known-answer test of the next engine: once in an epoch, when its frame is complete or dropped. -/
def katRun (s : State) (passed : Bool) : State :=
  if !s.braceOn || !s.flag R.WIN_CTRL 0 || s.frameRuns || s.brace.katRan then s
  else
    let e := s.brace.katNext
    let b : BraceSt := { s.brace with katNext := (e + 1) % 16, katRan := true }
    if passed then
      let n := b.katPassed + 1
      let b : BraceSt := { b with katFail := b.katFail.filter (· != e) }
      let s : State := { s with winnow := { s.winnow with kat := s.winnow.kat.map (·.filter (· != e)) } }
      s.setBrace (if n = 16 then { b with katPassed := 0, katCycle := some s.time.epoch } else { b with katPassed := n })
    else
      (s.setBrace { b with katPassed := 0 }).katFailed e

/-- R457: the confirmation test, which runs once the frame has ended, is over; `failed` lists the engines that failed it. -/
def confirmDone (s : State) (failed : List Nat) : State :=
  if !s.brace.confirm || s.frameRuns then s
  else
    let l := failed.filter (fun e => decide (e < 16))
    let s := s.setBrace { s.brace with confirm := false, confirmed := l.isEmpty, katFail := l }
    if l.isEmpty then s else s.unmaskable 4

/-! ## The boundary (R22) -/

/-- R458: step 1 of the boundary that starts epoch e: the deliveries that are due. -/
def braceDeliver (s : State) (e : Epoch) : State :=
  let due := s.brace.deferred.filter (fun d => reached d.due e)
  let s := s.setBrace { s.brace with deferred := s.brace.deferred.filter (fun d => !reached d.due e) }
  due.foldl (fun s d => s.repDeliver d.tile d.epoch d.payload) s

/-- R459: two seeking devices that have heard each other: which of them becomes ACTIVE. The partner's PRIMARY is not carried by any
frame: a free value. -/
def seekWins (s : State) (partner : Nat) : Bool × State :=
  let own := s.flag R.BRACE_CTRL 2
  let (v, s) := s.fresh
  let theirs := v % 2 == 1
  (if own = theirs then decide (s.devId < partner) else own, s)

/-- Step 5 of the boundary that starts epoch e: sidebands, silence, and role changes (R449, R459, R462, R463). BRACE_SB1 shows a device
that is alive, with brace enabled or not. -/
def braceRoles (s : State) (e : Epoch) : State :=
  if !s.braceOn then (s.setBrace { s.brace with sb1 := !s.brace.sb1, toggled := false, framed := false }).send (.sideband (!s.brace.sb1) 1)
  else
    let b := s.brace
    let s := s.setBrace { b with sb1 := !b.sb1, quiet := if b.toggled || b.framed then 0 else b.quiet + 1
                                 still := if b.toggled then 0 else b.still + 1, toggled := false, framed := false
                                 seekHeard := if b.seekFrom.isSome then b.seekHeard + 1 else 0, seekFrom := none }
    let s := s.send (.sideband s.brace.sb1 1)
    let s := s.bumpIf (b.state == .active) R.BRACE_ACTIVE_EPOCHS
    let named := match s.brace.handover with
      | some h => reached h e
      | none => false
    match s.brace.state with
    | .seek =>
      (match b.seekFrom with
       | some p =>
         if s.braceMiss ≤ s.brace.seekHeard then
           let (win, s) := s.seekWins p
           if win then s.braceGo .active else s
         else s
       | none => s)
    | .active =>
      if named then
        let s := (s.setBrace { s.brace with cause := 6 }).braceGo .standby
        (s.setBrace { s.brace with outUntil := some e }).handoverEnd stOk
      else s
    | .standby =>
      let due := match s.brace.takeover with
        | some t => decide (t + 25000 ≤ s.time.frc)
        | none => false
      if named || due then
        let s := (s.braceGo .active).handoverEnd stOk
        let s := s.setBrace { s.brace with outFrom := some e }
        if named then s
        else
          let s : State := { s with uart := { s.uart with waiting := List.range 64 } }
          (s.bump R.BRACE_TAKEOVER_CNT).raise R.BRACE_STATUS 2
      else s
    | _ => s

/-- Step 6 of the boundary at which epoch r ends and e starts: the digest of r is closed, its STATE stands ready, and each STATE of the
partner that this boundary makes late is counted (R453, R457). -/
def braceClose (s : State) (r e : Epoch) : State :=
  let s := if !s.braceOn then s
    else
      let m := s.stateOf r
      let missed := (m :: s.brace.own).filter (fun o => reached (o.r + 2) e && !reached (o.r + 2) r && !s.brace.theirs.any (fun t => t.r == o.r))
      let s := s.count R.BRACE_STATE_MISS_CNT missed.length
      let s := s.setBrace { s.brace with own := (m :: s.brace.own).take 4, toSend := some m }
      match s.brace.theirs.find? (fun t => t.r == r) with
      | some t => s.compareStates m t
      | none => s
  s.setBrace { s.brace with dsum := 0, dxor := 0, dcount := 0, katRan := false }

end State

/-! ## Meanings -/

def execBraceStateSend (s : State) : Host.Outcome State Fault Refusal := onMain s (·.stateSend)

def execBraceStateRx (frame : Bytes) (s : State) : Host.Outcome State Fault Refusal :=
  onMain s (·.braceRx 1 frame (fun s _ src bstate p => s.stateRx (State.StateMsg.read src bstate p)))

def execBraceReleaseRx (frame : Bytes) (s : State) : Host.Outcome State Fault Refusal :=
  onMain s (·.braceRx 2 frame (fun s _ _ _ _ => s.takeoverDue))

def execBraceHandoverRx (frame : Bytes) (s : State) : Host.Outcome State Fault Refusal :=
  onMain s (·.braceRx 3 frame (fun s _ _ _ p =>
    if s.brace.state = .standby then s.setBrace { s.brace with handover := some (w32 (beNat p)) } else s))

def execBraceSb3Edge (s : State) : Host.Outcome State Fault Refusal := onMain s (·.sb3Edge)

/-- Besides the balls GPIO0 to 63, R467's inputs BRACE_SB2 (66) and BRACE_SB3 (67), whose level counts at once (log entry 38). -/
def execPinInterruptEdge (pin : Nat) (edge : BallEdge) (s : State) : Host.Outcome State Fault Refusal :=
  onMain s (fun s => match pin with
    | 66 => s.sb2Level edge.level
    | 67 => if edge.level = s.brace.sb3 then s else s.sb3Edge
    | _ => s.pinEdge pin edge.level edge.held)

def execBraceSb2Fall (s : State) : Host.Outcome State Fault Refusal := onMain s (·.sb2Fall)

def execPartnerLost (s : State) : Host.Outcome State Fault Refusal := onMain s (·.partnerLost)

def execSeekTimeout (s : State) : Host.Outcome State Fault Refusal := onMain s (·.seekTimeout)

def execBraceRelease (s : State) : Host.Outcome State Fault Refusal := onMain s (·.braceFault)

def execBraceCmdRelease (s : State) : Host.Outcome State Fault Refusal := onMain s (·.braceCmd 1 0 none)

def execBraceCmdHandover (s : State) : Host.Outcome State Fault Refusal :=
  onMain s (fun s => s.braceCmd 2 (s.reg R.BRACE_CMD_EPOCH) none)

def execBraceCmdRejoin (s : State) : Host.Outcome State Fault Refusal := onMain s (·.braceCmd 3 0 none)

def execBraceOp (ring : Nat) (s : State) : Host.Outcome State Fault Refusal :=
  onMain s (·.runDesc ring 0x3C (fun s c => s.braceCmd (fld (c.desc.args.getD 0 0) 3 0) c.desc.epoch (some (ring, c.idx))))

def execKatRun (passed : Bool) (s : State) : Host.Outcome State Fault Refusal := onMain s (·.katRun passed)

def execConfirmationTestDone (failed : List Nat) (s : State) : Host.Outcome State Fault Refusal := onMain s (·.confirmDone failed)

end Sys2Proof.Machine
end

