-- ==== Sys2Proof/Machine/Security.lean ====
section
/-! DEFINITION. Security (R485–R504): the key store as commands change it, the key commands, the tamper logic with its zeroising line, the
start of the security core, and the debug fuse. Ciphers, digests and derived keys are constants of Config. -/

namespace Sys2Proof.Machine

namespace State

/-! ## State of the core -/

/-- The tamper latch is HELD (R499). -/
def tamperHeld (s : State) : Bool := s.flag R.SEC_TAMPER_LATCH 30

/-- R494, R498, R499: the tamper latch is set, by the zeroising line or by an event that was only reported. -/
def latchSet (s : State) : Bool := s.tamperHeld || s.field R.SEC_TAMPER_LATCH 9 0 != 0

/-- SEC_STATE[2:0]. -/
def secState (s : State) : Nat := match s.sec.state with
  | .booting => 0
  | .ready => if s.tamperHeld then 2 else 1
  | .nokey => if s.tamperHeld then 2 else 3

/-- R491: a slot is in use. -/
def slotInUse (s : State) (n : Nat) : Bool :=
  decide (n < 2) || (s.flag R.VCN_CTRL 0 && s.vcnAuth != 0 && s.field R.VCN_AUTH_SLOT 5 0 == n) || s.saNames n

/-- R496: the attribute word of a slot. -/
def slotAttr (s : State) (n : Nat) : Word :=
  let stored := 2 ^ 30 * b2n ((s.sec.stored.lookup n).isSome) + 2 ^ 29 * b2n (s.slotInUse n)
  match s.slotAt n with
  | none => w32 stored
  | some k => w32 (2 ^ 31 + stored + 2 ^ 24 * k.origin + 2 ^ 16 * k.engine + k.key.length)

/-- A slot takes a key. -/
def putSlot (s : State) (n : Nat) (k : KeySlot) : State :=
  s.setSec { s.sec with slots := Sparse.insertAt (Sparse.erase s.sec.slots n) n k }

/-- A slot becomes empty. -/
def dropSlot (s : State) (n : Nat) : State := s.setSec { s.sec with slots := Sparse.erase s.sec.slots n }

/-! ## Key commands (R493–R496) -/

/-- R488, R495: the key lengths of an engine. -/
def keyLens (engine : Nat) : List Nat :=
  if engine = 0 then [64] else if engine = 1 then [48] else if engine = 9 then [16, 32] else [32]

/-- A key command completes (SEC_OP_CNT). -/
def keyEnd (s : State) (r : Nat) (c : Cmd) (status : Nat) (r0 r1 : Nat := 0) : State :=
  (s.bump R.SEC_OP_CNT).complete r c.idx status r0 r1

/-- R494, R495: the status with which KEY_LOAD or KEY_UNWRAP is refused; `extra` is what the blob has beyond the key. -/
def keyRefusal (s : State) (r : Nat) (c : Cmd) (unwrap : Bool) : Option Nat :=
  let slot := (arg c 0).toNat
  let engine := fld (arg c 1) 3 0
  let kek := fld (arg c 3) 5 0
  let lens := (keyLens engine).map (· + if unwrap then 8 else 0)
  if s.latchSet || s.sec.state == .nokey then some stTampered
  else if !unwrap && !s.coreOwned r && !s.flag R.SEC_CTRL 1 then some stLocked
  else if slot < 2 then some stLocked
  else if decide (63 < slot) || decide (9 < engine) || (unwrap && !s.issued kek 8) then some stBadAddress
  else if (s.slotAt slot).isSome && !bit (arg c 2) 1 then some stConflict
  else if s.slotInUse slot then some stConflict
  else if !lens.contains c.desc.len then some stBadLength
  else none

/-- R492: a slot's contents are written into the security area, wrapped under the PERSIST key. -/
def persist (s : State) (slot : Nat) (k : KeySlot) : State :=
  let x : StoredKey := { slot := k, wrapped := Config.kwWrap (Config.persistKey (s.sec.secret.getD 0)) k.key }
  (s.setSec { s.sec with stored := Sparse.insertAt (Sparse.erase s.sec.stored slot) slot x }).flashErase

/-- R492: a slot's stored copy, where there is one, is erased. -/
def unpersist (s : State) (slot : Nat) : State :=
  if (s.sec.stored.lookup slot).isSome then (s.setSec { s.sec with stored := Sparse.erase s.sec.stored slot }).flashErase else s

/-- R492, R493: the key enters the slot, and with PERSIST = 1 the security area; a persist write that fails leaves the slot empty,
and whether an earlier stored copy survives it is a free value. -/
def keyStore (s : State) (r : Nat) (c : Cmd) (key : Bytes) (origin : Nat) (written : Bool) : State :=
  let slot := (arg c 0).toNat
  let k : KeySlot := { engine := fld (arg c 1) 3 0, key := key, origin := origin }
  if bit (arg c 2) 0 && !written then
    let (f, s) := s.fresh
    let s := s.dropSlot slot
    let s := if f % 2 = 0 then s else s.unpersist slot
    (s.raise R.SEC_STATUS 5).keyEnd r c stNoResource
  else
    let s := s.putSlot slot k
    let s := s.setSec { s.sec with loads := Sparse.put 0 s.sec.loads slot (Sparse.get 0 s.sec.loads slot + 1) }
    let s := if bit (arg c 2) 0 then s.persist slot k else s
    s.keyEnd r c stOk

/-- KEY_LOAD. -/
def opKeyLoad (s : State) (r : Nat) (c : Cmd) (written : Bool) : State :=
  match s.keyRefusal r c false with
  | some st => s.keyEnd r c st
  | none => s.keyStore r c (s.ownRead r c.desc.addr c.desc.len) 2 written

/-- KEY_UNWRAP. -/
def opKeyUnwrap (s : State) (r : Nat) (c : Cmd) (written : Bool) : State :=
  match s.keyRefusal r c true with
  | some st => s.keyEnd r c st
  | none =>
    let kek := match s.slotAt (fld (arg c 3) 5 0) with
      | some k => k.key
      | none => []
    match Config.kwUnwrap kek (s.ownRead r c.desc.addr c.desc.len) with
    | none => s.keyEnd r c stCheckFail
    | some key => s.keyStore r c (slice key 0 (c.desc.len - 8)) 3 written

/-- KEY_ERASE. -/
def opKeyErase (s : State) (r : Nat) (c : Cmd) : State :=
  let slot := (arg c 0).toNat
  if s.latchSet || s.sec.state == .nokey then s.keyEnd r c stTampered
  else if slot < 2 then s.keyEnd r c stLocked
  else if 63 < slot then s.keyEnd r c stBadAddress
  else if s.slotInUse slot then s.keyEnd r c stConflict
  else
    ((s.dropSlot slot).unpersist slot).keyEnd r c stOk

/-- R493: the check value of a key: the first 4 bytes of SHA-256 over "KCV" and the key, little-endian by R5; for an empty slot a
free value. -/
def checkValue (s : State) (n : Nat) : Nat × State := match s.slotAt n with
  | some k => (leNat (beBytes 4 (Config.sha256 ([0x4B, 0x43, 0x56] ++ k.key) / 2 ^ 224)), s)
  | none => s.fresh

/-- KEY_INFO. -/
def opKeyInfo (s : State) (r : Nat) (c : Cmd) : State :=
  let slot := (arg c 0).toNat
  if s.secState = 3 then s.keyEnd r c stTampered
  else if 63 < slot then s.keyEnd r c stBadAddress
  else
    let attr := (s.slotAttr slot).toNat
    let (v, s) := s.checkValue slot
    s.keyEnd r c stOk attr v

/-- R499: the persisted slots return, as far as they are empty; ORIGIN 4. -/
def restoreSlots (s : State) : State :=
  s.sec.stored.foldl (fun s x => if (s.slotAt x.1).isSome then s else s.putSlot x.1 { x.2.slot with origin := 4 }) s

/-- R499: TAMPER_CLEAR. -/
def opTamperClear (s : State) (r : Nat) (c : Cmd) : State :=
  let latch := s.field R.SEC_TAMPER_LATCH 9 0
  if s.secState = 3 then s.keyEnd r c stTampered
  else if !s.sec.raw.isEmpty || !s.latchSet then s.keyEnd r c stConflict
  else
    let s := (s.setField R.SEC_TAMPER_LATCH 9 0 0).lower R.SEC_TAMPER_LATCH 30
    (if s.sec.state = .nokey then s else s.restoreSlots).keyEnd r c stOk latch

/-- R502: DEBUG_CLOSE. -/
def opDebugClose (s : State) (r : Nat) (c : Cmd) : State :=
  if s.latchSet || s.sec.state == .nokey then s.keyEnd r c stTampered
  else if !s.flag R.SEC_CTRL 31 then s.keyEnd r c stLocked
  else if arg c 0 ≠ 0x44424746 then s.keyEnd r c stBadAddress
  else (s.setSec { s.sec with dbgFuse := true }).keyEnd r c stOk

/-- R496: no key command of another ring that stands ready was fetched before c. -/
def keyTurn (s : State) (c : Cmd) : Bool :=
  s.host.ring.all (fun x => match s.startable x.1 with
    | some d => !(decide (0x40 ≤ d.desc.opcode) && decide (d.desc.opcode ≤ 0x45)) || decide (c.seq ≤ d.seq)
    | none => true)

/-- R496: a key command runs once the security core has started, in its turn. -/
def runKey (s : State) (r op : Nat) (f : State → Cmd → State) : State :=
  if s.sec.state = .booting then s else s.runDesc r op (fun s c => if s.keyTurn c then f s c else s)

/-! ## Tamper (R497–R501) -/

/-- MAIN has power. -/
def mainPowered (s : State) : Bool := s.power.state == .up

/-- R499: the zeroising line. At a start it leaves the slots of that start empty (R501). -/
def zeroise (s : State) : State :=
  let old := s.sec.slots.map (·.1)
  let s := s.setSec { s.sec with slots := [], struck := s.sec.struck || s.sec.state == .booting }
  let s := s.raise R.SEC_TAMPER_LATCH 30
  if s.mainPowered then
    let s := (old.foldl saKeyLost s).raise R.SEC_STATUS 1
    s.keyLost
  else s

/-- R500: what the security area loses by ERASE. -/
def eraseRoot (s : State) : State := 
  (s.setSec { s.sec with stored := [], secret := none, wrapped := [], helper := none, eraseDue := false }).flashErase

/-- R498: the action of a source. -/
def tamperAction (s : State) (k : Nat) : Nat :=
  if k = 9 then 2
  else
    let a := s.field R.SEC_TAMPER_CTRL (2 * k + 1) (2 * k)
    if k < 4 ∧ s.sec.maint = true then min a 1 else a

/-- R499: the time of the first event since the latch last cleared. -/
def tamperStamp (s : State) : State :=
  if s.field R.SEC_TAMPER_LATCH 9 0 ≠ 0 then s
  else if s.mainPowered then s.setTs80 R.SEC_TAMPER_TS_NS R.SEC_TAMPER_TS_SEC_LO R.SEC_TAMPER_TS_SEC_HI s.lt
  else s.raise R.SEC_TAMPER_TS_SEC_HI 31

/-- R498–R500: an event of source k. -/
def tamperEvent (s : State) (k : Nat) : State :=
  let a := s.tamperAction k
  if a = 0 then s
  else
    let s := (s.tamperStamp.raise R.SEC_TAMPER_LATCH k)
    let s := s.setReg R.SEC_TAMPER_CNT (w32 (min 0xFFFF ((s.reg R.SEC_TAMPER_CNT).toNat + 1)))
    let s := s.raiseIf s.mainPowered R.SEC_STATUS 0
    let s := if 2 ≤ a then s.zeroise else s
    if a = 3 then
      let s := s.raise R.SEC_TAMPER_LATCH 31
      if s.mainPowered then s.eraseRoot else s.setSec { s.sec with eraseDue := true }
    else s

/-- R497: source k becomes active or inactive. -/
def sense (s : State) (k : Nat) (active : Bool) : State :=
  if !active then s.setSec { s.sec with raw := s.sec.raw.filter (· != k) }
  else if s.sec.raw.contains k then s
  else (s.setSec { s.sec with raw := k :: s.sec.raw }).tamperEvent k

/-- R497: enclosure switch k is active where its ball has the level that SEC_TAMPER_POL names. -/
def senseEnc (s : State) (k : Nat) : State := s.sense k (s.sec.enc.contains k == s.flag R.SEC_TAMPER_POL k)

/-- R497: TEMP is active with the junction above SEC_TEMP_LIMITS.HIGH or below LOW, both in signed °C. -/
def tempActive (s : State) (celsius : Int) : Bool :=
  decide (signed 8 (s.field R.SEC_TEMP_LIMITS 15 8) < celsius) || decide (celsius < signed 8 (s.field R.SEC_TEMP_LIMITS 7 0))

/-- TEMP against the junction temperature last read, which stands against new limits too. -/
def senseTemp (s : State) : State := s.sense 6 (s.sec.junction.any s.tempActive)

/-- R497: what a source is sensed at: of ENC0 to ENC3 the ball, 0 for low; of TEMP the junction in °C; of the others 0 for inactive. VOLT,
CLK and DEBUG are sensed with MAIN powered; DEBUG fires while DBG_FUSE is 0, and SUPPLY at the power-up that follows a loss of 3.3 V, where
VBAT was lost too. -/
def tamper (s : State) (k : Nat) (reading : Int) : State :=
  if 9 < k ∨ ((k = 4 ∨ k = 5 ∨ k = 9) ∧ s.mainPowered = false)
      ∨ (reading ≠ 0 ∧ ((k = 9 ∧ s.sec.dbgFuse = true) ∨ (k = 8 ∧ s.power.newSupply = false))) then s
  else if k < 4 then (s.setSec { s.sec with enc := s.sec.enc.filter (· != k) ++ (if reading ≠ 0 then [k] else []) }).senseEnc k
  else if k = 6 then (s.setSec { s.sec with junction := some reading }).senseTemp
  else s.sense k (reading != 0)

/-- The time base of SBY_RTC, which goes on in every power state with 3.3 V, in cycles of 0.8 ns. -/
def upTime (s : State) : Int := s.power.rtc + s.time.frc

/-- An event at time t of that base. -/
def waitUp (s : State) (t : Int) : State :=
  if s.mainRuns then s.waitFrc (t - s.power.rtc).toNat else { s with power := { s.power with rtc := max s.power.rtc (t - s.time.frc) } }

/-- R498: a write of SEC_MAINT. -/
def maintWrite (s : State) (v : Word) : State :=
  if s.flag R.SEC_CTRL 2 then
    (s.setReg R.SEC_MAINT (v &&& 0xFFFF)).setSec { s.sec with maint := true, maintEnd := s.upTime + (fld v 15 0 * 75000000000 : Nat) }
  else s

/-- R498: the maintenance window closes, SEC_MAINT minutes after the write; a switch still active is a new event. -/
def maintClose (s : State) : State :=
  if !s.sec.maint then s
  else
    let s := s.waitUp s.sec.maintEnd
    let s := s.setSec { s.sec with maint := false }
    let s := s.raiseIf s.mainPowered R.SEC_STATUS 6
    ([0, 1, 2, 3].filter s.sec.raw.contains).foldl tamperEvent s

/-! ## The start of the security core (R486, R487, R490, R492, R499–R501) -/

/-- R487: enrolment: new helper data and a new device secret, wrapped under the PUF key, Nepelor's digest from ROM, and ENROLLED. What was stored under the old secret is lost: when
the device had been enrolled before, everything in flash above the security area, which Winnow erases. -/
def enrol (s : State) : State :=
  let (n, s) := s.fresh
  let (h, s) := s.fresh
  let s : State := if s.sec.enrolled then { s with upd := { s.upd with slotA := none, slotB := none }
                                                   winnow := { s.winnow with train := none, flash := [] } } else s
  let s := s.setSec { s.sec with wrapped := Config.kwWrap (Config.pufKey h) (Config.deviceSecret n), helper := some h }
  (s.flashErase.setSec { s.sec with secret := some n, signer := slice Config.romSigner 0 48, enrolled := true, stored := [] }).raise R.SEC_STATUS 7

/-- R490: slots 0 and 1. -/
def rootSlots (s : State) : State :=
  let n := s.sec.secret.getD 0
  (s.putSlot 0 { engine := 0, key := slice (Config.flashKey n) 0 64, origin := 1 }).putSlot 1 { engine := 1, key := s.sec.signer, origin := 1 }

/-- Stage 2 of a boot; `pufOk`: the PUF regenerates, with at most 25 % of errors to correct, and the wrapped secret, where there is one,
unwraps. After an event since the reset the slots stay empty (R501). A secret that does not unwrap,
or is not there, is followed by enrolment anew where the latch records an ERASE (R487). -/
def secStart (s : State) (pufOk : Bool) (ber : Nat) : State :=
  let s := if s.sec.eraseDue then s.eraseRoot else s
  let pufOk := pufOk && decide (ber ≤ 250)
  let s := (s.setReg R.SEC_PUF_BER (w32 (ber % 1024))).raiseIf (decide (120 < ber)) R.SEC_STATUS 4
  let s := s.setSec { s.sec with slots := [], restored := 0 }
  let first := !s.sec.enrolled || ((s.sec.secret.isNone || !pufOk) && s.flag R.SEC_TAMPER_LATCH 31)
  let s := if first then s.enrol else s
  if !first && (!pufOk || s.sec.secret.isNone) then s.setSec { s.sec with state := .nokey }
  else
    let s := (if s.sec.struck then s else s.rootSlots)
    let s := s.setSec { s.sec with state := .ready }
    if s.tamperHeld then s else (s.restoreSlots).setSec { s.restoreSlots.sec with restored := s.sec.stored.length }

/-- The TRNG fails a health test. -/
def trngFail (s : State) : State :=
  ((s.setField R.SEC_TRNG_STAT 15 8 (min 255 (s.field R.SEC_TRNG_STAT 15 8 + 1))).lower R.SEC_TRNG_STAT 0).raise R.SEC_STATUS 3

end State

/-! ## Meanings -/

def execKeyLoad (ring : Nat) (written : Bool) (s : State) : Host.Outcome State Fault Refusal :=
  onMain s (fun s => s.runKey ring 0x40 (fun s c => s.opKeyLoad ring c written))

def execKeyUnwrap (ring : Nat) (written : Bool) (s : State) : Host.Outcome State Fault Refusal :=
  onMain s (fun s => s.runKey ring 0x41 (fun s c => s.opKeyUnwrap ring c written))

def execKeyErase (ring : Nat) (s : State) : Host.Outcome State Fault Refusal :=
  onMain s (fun s => s.runKey ring 0x42 (fun s c => s.opKeyErase ring c))

def execKeyInfo (ring : Nat) (s : State) : Host.Outcome State Fault Refusal :=
  onMain s (fun s => s.runKey ring 0x43 (fun s c => s.opKeyInfo ring c))

def execTamperClear (ring : Nat) (s : State) : Host.Outcome State Fault Refusal :=
  onMain s (fun s => s.runKey ring 0x44 (fun s c => s.opTamperClear ring c))

def execDebugClose (ring : Nat) (s : State) : Host.Outcome State Fault Refusal :=
  onMain s (fun s => s.runKey ring 0x45 (fun s c => s.opDebugClose ring c))

def execTamperDetect (source : Nat) (reading : Int) (s : State) : Host.Outcome State Fault Refusal :=
  onAny s (·.tamper source reading)

def execSecMaintWrite (minutes : Word) (s : State) : Host.Outcome State Fault Refusal :=
  onMain s (fun s => s.ifFree .sec 0 (canon .sec 0 0x800) (·.maintWrite minutes))

def execMaintEnd (s : State) : Host.Outcome State Fault Refusal := onAny s (·.maintClose)

def execTrngHealthFail (s : State) : Host.Outcome State Fault Refusal := onLoader s (·.trngFail)

end Sys2Proof.Machine
end

