-- ==== Sys2Proof/Machine/Reset.lean ====
section
/-! DEFINITION. What a reset of the MAIN domain does and keeps (R531, R532), and MAIN losing power (R530, R540). The boot that follows is
the command BOOT. -/

namespace Sys2Proof.Machine

namespace State

/-- R548, R503: the registers of the STANDBY and TAMPER domains. -/
def sleepReg (a : Nat) : Bool := decide (0x2800 ≤ a ∧ a < 0x3000) || decide (0x200800 ≤ a ∧ a < 0x201000)

/-- The DRAM training registers. -/
def trainReg (a : Nat) : Bool := decide (0x230100 ≤ a ∧ a < 0x230200)

/-- R531: local time after a reset: FRC, OFFSET and RATE by its kind, the rest at reset; the next boundary is the first instant that
lies later (R94). -/
def resetTime (s : State) (k : ResetKind) : TimeSt :=
  let t : TimeSt := match k with
    | .powerOn => {}
    | .pin => { frc := s.time.frc }
    | _ => { frc := s.time.frc, offset := s.time.offset, rate := s.time.rate }
  let k1 := firstAfter t.num t.den (t.offset + elapsed t.frc t.rate)
  { t with kLast := k1 - 1, kNext := k1, mark := (((k1 - 1 : Nat) : Int) * t.num * uSec, t.den) }

/-- R531: PWR_RST_CAUSE of a kind, with the source of a WARM reset. -/
def resetCause (k : ResetKind) (source : Nat) : Word := match k with
  | .powerOn => 1
  | .pin => 2
  | .warm => w32 (3 + 256 * source)
  | .update => 4

/-- R525, R532: the slot whose trial a reset ends in fallback: one that runs, or one asked for whose own reset has come already. -/
def fellAt (s : State) : Option Bool :=
  s.upd.fell.orElse (fun _ => if s.upd.trial.isSome then some s.upd.runB
    else if s.upd.request.any TrialReq.armed then some (!s.upd.runB) else none)

/-- R531, R532: a reset of the MAIN domain, MAIN powered or powering up. A trial under way ends (R525). BRACE_SB0 falls (R559). -/
def mainReset (s : State) (k : ResetKind) (source : Nat) : State :=
  let kept := k == .warm || k == .update
  let s := if s.brace.state = .active then s.send (.sideband false 0) else s
  let x : State :=
    { State.reset with
      regs := s.regs.filter (fun r => sleepReg r.1 || (kept && trainReg r.1))
      badLive := s.badLive.filter sleepReg
      posted := s.posted.filter (fun p => sleepReg p.1)
      dram := if kept then s.dram else []
      time := s.resetTime k
      ingest := { hpd := s.ingest.hpd }
      host := { mem := s.host.mem }
      brace := { sb2 := s.brace.sb2, sb3 := s.brace.sb3 }
      sec := { s.sec with state := .booting, slots := [], loads := [], restored := 0, struck := false }
      upd := { s.upd with state := .idle, session := none, asker := none, image := none, trial := none
                          fell := s.fellAt, recovery := false
                          request := (s.upd.request.filter (fun q => !q.armed)).map (fun q =>
                            { q with released := (s.resetTime k).frc, armed := true }) }
      winnow := { s.winnow with
        kat := none
        dramAt := (s.resetTime k).frc
        sramAt := (s.resetTime k).frc
        flashAt := (s.resetTime k).frc
        scAt := (s.resetTime k).frc }
      pins := s.pins
      power := { s.power with state := .up, inShow := false, ready := false, bootDue := true, kind := k, woke := false
                              request := none, entering := false, wake := false, pllUp := false, lost := [], recovered := [], wakeOnly := [] }
      out := s.out
      bus := s.bus
      freeCtr := s.freeCtr
      pending := s.pending }
  x.setReg R.PWR_RST_CAUSE (resetCause k source)

/-- R548: SBY_RTC: whole seconds since 3.3 V came up. -/
def rtcNow (s : State) : Nat := (s.upTime / 1250000000).toNat % 2 ^ 32

/-- MAIN and IO lose power: what they held is as a POWER-ON reset will find it, and no MAIN source is sensed any more (R497). -/
def mainOff (s : State) (x : PowerState) : State :=
  let rtc := s.power.rtc + s.time.frc
  let s := s.mainReset .powerOn 0
  let s := s.setSec { s.sec with raw := s.sec.raw.filter (fun k => k != 4 && k != 5 && k != 9) }
  { s with power := { s.power with state := x, bootDue := false, rtc := rtc } }

/-- MAIN powers up: a POWER-ON reset. -/
def mainUp (s : State) (woke : Bool) : State :=
  let s := s.mainReset .powerOn 0
  { s with power := { s.power with woke := woke } }

end State

end Sys2Proof.Machine
end

