-- ==== Sys2Proof/Machine/Update.lean ====
section
/-! DEFINITION. Firmware update (R514–R528): the service protocol, verification, the slot write, activation, the trial and its
confirmation. The boot of a trial image, and of the image a fallback leaves, are in Machine/Boot.lean. -/

namespace Sys2Proof.Machine

namespace State

def setUpd (s : State) (u : UpdSt) : State := { s with upd := u }

/-! ## State -/

/-- UPD_STATE[3:0]. -/
def updCode (s : State) : Nat := match s.upd.state with
  | .receiving => 1
  | .verifying => 2
  | .writing => 3
  | .ready => 4
  | .idle => if s.upd.recovery then 6 else if s.upd.trial.isSome then 5 else 0

/-- R526: the COMPAT word that a reply carries: during a trial that of the trial image, else that of the verified image. -/
def updCompat (s : State) : Nat :=
  if s.upd.trial.isSome then (s.reg R.UPD_RUN_COMPAT).toNat else (s.reg R.UPD_NEW_COMPAT).toNat

/-- UPD_HEALTH_WINDOW as it acts, in seconds. -/
def healthWindow (s : State) : Nat := clampNat 10 3600 (s.field R.UPD_HEALTH_WINDOW 11 0)

/-- UPD_STAGE. -/
def updStage (s : State) : Nat := s.field R.UPD_STAGE_HI 1 0 * 2 ^ 32 + s.field R.UPD_STAGE_LO 31 16 * 2 ^ 16

/-! ## Messages (R516–R518) -/

/-- R517: a message: header with its CRC, and payload. -/
def updMessage (type session index status : Nat) (payload : Bytes) : Bytes :=
  let head (crc : Nat) : Bytes := beBytes 2 0x5550 ++ beBytes 1 1 ++ beBytes 1 type ++ beBytes 4 session ++ beBytes 4 index
    ++ beBytes 2 payload.length ++ beBytes 1 status ++ beBytes 1 0 ++ beBytes 4 crc
  head (crc32c (head 0 ++ payload)) ++ payload

/-- R516: a reply as a frame of port 36. DSCP, TTL and what `udp4` names are not stated: free values. -/
def updFrame (s : State) (p : Peer) (msg : Bytes) : Bytes × State :=
  let (v, s) := s.fresh
  let ip := udp4 v (v / 2 ^ 33 % 64) (v / 2 ^ 39 % 256) (s.reg R.UPD_IP).toNat p.ip (s.field R.UPD_PORT 15 0) p.port msg
  (s.ether 36 p.mac none 0x0800 ip, s)

/-- R516: a reply enters transmit queue 2. -/
def updReply (s : State) (p : Peer) (type session index status : Nat) (payload : Bytes := []) : State :=
  let (l, s) := s.updFrame p (updMessage type session index status payload)
  s.enqueue 36 { queue := 2, bytes := l }

/-- R518: the payload of RESULT. -/
def resultPayload (compat check : Nat) : Bytes := beBytes 4 compat ++ beBytes 1 check ++ [0, 0, 0]

/-- R518: RESULT. -/
def updResult (s : State) (p : Peer) (session status check compat : Nat) : State :=
  s.updReply p 6 session 0 status (resultPayload compat check)

/-- R518: the RESULT of an accepted ACTIVATE leaves before the reset, where the port sends. -/
def updResultNow (s : State) (p : Peer) (session : Nat) : State :=
  let (l, s) := s.updFrame p (updMessage 6 session 0 stOk (resultPayload s.updCompat 0))
  if !s.txReady 36 then s
  else match s.msOut 36 l with
    | (none, s) => s
    | (some l, s) => (s.txStats 36 (s.isExpress 36 2) (castOf l) ((padded l).length + 4)).wireOut 36 (s.isExpress 36 2) l

/-- The payload bytes that a request has, where its type fixes them. -/
def requestLen (type : Nat) : Option Nat := match type with
  | 1 => some 8
  | 3 => none
  | 7 => some 4
  | _ => some 0

/-- R518: a message is well formed. -/
def updShape (l : Bytes) : Bool :=
  let type := beAt l 3 1
  decide (20 ≤ l.length) && beAt l 0 2 == 0x5550 && beAt l 2 1 == 1 && decide (1 ≤ type) && decide (type ≤ 0x0B)
    && beAt l 12 2 == l.length - 20
    && ([2, 4, 6, 10].contains type || (match requestLen type with
      | some n => n == l.length - 20
      | none => true))

/-- R517: a message's CRC is right. -/
def updCrcOk (l : Bytes) : Bool := beAt l 16 4 == crc32c (l.take 16 ++ [0, 0, 0, 0] ++ l.drop 20)

/-- R516, R510, R506: check unit 0 has computed the CRC of a BLOCK message, over its header with CRC 0 and its payload. -/
def updCrcUnit (s : State) (l : Bytes) : State :=
  let l := l.take 16 ++ [0, 0, 0, 0] ++ l.drop 20
  if beAt l 3 1 = 3 then
    (s.setReg (R.CHECKn_VALUE 0) (w32 (reverseBits 32 (crc32cMore 0xFFFFFFFF l)))).setReg (R.CHECKn_BYTES 0) (w32 l.length)
  else s

/-- R516, R518, R519: a message of a type arrives; f gets its SESSION, INDEX and payload. -/
def updMsg (s : State) (type : Nat) (l : Bytes) (f : State → Nat → Nat → Bytes → State) : State :=
  if !(s.flag R.UPD_CTRL 0 && s.rxReady 36) && !s.upd.recovery then s
  else if !updShape l then s.bump R.UPD_BLK_CRC_CNT
  else
  let s := s.updCrcUnit l
  if !updCrcOk l then (s.bump R.UPD_BLK_CRC_CNT).raise R.UPD_STATUS 0
  else if beAt l 3 1 ≠ type then s
  else
    let session := beAt l 4 4
    let s := match s.upd.session with
      | some x => if x.id = session then s.setUpd { s.upd with session := some { x with last := s.time.frc } } else s
      | none => s
    f s session (beAt l 8 4) (l.drop 20)

/-! ## Ends (R519, R520, R526) -/

/-- UPD_LAST_STATUS after a VERIFY. -/
def lastVerify (s : State) (status check : Nat) : State := s.setReg R.UPD_LAST_STATUS (w32 (256 * check + status))

/-- UPD_LAST_STATUS after an ACTIVATE. -/
def lastActivate (s : State) (status : Nat) : State := s.setField R.UPD_LAST_STATUS 7 0 status

/-- An asker is answered with a status. -/
def updAnswer (s : State) (a : UpdAsker) (status check compat : Nat) : State := match a with
  | .net p n => s.updResult p n status check compat
  | .ring r i => s.complete r i status compat

/-- A VERIFY ends, and its asker is answered with the COMPAT word of its image. -/
def verifyEnd (s : State) (status check compat : Nat) : State :=
  let s := s.lastVerify status check
  match s.upd.asker with
  | none => s
  | some a => (s.setUpd { s.upd with asker := none }).updAnswer a status check compat

/-- The state after a session, a failed VERIFY or an ABORT: READY while an image is, else IDLE (which reads TRIAL or RECOVERY there). -/
def updRest (s : State) : State := s.setUpd { s.upd with state := if s.upd.image.isSome then .ready else .idle }

/-- Verification or a slot write is broken off: the slot stays invalid. -/
def updStop (s : State) : State :=
  if s.upd.state = .verifying then s.verifyEnd stAborted 0 s.updCompat
  else if s.upd.state = .writing then (s.setUpd { s.upd with image := none }).verifyEnd stAborted 0 s.updCompat
  else s

/-- R519: ABORT. -/
def updDoAbort (s : State) : State := let s := s.updStop; (s.setUpd { s.upd with session := none }).updRest

/-! ## OPEN and BLOCK (R519) -/

/-- R519: the status of an OPEN. -/
def openStatus (s : State) (session len block : Nat) : Nat :=
  if len < 0x200 ∨ 0x10000000 < len ∨ ¬ [1024, 2048, 4096, 8192].contains block then stBadLength
  else if s.upd.session.any (fun x => x.id != session) then stConflict
  else if s.upd.trial.isSome then stConflict
  else stOk

/-- R519: OPEN. In in-place mode the blocks overwrite the staged image. -/
def updDoOpen (s : State) (p : Peer) (session : Nat) (d : Bytes) : State :=
  let len := beAt d 0 4
  let block := beAt d 4 2
  let st := s.openStatus session len block
  if st ≠ stOk then s.updReply p 2 session 0 st
  else
    let s := s.updStop
    let s := s.setUpd { s.upd with session := some { id := session, len := len, block := block, last := s.time.frc }, state := .receiving
                                   image := if s.sec.inPlace then none else s.upd.image }
    s.updReply p 2 session 0 stOk

/-- Blocks of an image. -/
def blockCount (x : UpdSession) : Nat := (x.len + x.block - 1) / x.block

/-- Bytes of block i. -/
def blockLen (x : UpdSession) (i : Nat) : Nat := min x.block (x.len - i * x.block)

/-- R519: the status of a BLOCK, and the session it is for. -/
def blockStatus (s : State) (session index n : Nat) : Nat := match s.upd.session with
  | none => stConflict
  | some x =>
    if x.id ≠ session then stConflict
    else if blockCount x ≤ index then stBadAddress
    else if n ≠ blockLen x index then stBadLength
    else if x.verified ∨ s.upd.state ≠ .receiving then stConflict
    else stOk

/-- Distinct blocks held. -/
def blocksHeld (s : State) : Nat := match s.upd.session with
  | some x => x.held.length
  | none => 0

/-- R519: BLOCK. -/
def updDoBlock (s : State) (p : Peer) (session index : Nat) (d : Bytes) : State :=
  let st := s.blockStatus session index d.length
  match s.upd.session with
  | some x =>
    if st ≠ stOk then s.updReply p 4 session index st (beBytes 4 s.blocksHeld)
    else
      let dup := x.held.contains index
      let held := if dup then x.held else index :: x.held
      let s := (s.wrBytes (s.updStage + index * x.block) d).bumpIf dup R.UPD_BLK_DUP_CNT
      let s := s.setUpd { s.upd with session := some { x with held := held } }
      let s := s.raiseIf (!dup && held.length == blockCount x) R.UPD_STATUS 1
      s.updReply p 4 session index stOk (beBytes 4 held.length)
  | none => s.updReply p 4 session index st (beBytes 4 0)

/-! ## VERIFY (R520, R521) -/

/-- SHA-384 as 48 bytes. -/
def sha384 (l : Bytes) : Bytes := slice (Config.sha384 l) 0 48

/-- Offset and length of component i of an image header. -/
def component (h : Bytes) (i : Nat) : Nat × Nat := (leAt h (0x10 + 64 * i) 4, leAt h (0x14 + 64 * i) 4)

/-- R520, check 1. -/
def headerOk (h : Bytes) : Bool :=
  let total := leAt h 8 4
  let cs := [0, 1, 2].map (component h)
  leAt h 0 4 == 0x4D495A4B && leAt h 4 2 == 1
    && cs.all (fun c => decide (0x200 ≤ c.1) && decide (1 ≤ c.2) && decide (c.1 + c.2 ≤ total))
    && [(0, 1), (0, 2), (1, 2)].all (fun x =>
      let a := component h x.1
      let b := component h x.2
      decide (a.1 + a.2 ≤ b.1) || decide (b.1 + b.2 ≤ a.1))
    && [0, 1, 2].all (fun i => leAt h (0x19 + 64 * i) 7 == 0) && leAt h 0x161 31 == 0 && leAt h 0x1E0 32 == 0

/-- R515: the COMPAT word of an image header. -/
def headerCompat (h : Bytes) : Nat := leAt h 0x18 1 * 65536 + leAt h 0x58 1 * 256 + leAt h 0x98 1

/-- R520: the checks of the image at a base in DRAM: the first that fails with its status, or what the image brings. -/
def imageChecks (s : State) (base : Nat) : (Nat × Nat ⊕ ImageInfo) × State :=
  let h := s.rdBytes base 512
  if !headerOk h then (.inl (1, stBadAddress), s)
  else match s.askKey 1 1 with
    | (none, s) => (.inl (2, stTampered), s)
    | (some signer, s) =>
      if sha384 (slice h 0x100 97) ≠ signer then (.inl (3, stCheckFail), s)
      else if !Config.ecdsaOk (slice h 0x100 97) (sha384 (h.take 0x180)) (slice h 0x180 96) then (.inl (4, stCheckFail), s)
      else if [0, 1, 2].any (fun i => let c := component h i
          sha384 (s.rdBytes (base + c.1) c.2) != slice h (0x20 + 64 * i) 48) then (.inl (5, stCheckFail), s)
      else if s.field R.GLOBAL_REV 7 0 < leAt h 6 2 then (.inl (6, stConflict), s)
      else if leAt h 12 4 < s.upd.secver then (.inl (7, stConflict), s)
      else (.inr { compat := headerCompat h, secVersion := leAt h 12 4, nextKey := slice h 0xD0 48 }, s)

/-- R520: VERIFY on the session held, for an asker. -/
def updDoVerify (s : State) (a : UpdAsker) : State :=
  if s.upd.state = .verifying ∨ s.upd.state = .writing then (s.lastVerify stConflict 0).updAnswer a stConflict 0 s.updCompat
  else match s.upd.session with
    | none => (s.lastVerify stBadLength 0).updAnswer a stBadLength 0 s.updCompat
    | some x =>
      if x.held.length ≠ blockCount x then (s.lastVerify stBadLength 0).updAnswer a stBadLength 0 s.updCompat
      else
        let s := s.setUpd { s.upd with session := some { x with verified := true }, state := .verifying, asker := some a }
        match a with
        | .ring r i => s.startCmd r i .upd
        | .net _ _ => s

/-- The image slots: a slot's contents replaced. -/
def setSlot (s : State) (b : Bool) (x : Option ImageInfo) : State :=
  s.setUpd (if b then { s.upd with slotB := x } else { s.upd with slotA := x })

/-- R520, R521: verification ends. -/
def updVerified (s : State) : State :=
  if s.upd.state ≠ .verifying then s
  else match s.imageChecks s.updStage with
    | (.inl (check, st), s) => ((s.raise R.UPD_STATUS 2).updRest).verifyEnd st check (headerCompat (s.rdBytes s.updStage 512))
    | (.inr info, s) =>
      let s := (s.setReg R.UPD_NEW_COMPAT (w32 info.compat)).setUpd { s.upd with image := some info }
      if s.sec.inPlace then ((s.setUpd { s.upd with state := .ready }).raise R.UPD_STATUS 3).verifyEnd stOk 0 info.compat
      else ((s.setUpd { s.upd with state := .writing }).setSlot (!s.upd.runB) none).flashErase

/-- R489: the flash engine asks for its key; without it flash above the security area is unreadable (R499). -/
def flashKeyed (s : State) : Bool × State := match s.askKey 0 0 with
  | (some _, s) => (true, s)
  | (none, s) => (false, s)

/-- R521: the slot write ends; `matching`: the image reads back with matching digests, as it cannot without the flash key. A slot that does not stays invalid, and the
VERIFY ends with CHECK_FAIL (DESIGN CHOICE: the manual states no outcome). -/
def imageWritten (s : State) (matching : Bool) : State :=
  if s.upd.state ≠ .writing then s
  else
  let (keyed, s) := s.flashKeyed
  if matching && keyed then
    let s := (s.setSlot (!s.upd.runB) s.upd.image).raise R.UPD_STATUS 3
    (s.setUpd { s.upd with state := .ready }).verifyEnd stOk 0 s.updCompat
  else (((s.setUpd { s.upd with image := none }).updRest).raise R.UPD_STATUS 2).verifyEnd stCheckFail 5 s.updCompat

/-! ## ACTIVATE (R522) -/

/-- R522: the status of an ACTIVATE. -/
def activateStatus (s : State) (force : Bool) : Nat :=
  let partner := s.brace.theirs.head?
  let heard := match s.brace.heard with
    | some e => decide ((s.time.epoch - e).toNat ≤ s.braceMiss)
    | none => false
  if s.upd.state ≠ .ready then stConflict
  else if s.inShow && !s.braceOn && !force then stConflict
  else if s.braceOn && (s.brace.state == .active || !heard
      || !(partner.any (fun m => healthyWord m.health && compatNear (s.reg R.UPD_NEW_COMPAT).toNat m.compat))) then stConflict
  else stOk

/-- R522: an accepted ACTIVATE: the trial request, and the update reset. -/
def updReset (s : State) : State :=
  let s := s.setUpd { s.upd with request := some { window := s.healthWindow, base := s.updStage } }
  s.mainReset .update 0

/-- R518, R522: ACTIVATE as a message. -/
def updDoActivate (s : State) (p : Peer) (session : Nat) (d : Bytes) : State :=
  let st := if s.flag R.UPD_CTRL 1 then s.activateStatus (beAt d 0 1 != 0) else stLocked
  let s := s.lastActivate st
  if st = stOk then (s.updResultNow p session).updReset else s.updResult p session st 0 s.updCompat

/-! ## RECOVER (R518, R487) -/

/-- RECOVER: re-enrolment; slots 0 and 1 are installed under the new secret. -/
def updDoRecover (s : State) (p : Peer) (session : Nat) : State :=
  if s.upd.recovery && s.secState == 3 then
    let s := s.enrol.rootSlots
    (s.setSec { s.sec with state := .ready }).updResult p session stOk 0 s.updCompat
  else s.updResult p session stConflict 0 s.updCompat

/-! ## The trial (R523–R525) -/

/-- R523: the conditions of CONFIRM. -/
def mayConfirm (s : State) : Bool :=
  s.secState == 1 && s.winnow.kat == some [] && s.brace.katFail.isEmpty && s.power.ready
    && (!s.braceOn || ((s.brace.state == .standby || s.brace.state == .active) && !s.flag R.BRACE_STATUS 13))

/-- R524: CONFIRM. -/
def updConfirm (s : State) : State :=
  match s.upd.run with
  | none => s
  | some x =>
    let s := s.setUpd { s.upd with bootB := s.upd.runB, trial := none, secver := max s.upd.secver x.secVersion }
    let s := s.raise R.UPD_STATUS 5
    if x.nextKey.all (· == 0) then s
    else (s.setSec { s.sec with signer := x.nextKey }).putSlot 1 { engine := 1, key := x.nextKey, origin := 1 }

/-- R525: the trial ends in fallback: the loader takes over by a reset, of kind UPDATE (DESIGN CHOICE). -/
def updFallback (s : State) : State := s.mainReset .update 0

/-- R525: the health timer expires. -/
def trialExpired (s : State) : State := match s.upd.trial with
  | none => s
  | some t => ({ s with time := { s.time with frc := max s.time.frc t } }).updFallback

/-- R519: 30 s without a valid message. -/
def updTimeout (s : State) : State := match s.upd.session with
  | none => s
  | some x =>
    let s : State := { s with time := { s.time with frc := max s.time.frc (x.last + 37500000000) } }
    (s.updDoAbort).raise R.UPD_STATUS 7

/-! ## Descriptors (R526) -/

/-- A descriptor operation that ends at once. -/
def updOp (s : State) (r : Nat) (c : Cmd) (status : Nat) : State := s.complete r c.idx status s.updCompat

/-- 0x51. -/
def opActivate (s : State) (r : Nat) (c : Cmd) : State :=
  let st := s.activateStatus (bit (arg c 0) 0)
  let s := (s.lastActivate st).updOp r c st
  if st = stOk then s.updReset else s

/-- 0x52. A CONFIRM whose conditions do not hold is refused with CONFLICT (DESIGN CHOICE: the manual names no code). -/
def opConfirm (s : State) (r : Nat) (c : Cmd) : State :=
  if s.upd.trial.isNone then s.updOp r c stBadOpcode
  else if !s.coreOwned r then s.updOp r c stLocked
  else if s.mayConfirm then (s.updOp r c stOk).updConfirm
  else s.updOp r c stConflict

/-- 0x53. -/
def opReject (s : State) (r : Nat) (c : Cmd) : State :=
  if s.upd.trial.isNone then s.updOp r c stBadOpcode else (s.updOp r c stOk).updFallback

/-- A message of another session than the open one is refused. -/
def otherSession (s : State) (session : Nat) : Bool := s.upd.session.any (fun x => x.id != session)

end State

/-! ## Meanings -/

def execUpdOpen (peer : Peer) (message : Bytes) (s : State) : Host.Outcome State Fault Refusal :=
  onLoader s (·.updMsg 1 message (fun s n _ d => s.updDoOpen peer n d))

def execUpdBlock (peer : Peer) (message : Bytes) (s : State) : Host.Outcome State Fault Refusal :=
  onLoader s (·.updMsg 3 message (fun s n i d => s.updDoBlock peer n i d))

def execUpdVerify (peer : Peer) (message : Bytes) (s : State) : Host.Outcome State Fault Refusal :=
  onLoader s (·.updMsg 5 message (fun s n _ _ =>
    if s.otherSession n then (s.lastVerify stConflict 0).updResult peer n stConflict 0 s.updCompat else s.updDoVerify (.net peer n)))

def execUpdVerifyDone (s : State) : Host.Outcome State Fault Refusal := onLoader s (·.updVerified)

def execImageWriteDone (matching : Bool) (s : State) : Host.Outcome State Fault Refusal := onLoader s (·.imageWritten matching)

def execUpdActivate (peer : Peer) (message : Bytes) (s : State) : Host.Outcome State Fault Refusal :=
  onLoader s (·.updMsg 7 message (fun s n _ d => s.updDoActivate peer n d))

def execUpdAbort (peer : Peer) (message : Bytes) (s : State) : Host.Outcome State Fault Refusal :=
  onLoader s (·.updMsg 8 message (fun s n _ _ =>
    if s.otherSession n then s.updResult peer n stConflict 0 s.updCompat else s.updDoAbort.updResult peer n stOk 0 s.updCompat))

def execUpdStatusReq (peer : Peer) (message : Bytes) (s : State) : Host.Outcome State Fault Refusal :=
  onLoader s (·.updMsg 9 message (fun s n _ _ =>
    let word := 1024 * b2n s.sec.inPlace + 512 * b2n s.upd.trial.isSome + 256 * b2n s.upd.bootB + s.updCode
    s.updReply peer 10 n 0 stOk (beBytes 4 word ++ beBytes 4 (s.reg R.UPD_RUN_COMPAT).toNat)))

def execUpdRecover (peer : Peer) (message : Bytes) (s : State) : Host.Outcome State Fault Refusal :=
  onLoader s (·.updMsg 11 message (fun s n _ _ => s.updDoRecover peer n))

def execUpdSessionTimeout (s : State) : Host.Outcome State Fault Refusal := onLoader s (·.updTimeout)

def execUpdOpVerify (ring : Nat) (s : State) : Host.Outcome State Fault Refusal :=
  onMain s (fun s => s.runDesc ring 0x50 (fun s c => s.updDoVerify (.ring ring c.idx)))

def execUpdOpActivate (ring : Nat) (s : State) : Host.Outcome State Fault Refusal :=
  onMain s (fun s => s.runDesc ring 0x51 (fun s c => s.opActivate ring c))

def execUpdOpConfirm (ring : Nat) (s : State) : Host.Outcome State Fault Refusal :=
  onMain s (fun s => s.runDesc ring 0x52 (fun s c => s.opConfirm ring c))

def execUpdOpReject (ring : Nat) (s : State) : Host.Outcome State Fault Refusal :=
  onMain s (fun s => s.runDesc ring 0x53 (fun s c => s.opReject ring c))

def execUpdOpAbort (ring : Nat) (s : State) : Host.Outcome State Fault Refusal :=
  onMain s (fun s => s.runDesc ring 0x54 (fun s c => s.updDoAbort.updOp ring c stOk))

def execTrialTimeout (s : State) : Host.Outcome State Fault Refusal := onMain s (·.trialExpired)

end Sys2Proof.Machine
end

