-- ==== Sys2Proof/Machine/Boot.lean ====
section
/-! DEFINITION. Supplies, power states and wakes (R529–R531, R538–R541), and the loss and return of clock locks (R36, R37). The boot is in
Machine/Start.lean. -/

namespace Sys2Proof.Machine

namespace State

def setPower (s : State) (p : PowerSt) : State := { s with power := p }

/-! ## PWR_CMD (R539, R540) -/

/-- PWR_CMD SHOW. In SHOW it has no effect (DEDUCED). -/
def cmdShow (s : State) : State :=
  if !s.power.ready || s.power.request.isSome || s.power.entering then s.wdrop .power 0
  else if s.inShow then s
  else s.setPower { s.power with request := some true }

/-- PWR_CMD IDLE. In IDLE it has no effect (DEDUCED). -/
def cmdIdle (s : State) : State := if s.inShow then s.setPower { s.power with request := some false } else s

/-- PWR_CMD STANDBY. -/
def cmdStandby (s : State) : State :=
  if s.inShow || s.upd.state == .receiving || s.upd.state == .verifying || s.upd.state == .writing then s.wdrop .power 0
  else s.setPower { s.power with entering := true, request := none }

/-- R539: before step 1 of a boundary: SHOW or IDLE takes effect, with the entry actions of R385 and R507 and the pending class 2
coefficients of R200. -/
def powerStep (s : State) : State := match s.power.request with
  | none => s
  | some true =>
    let s := (s.setPower { s.power with request := none, inShow := true }).raise R.PWR_STATUS 2
    (s.downshiftsEnd).checkShowEntry
  | some false => ((s.setPower { s.power with request := none, inShow := false }).raise R.PWR_STATUS 2).scIdle

/-! ## Wakes (R540, R541) -/

/-- R541: a wake with its bit of SBY_WAKE_CAUSE. It is held while MAIN is powering down, or while 12 V is absent. -/
def wakeBy (s : State) (b : Nat) : State :=
  match s.power.state with
  | .off => s
  | .standby =>
    let s := s.raise R.SBY_WAKE_CAUSE b
    if s.power.v12 then s.mainUp true else s.setPower { s.power with wake := true }
  | .up => if s.power.entering then (s.raise R.SBY_WAKE_CAUSE b).setPower { s.power with wake := true } else s

/-- SBY_CTRL.WAKE_PORTS. -/
def wakePorts (s : State) : List Nat := (List.range 37).filter (fun n => decide (32 ≤ n) && s.flag R.SBY_CTRL (n - 24))

/-- R540: MAIN and IO go off for STANDBY: the wake ports' addresses are copied, and those ports are in wake-only mode. A wake that is held
stays so. -/
def standbyOff (s : State) : State :=
  let ports := s.wakePorts
  let addr := ports.foldl (fun l n => Sparse.put 0 l n (beNat (s.macAddr n))) s.power.wakeAddr
  let wake := s.power.wake
  let s := s.mainOff .standby
  s.setPower { s.power with wakeOnly := ports, wakeAddr := addr, wake := wake }

/-- R540, R541: entry to STANDBY ends, and a wake that was held starts a boot. -/
def standbyDone (s : State) : State :=
  if !s.power.entering then s
  else
    let s := s.standbyOff
    if s.power.wake then s.mainUp true else s

/-- R541: SBY_RTC reaches SBY_ALARM in STANDBY. Outside it an alarm does nothing but while MAIN powers down. -/
def alarm (s : State) : State :=
  let a := (s.reg R.SBY_ALARM).toNat
  if !s.flag R.SBY_CTRL 2 then s
  else match s.power.state with
    | .standby => if a < s.rtcNow then s else (s.setPower { s.power with rtc := (a : Int) * 1250000000 - s.time.frc }).wakeBy 3
    | _ => s.wakeBy 3

/-! ## Wake frames (R384) -/

/-- One byte of a pattern filter, and the bit of its mask. -/
def patternByte (s : State) (c i : Nat) : Nat := (Sparse.get 0 s.power.pattern (64 * c + i / 4)).toNat / 256 ^ (i % 4) % 256
def patternMask (s : State) (c i : Nat) : Bool := bit (Sparse.get 0 s.power.pattern (64 * c + 32 + i / 32)) (i % 32)

/-- R548: filter c acts on port n. -/
def patternOn (s : State) (c n : Nat) : Bool :=
  if c < 4 then s.flag R.SBY_PF_PORTS_LO (8 * c + n - 32) else s.flag R.SBY_PF_PORTS_HI (8 * (c - 4) + n - 32)

/-- R384: a frame matches filter c. -/
def patternHit (s : State) (c : Nat) (l : Bytes) : Bool :=
  (List.range 128).all (fun i => !s.patternMask c i || (l[i]?).any (fun b => b.toNat == s.patternByte c i))

/-- R384: the magic packet of an address stands somewhere after the source address. -/
def magicIn (addr : Bytes) : Bytes → Bool
  | [] => false
  | b :: t => (b :: t).take 102 == List.replicate 6 0xFF ++ (List.replicate 16 addr).flatten || magicIn addr t

/-- R384, R541: a frame with a good FCS arrives on a wake-only port, or on a wake port while MAIN powers down. -/
def wakeFrame (s : State) (n : Nat) (l : Bytes) : State :=
  let down := s.power.state == .up && s.power.entering && s.wakePorts.contains n
  let addr := if down then s.macAddr n else beBytes 6 (Sparse.get 0 s.power.wakeAddr n)
  if n < 32 ∨ 37 ≤ n ∨ !(s.isWakeOnly n || down) ∨ !s.macAccepts n l addr then s
  else if !(magicIn addr (l.drop 12) || (List.range 8).any (fun c => s.patternOn c n && s.patternHit c l)) then s
  else if s.power.state = .up && !down then
    (if s.mainOn && s.macEn n && s.flag (R.MACn_CTRL n) 2 && (s.macOf n).up then s.raise (R.MACn_STATUS n) 9 else s)
  else s.wakeBy 0

/-! ## Supplies (R529, R530) -/

/-- 12 V rises into range. -/
def rise12 (s : State) : State :=
  let s := s.setPower { s.power with v12 := true }
  if s.power.state ≠ .standby then s
  else if s.flag R.SBY_CTRL 0 then s.wakeBy 2
  else if s.power.wake then s.mainUp true
  else s

/-- 12 V has been below its undervoltage limit for 20 µs. -/
def fail12 (s : State) : State :=
  let s := s.setPower { s.power with v12 := false }
  if s.power.state = .up then s.standbyOff.raise R.SBY_WAKE_CAUSE 4 else s

/-- 3.3 V is lost: OFF; the STANDBY domain loses its registers. -/
def loss33 (s : State) : State :=
  let tamperOnly (a : Nat) : Bool := decide (0x200800 ≤ a)
  let s := if s.power.state = .up then s.mainOff .off else s
  { s with regs := s.regs.filter (fun r => tamperOnly r.1), badLive := s.badLive.filter tamperOnly, posted := []
           sec := { s.sec with maintEnd := s.sec.maintEnd - s.upTime + s.time.frc }
           power := { s.power with state := .off, v33 := false, wake := false, wakeAddr := [], pattern := [], wakeOnly := [], rtc := 0
                                   bootDue := false } }

/-- 3.3 V appears: STANDBY, or with 12 V in range and AUTO_ON = 1 (as it is after reset) a boot. -/
def rise33 (s : State) : State :=
  if s.power.state ≠ .off then s
  else
    let s := s.setPower { s.power with v33 := true, state := .standby, newSupply := true }
    if s.power.v12 && s.flag R.SBY_CTRL 0 then s.mainUp false else s

/-! ## Clock locks (R36, R37) -/

/-- The CLOCK_STATUS bit of a unit. -/
def unlockBit (u : ClockUnit) : Nat := match u with
  | .main => 0
  | .phy => 1
  | .lane _ => 1
  | .recovery _ => 1
  | .pcie => 2
  | .displayPort _ => 3

/-- The ports whose links a unit carries. -/
def unitPorts (u : ClockUnit) : List Nat := match u with
  | .lane l | .recovery l => if l < 32 then [l] else []
  | .phy => [32, 33, 34, 35, 36]
  | _ => []

/-- A unit that exists. -/
def unitExists (u : ClockUnit) : Bool := match u with
  | .lane l | .recovery l => decide (l < 32)
  | .displayPort d => decide (d < 2)
  | _ => true

/-- R36: a unit has lock to lose: receive clock recovery only once it has locked on what a partner sends. -/
def hasLock (s : State) (u : ClockUnit) : Bool :=
  s.power.pllUp && unitExists u && !s.unitLost u && (match u with
    | .recovery l => s.power.recovered.contains l
    | _ => true)

/-- R37: a unit loses lock. What its relock brings back is kept with it. The PCIe link comes back by itself as it was (DESIGN CHOICE, log
entry 46). -/
def unlock (s : State) (u : ClockUnit) : State :=
  if !s.hasLock u then s
  else
    let back := match u with
      | .pcie => if s.host.up then [s.host.gen, s.host.width, s.host.bar4, b2n s.host.msixEn, b2n s.host.funcMask] else []
      | _ => (unitPorts u).filter (fun n => (s.macOf n).up)
    let s := s.setPower { s.power with lost := (u, back) :: s.power.lost }
    let s := (s.raise R.CLOCK_STATUS (unlockBit u)).bump R.CLOCK_UNLOCK_CNT
    match u with
    | .main => if s.frameRuns then s.dropNow else s
    | .pcie => s.linkLoss
    | .displayPort d => ((s.setTrained d false).setPreview d {}).raise R.RASTER_STATUS (7 + d)
    | _ => (unitPorts u).foldl linkDown s

/-- R37: a unit regains lock, and its links return; a preview output retries at the moments R130 names. -/
def relock (s : State) (u : ClockUnit) : State :=
  match s.power.lost.lookup u with
  | none => (match u with
    | .recovery l => if s.power.pllUp then s.recoveryLocks l else s
    | _ => s)
  | some back =>
    let s := s.setPower { s.power with lost := s.power.lost.filter (fun x => x.1 != u) }
    match u with
    | .pcie => (match back with
      | [g, w, b, m, f] => s.linkUp g w b (m == 1) (f == 1)
      | _ => s)
    | .displayPort _ => s
    | _ => (back.filter (fun n => s.macEn n && !s.portClockLost n)).foldl (fun s n => ((s.setMac n { s.macOf n with up := true }).trafficAfresh n).raise (R.MACn_STATUS n) 0) s

/-- R37: the 32.768 kHz oscillator is measured against the root, error in 0.1 ppm, and trimmed within ±1,000 ppm. An error
beyond 16 bits of 0.1 ppm saturates in the register (DESIGN CHOICE, log entry 46). -/
def trimSby (s : State) (error : Int) : State :=
  if !s.flag R.WIN_CTRL 0 then s
  else
    let t := clampInt (-10000) 10000 error
    let half (n : Int) : Nat := (n % 65536).toNat
    (s.setReg R.CLOCK_SBY_TRIM (w32 (half (clampInt (-32768) 32767 error) * 65536 + half t))).raiseIf (t != error) R.CLOCK_STATUS 4

end State

/-! ## Meanings -/

def execPllUnlock (unit : ClockUnit) (s : State) : Host.Outcome State Fault Refusal := onLoader s (·.unlock unit)

def execPllRelock (unit : ClockUnit) (s : State) : Host.Outcome State Fault Refusal := onLoader s (·.relock unit)

def execSbyTrimMeasure (error : Int) (s : State) : Host.Outcome State Fault Refusal := onMain s (·.trimSby error)

def execWakeFrameRx (port : Nat) (frame : Bytes) (s : State) : Host.Outcome State Fault Refusal := onAny s (·.wakeFrame port frame)

def execPwrCmdShow (s : State) : Host.Outcome State Fault Refusal := onMain s (·.cmdShow)

def execPwrCmdIdle (s : State) : Host.Outcome State Fault Refusal := onMain s (·.cmdIdle)

def execPwrCmdStandby (s : State) : Host.Outcome State Fault Refusal := onMain s (·.cmdStandby)

def execPwrCmdWarm (s : State) : Host.Outcome State Fault Refusal := onMain s (·.mainReset .warm 0)

def execStandbyEntryDone (s : State) : Host.Outcome State Fault Refusal := onMain s (·.standbyDone)

def execWakePin (s : State) : Host.Outcome State Fault Refusal :=
  onAny s (fun s => if s.flag R.SBY_CTRL 1 then s.wakeBy 1 else s)

def execRtcAlarm (s : State) : Host.Outcome State Fault Refusal := onAny s (·.alarm)

def execSupply12vRise (s : State) : Host.Outcome State Fault Refusal := onAny s (·.rise12)

def execSupply12vFail (s : State) : Host.Outcome State Fault Refusal := onAny s (·.fail12)

def execSupply33vLoss (s : State) : Host.Outcome State Fault Refusal := onAny s (·.loss33)

def execSupply33vRise (s : State) : Host.Outcome State Fault Refusal := onAny s (·.rise33)

def execPinReset (s : State) : Host.Outcome State Fault Refusal :=
  onAny s (fun s => if s.mainPowered then s.mainReset .pin 0 else s)

/-- R531: the watchdog of a control core, or a fault of the security core. -/
def execCoreWatchdogReset (security : Bool) (s : State) : Host.Outcome State Fault Refusal :=
  (if security then onLoader else onMain) s (·.mainReset .warm (if security then 2 else 1))

end Sys2Proof.Machine
end

