-- ==== Sys2Proof/Machine/Hub.lean ====
section
/-! DEFINITION. Clodar (R340–R354, R362): a complete sentence checked, matched, selected, limited and passed on; queues to ports,
IEC 61162-450 datagrams, the log and the store; the tables copied at a strobe of group 9; composers. -/

namespace Sys2Proof.Machine

/-! ## Sentences (R340–R343) -/

def isDigit (b : Byte) : Bool := decide (0x30 ≤ b.toNat) && decide (b.toNat ≤ 0x39)
def isUpper (b : Byte) : Bool := decide (0x41 ≤ b.toNat) && decide (b.toNat ≤ 0x5A)

/-- The value of a hexadecimal digit. -/
def hexVal (b : Byte) : Option Nat :=
  let n := b.toNat
  if isDigit b then some (n - 0x30) else if 0x41 ≤ n ∧ n ≤ 0x46 then some (n - 0x37)
  else if 0x61 ≤ n ∧ n ≤ 0x66 then some (n - 0x57) else none

/-- A digit in upper-case hexadecimal. -/
def hexChar (n : Nat) : Byte := BitVec.ofNat 8 (if n < 10 then 0x30 + n else 0x37 + n)

/-- The XOR of characters. -/
def xorAll (l : Bytes) : Nat := l.foldl (fun a b => a ^^^ b.toNat) 0

/-- "*hh" over characters. -/
def starSum (l : Bytes) : Bytes := let x := xorAll l; [0x2A, hexChar (x / 16), hexChar (x % 16)]

/-- The characters of the address field: after the delimiter, up to ",", "*" or CR. -/
def addressOf (l : Bytes) : Bytes := l.tail.takeWhile (fun b => b != 0x2C && b != 0x2A && b != 0x0D)

/-- R340: a "*" and what follows it. -/
def afterStar (l : Bytes) : Bytes := l.dropWhile (· != 0x2A)

/-- R340: well formed. -/
def sentenceOk (l : Bytes) : Bool :=
  let body := l.take (l.length - 2)
  let addr := addressOf l
  let star := afterStar l
  l.drop (l.length - 2) == [0x0D, 0x0A] && body.all (fun b => decide (0x20 ≤ b.toNat) && decide (b.toNat ≤ 0x7E))
    && !addr.isEmpty && decide (addr.length ≤ 15) && addr.all (fun b => isDigit b || isUpper b)
    && (star.isEmpty || (star.length == 5 && (hexVal (star.getD 1 0)).isSome && (hexVal (star.getD 2 0)).isSome && star.getD 3 0 == 0x0D))

/-- R341: the checksum: none where the sentence has none, else whether it is right. -/
def sentenceSum (l : Bytes) : Option Bool :=
  let star := afterStar l
  match hexVal (star.getD 1 0), hexVal (star.getD 2 0) with
  | some h, some k => if star.isEmpty then none else some (16 * h + k == xorAll ((l.takeWhile (· != 0x2A)).tail))
  | _, _ => none

/-- R343: the key. -/
def keyOf (l : Bytes) : Bytes := slice (addressOf l) 0 5

/-- R345: a rule matches a sentence from a port. -/
def Rule.matches (r : Rule) (key : Bytes) (p : Nat) : Bool :=
  r.en && (List.range 5).all (fun i => !r.mask.testBit i || key.getD i 0 == r.key.getD i 0) && r.srcPorts.testBit p

/-! ## Composers (R362) -/

/-- A number in decimal, at least k digits; the first argument is fuel. -/
def decimal : Nat → Nat → Nat → Bytes
  | 0, _, _ => []
  | n + 1, k, v => if v = 0 ∧ k = 0 then [] else decimal n (k - 1) (v / 10) ++ [BitVec.ofNat 8 (0x30 + v % 10)]

/-- R362: a field value with f decimal places. -/
def fieldText (f : Nat) (v : Int) : Bytes :=
  let d := decimal 32 (f + 1) v.natAbs
  (if v < 0 then [0x2D] else []) ++ (if f = 0 then d else d.take (d.length - f) ++ [0x2E] ++ d.drop (d.length - f))

/-- R362: byte i of FMT as decimal places. -/
def Composer.places (c : Composer) (i : Nat) : Nat := min 9 (leAt c.fmt i 1 % 16)

namespace State

/-! ## Queues to ports (R349, R350) -/

def txqOf (s : State) (p : Nat) : List (Nat × Bytes) := (s.hub.txq.lookup p).getD []
def setTxq (s : State) (p : Nat) (l : List (Nat × Bytes)) : State :=
  s.setHub { s.hub with txq := (if l.isEmpty then [] else [(p, l)]) ++ s.hub.txq.filter (fun x => x.1 != p) }

def txqDrop (s : State) : State := (s.bump R.HUB_TXQ_DROP_CNT).raise R.HUB_STATUS 5

/-- R349: the position of the most recently queued sentence of the lowest priority below prio. -/
def victim (l : List (Nat × Bytes)) (prio : Nat) : Option Nat :=
  let low := (l.map (·.1)).foldl min 8
  if low < prio then (List.range l.length).foldl (fun a i => if (l.getD i (0, [])).1 = low then some i else a) none else none

/-- R349: a sentence joins a port's queue. -/
def txqPut (s : State) (p prio : Nat) (l : Bytes) : State :=
  let q := s.txqOf p
  if q.length < 8 then s.setTxq p (q ++ [(prio, l)])
  else match victim q prio with
    | some i => (s.setTxq p (q.eraseIdx i ++ [(prio, l)])).txqDrop
    | none => s.txqDrop

/-- R350: the port is not the hub's. -/
def notHub (s : State) (p : Nat) : Bool := s.uartOwner p != 1 || s.uartInert p

/-- R349, R350: a sentence is queued for destination ports; one too long for a port is left to `tooLong`. -/
def forwardUart (s : State) (ports prio : Nat) (l : Bytes) (tooLong : State → State) : State :=
  ((List.range 64).filter ports.testBit).foldl (fun s p =>
    if s.notHub p then (s.bump R.HUB_OWNER_CNT).raise R.HUB_STATUS 6
    else if s.maxLen p < l.length then tooLong s
    else s.txqPut p prio l) s

/-- R349: the sentence served first: the first of the highest priority. -/
def txqFirst (l : List (Nat × Bytes)) : Option Nat :=
  let top := (l.map (·.1)).foldl max 0
  (List.range l.length).find? (fun i => (l.getD i (0, [])).1 == top)

/-- R349: a queued sentence moves into the port's transmit FIFO when it has room for the whole of it. -/
def txqMove (s : State) (p : Nat) : State :=
  let q := s.txqOf p
  match txqFirst q with
  | none => s
  | some i =>
    let l := (q.getD i (0, [])).2
    let u := s.uartOf p
    if s.notHub p || decide (256 < u.tx.length + l.length) then s
    else (s.setUart p { u with tx := u.tx ++ l.map (·.toNat), idleSeen := false }).setTxq p (q.eraseIdx i)

/-! ## Datagrams (R351) -/

/-- R351: the datagram of a sentence for a group, with the group's line count. -/
def datagram (s : State) (g n : Nat) (l : Bytes) : Bytes :=
  let sfi := beBytes 4 (s.reg (R.HUB_GRPg_SFI_HI g)).toNat ++ beBytes 2 (s.field (R.HUB_GRPg_SFI_LO g) 31 16)
  let tag := [0x73, 0x3A] ++ sfi ++ [0x2C, 0x6E, 0x3A] ++ decimal 8 1 n
  [0x55, 0x64, 0x50, 0x62, 0x43, 0] ++ [0x5C] ++ tag ++ starSum tag ++ [0x5C] ++ l

/-- R351: a sentence goes to one group. -/
def sendGroup (l : Bytes) (s : State) (g : Nat) : State :=
  let c := s.reg (R.HUB_GRPg_CTRL g)
  let port := fld c 29 24
  if !bit c 31 || decide (port < 32) || decide (35 < port) then s
  else
    let n := Sparse.get 0 s.hub.lineCnt g % 999 + 1
    let s := s.setHub { s.hub with lineCnt := Sparse.put 0 s.hub.lineCnt g n }
    if !s.outputsOn then s
    else
      let (v, s) := s.fresh
      let ip := (s.reg (R.HUB_GRPg_IP g)).toNat
      let udp := fld c 15 0
      let pkt := udp4 v (v / 2 ^ 40 % 64) (atLeast1 (fld c 23 16)) (s.reg R.HUB_450_SRC_IP).toNat ip udp udp (s.datagram g n l)
      (s.enqueue port { queue := 2, bytes := s.ether port (groupMac ip) none 0x0800 pkt }).bump R.HUB_450_TX_CNT

def sendGroups (s : State) (groups : Nat) (l : Bytes) : State := ((List.range 8).filter groups.testBit).foldl (sendGroup l) s

/-! ## Log and store (R352, R353) -/

def hubBase (s : State) (lo hi : Nat) : Nat := s.field hi 1 0 * 2 ^ 32 + s.field lo 31 6 * 64

/-- R352: the 288 bytes of an entry. -/
def hubRecord (x : Sentence) (noSum : Bool) (rule prio : Nat) : Bytes :=
  (ts80Of x.time).toLE ++ leBytes 4 x.epoch.toNat ++ leBytes 1 x.port ++ leBytes 1 (2 * b2n (decide (82 < x.chars.length)) + b2n noSum)
    ++ leBytes 2 rule ++ leBytes 1 x.chars.length ++ leBytes 1 prio ++ List.replicate 10 0 ++ slice x.chars 0 256

/-- R352: the log. -/
def hubLog (s : State) (l : Bytes) : State :=
  let head := s.field R.HUB_LOG_HEAD 11 0
  if (head + 1) % 4096 = s.field R.HUB_LOG_TAIL 11 0 then s.raise R.HUB_STATUS 8
  else ((s.wrBytes (s.hubBase R.HUB_LOG_LO R.HUB_LOG_HI + 288 * head) l).setReg R.HUB_LOG_HEAD (w32 ((head + 1) % 4096))).raise R.HUB_STATUS 7

/-- R353: a store entry. -/
def storeAddr (s : State) (i : Nat) : Nat := s.hubBase R.HUB_STORE_LO R.HUB_STORE_HI + 288 * i

/-! ## Selection and passing (R345–R348) -/

/-- R346, R364: a group's holder, and HUB_SELs_STATE. -/
def setHolder (s : State) (g : Nat) (h : Holder) : State :=
  (s.setHub { s.hub with holders := (g, h) :: s.hub.holders.filter (fun x => x.1 != g) }).setReg (R.HUB_SELs_STATE g)
    (w32 (2 ^ 31 + h.port * 2 ^ 24 + h.prio * 65536 + h.rule))

/-- R346: whether the sentence of a pair (rule number, port) is accepted. -/
def select (s : State) (n p : Nat) (r : Rule) (t : Int) : Bool × State :=
  if r.sel = 0 then (true, s)
  else
    let g := r.sel - 1
    let me : Holder := { rule := n, port := p, prio := r.prio, last := t }
    let tmo : Int := (atLeast1 (s.field (R.HUB_SELs_TMO g) 15 0) * 1000000 : Nat) * uNs
    match s.hub.holders.lookup g with
    | none => (true, s.setHolder g me)
    | some h =>
      if h.rule = n ∧ h.port = p then (true, s.setHolder g me)
      else if h.prio < r.prio then (true, (s.setHolder g me).raise R.HUB_STATUS 3)
      else if tmo ≤ t - h.last then (true, ((s.setHolder g me).raise R.HUB_STATUS 4).raise R.HUB_STATUS 3)
      else (false, s.bump R.HUB_SEL_REJ_CNT)

/-- R348: the actions of rule n. -/
def pass (s : State) (x : Sentence) (noSum : Bool) (n : Nat) (r : Rule) : State :=
  let rec_ := hubRecord x noSum n r.prio
  let s := if r.action.testBit 0 then s.forwardUart r.dstPorts r.prio x.chars txqDrop else s
  let s := if r.action.testBit 1 then s.sendGroups r.dstGroups x.chars else s
  let s := if r.action.testBit 2 then
      let s := s.wrBytes (s.storeAddr n) rec_
      if r.sel = 0 then s else s.wrBytes (s.storeAddr (1024 + r.sel - 1)) rec_
    else s
  if r.action.testBit 3 then s.hubLog rec_ else s

/-- R345–R348: an accepted sentence, against the rules that were live at its LF. -/
def accept (s : State) (x : Sentence) (noSum : Bool) : State :=
  let s := s.bump R.HUB_RX_CNT
  let key := keyOf x.chars
  match (List.range x.rules.length).find? (fun i => match x.rules[i]? with
      | some r => r.matches key x.port
      | none => false) with
  | none =>
    let s := s.bump R.HUB_NOMATCH_CNT
    if s.flag R.HUB_CTRL 4 then s.hubLog (hubRecord x noSum 0xFFFF 0) else s
  | some n => match x.rules[n]? with
    | none => s
    | some r =>
      let (ok, s) := s.select n x.port r x.time
      if !ok then s
      else
        let last := s.hub.passed.lookup n
        let early := match last with
          | some t => r.minIvl != 0 && decide (x.time - t < (r.minIvl * 1000000 : Nat) * uNs)
          | none => false
        if early then s.bump R.HUB_RATE_CNT
        else (s.setHub { s.hub with passed := (n, x.time) :: s.hub.passed.filter (fun y => y.1 != n) }).pass x noSum n r

/-- R340, R341: the first complete sentence of a port is checked. -/
def sentence (s : State) (p : Nat) : State :=
  match s.hub.ready.find? (fun x => x.port == p) with
  | none => s
  | some x =>
    let s := s.setHub { s.hub with ready := s.hub.ready.erase x }
    if !sentenceOk x.chars then s.hubDiscard R.HUB_MALFORMED_CNT 0
    else
      let sum := sentenceSum x.chars
      if sum = some false ∨ (sum = none ∧ s.flag (R.HUB_PORTn_CFG p) 0 = true) then s.hubDiscard R.HUB_CKSUM_CNT 1
      else (s.bumpIf (decide (82 < x.chars.length)) R.HUB_LONG_CNT).accept x sum.isNone

/-! ## Tables (R344, R354, R355, R362, R363) -/

/-- A base as the staging copy of group 9 holds it. -/
def shBase (s : State) (lo hi : Nat) : Nat := fld (s.sh hi) 1 0 * 2 ^ 32 + fld (s.sh lo) 31 6 * 64

end State

/-- R344. -/
def Rule.read (e : Bytes) : Rule :=
  { key := slice e 0 5, mask := leAt e 5 1 % 32, en := decide (128 ≤ leAt e 6 1), prio := leAt e 6 1 % 8, action := leAt e 7 1 % 16
    srcPorts := leAt e 8 8, dstPorts := leAt e 16 8, dstGroups := leAt e 24 1, sel := leAt e 25 1, minIvl := leAt e 26 2 }

/-- R362. -/
def Composer.read (e : Bytes) : Composer :=
  { en := decide (128 ≤ leAt e 0 1), prio := leAt e 0 1 % 8, period := atLeast1 (leAt e 2 2), dstGroups := leAt e 4 1
    dstPorts := leAt e 8 8, fmt := slice e 16 16, template := (slice e 32 96).takeWhile (· != 0) }

/-- R355: kinds, flags and formats out of range act as 0. -/
def MapEntry.read (e : Bytes) : MapEntry :=
  let k := leAt e 0 1
  let st := leAt e 1 1 / 64
  let f := leAt e 1 1 % 8
  let d := leAt e 10 1
  { srcKind := if k < 6 then k else 0, stale := if st < 3 then st else 0, fmt := if f < 4 then f else 0, srcA := leAt e 2 2
    srcB := leAt e 4 2, aux0 := leAt e 6 1, aux1 := leAt e 7 1, maxAge := leAt e 8 2, dstKind := if d < 5 then d else 0
    wide := leAt e 11 1 % 2 == 1, dstAddr := leAt e 12 4, a := signed 32 (leAt e 16 4), b := signed 32 (leAt e 20 4)
    lo := signed 32 (leAt e 24 4), hi := signed 32 (leAt e 28 4) }

/-- R354: the first failure of a rule. -/
def Rule.err (r : Rule) : Option Nat :=
  if 64 < r.sel then some 1
  else if (List.range 5).all (fun i => !r.mask.testBit i || isDigit (r.key.getD i 0) || isUpper (r.key.getD i 0)) then none else some 2

/-- R354: a template. Bytes 0x0A and 0x0D, as LF and CR, are not held (so fields 9 and 12 have no marker). -/
def Composer.err (c : Composer) : Option Nat :=
  let ok (b : Byte) : Bool := let n := b.toNat
    ((decide (1 ≤ n) && decide (n ≤ 0x10)) || (decide (0x20 ≤ n) && decide (n ≤ 0x7E))) && n != 0x2A && n != 0x0D && n != 0x0A
  if !c.template.isEmpty && (c.template.getD 0 0 == 0x24 || c.template.getD 0 0 == 0x21) && c.template.all ok then none else some 4

/-- R355: the offset a register source names; the slot of a slot source (its range of 1 to 512 needs bits [9:0]) and WIDE. -/
def MapEntry.regOff (m : MapEntry) : Nat := m.srcA + m.srcB % 1024 * 65536
def MapEntry.slot (m : MapEntry) : Nat := m.srcB % 1024
def MapEntry.srcWide (m : MapEntry) : Bool := decide (32768 ≤ m.srcB)

/-- R356: the windows that a register source may not name. -/
def regExcluded (a : Nat) : Bool :=
  let w := a / 0x10000
  w == 0x18 || w == 0x1A || w == 0x20 || w == 0x01 || w == 0x03 || resolve a == .unmapped

/-- R363: the first failure of an entry. -/
def MapEntry.err (m : MapEntry) : Option Nat :=
  let badSrc := match m.srcKind with
    | 1 => decide (1087 < m.srcA) || decide (m.srcB = 0) || decide (63 < m.srcB) || decide (63 < m.aux0)
    | 2 => decide (4095 < m.srcA) || decide (m.slot = 0) || decide (512 < m.slot)
    | 3 => decide (31 < m.aux0) || decide (32 < m.aux1)
    | 4 => decide (7 < m.srcA)
    | _ => false
  let badDst := match m.dstKind with
    | 1 => decide (4095 < m.dstAddr)
    | 2 => decide (2 ^ 24 ≤ m.dstAddr) || (m.wide && m.dstAddr % 512 == 511)
    | 3 => decide (255 < m.dstAddr)
    | 4 => decide (0x4000 ≤ m.dstAddr) || m.dstAddr / 16 % 16 != 0
    | _ => false
  if badSrc then some 1 else if m.srcKind = 3 ∧ regExcluded m.regOff = true then some 2 else if badDst then some 3
  else if m.hi < m.lo then some 4 else none

/-- The first failure in a list, with its index. -/
def firstErr {α : Type} (f : α → Option Nat) (l : List α) : Option (Nat × Nat) :=
  ((List.range l.length).zip l).findSome? (fun x => (f x.2).map (fun c => (c, x.1)))

/-- A table of n entries of k bytes. -/
def entriesOf (k : Nat) (l : Bytes) : Nat → List Bytes
  | 0 => []
  | n + 1 => slice l 0 k :: entriesOf k (l.drop k) n

namespace State

/-- R354: at a strobe of group 9 the tables are copied from where its staging copy names them. -/
def hubStrobe (s : State) : State :=
  let rb := s.shBase R.HUB_RULE_LO R.HUB_RULE_HI
  let cb := s.shBase R.HUB_COMP_LO R.HUB_COMP_HI
  let mb := s.shBase R.SIGMAP_BASE_LO R.SIGMAP_BASE_HI
  let rn := min 1024 (fld (s.sh R.HUB_RULE_COUNT) 10 0)
  let cn := min 64 (fld (s.sh R.HUB_COMP_COUNT) 6 0)
  let mn := min 4096 (fld (s.sh R.SIGMAP_COUNT) 12 0)
  let rl := s.rdBytes rb (64 * rn)
  let cl := s.rdBytes cb (128 * cn)
  let ml := s.rdBytes mb (32 * mn)
  let rules := (entriesOf 64 rl rn).map Rule.read
  let comps := (entriesOf 128 cl cn).map Composer.read
  let maps := (entriesOf 32 ml mn).map MapEntry.read
  let ruleErr := if fwBase < rb + 64 * rn ∨ fwBase < cb + 128 * cn then some (3, 0xFFFF)
    else match firstErr Rule.err rules with
      | some x => some x
      | none => firstErr Composer.err comps
  let mapErr := if fwBase < mb + 32 * mn then some (5, 0xFFFF) else firstErr MapEntry.err maps
  s.setHub { s.hub with next := some {
    bank := { rules := rules, comps := comps, entries := maps, ruleBytes := rl, compBytes := cl, mapBytes := ml }
    ruleErr := ruleErr, mapErr := mapErr } }

/-- R354, R363: the copies finish and are validated. -/
def hubCopyDone (s : State) : State :=
  match s.hub.next with
  | none => s
  | some n =>
    let s := s.setHub { s.hub with next := some { n with copied := true } }
    let s := match n.ruleErr with
      | some (c, i) => (s.setReg R.HUB_RULE_ERR (w32 (i * 65536 + c))).raise R.HUB_STATUS 9
      | none => s
    match n.mapErr with
    | some (c, i) => (s.setReg R.SIGMAP_ERR (w32 (i * 65536 + c))).raise R.SIGMAP_STATUS 3
    | none => s

/-- R354: whether group 9 may be applied; the late bits of a copy that has not finished. -/
def hubCheck (s : State) : Bool × State :=
  match s.hub.next with
  | none => (true, s)
  | some n =>
    if !n.copied then (false, (s.raise R.HUB_STATUS 10).raise R.SIGMAP_STATUS 4)
    else (n.ruleErr.isNone && n.mapErr.isNone, s)

/-- R354: group 9 is applied; what the last pass found stays readable (R365). -/
def hubApply (s : State) : State :=
  match s.hub.next with
  | none => s
  | some n =>
    let s := s.hub.holders.foldl (fun s x => s.setReg (R.HUB_SELs_STATE x.1) 0) s
    s.setHub { s.hub with live := n.bank, next := none, holders := [], passed := [], fields := [] }

/-! ## Composers (R362) -/

/-- The sentence of composer number c. -/
def compose (s : State) (c : Nat) (x : Composer) : Bytes :=
  let body := x.template.flatMap (fun b =>
    if 1 ≤ b.toNat ∧ b.toNat ≤ 16 then (match s.hub.fields.lookup (16 * c + b.toNat - 1) with
      | some v => fieldText (x.places (b.toNat - 1)) v
      | none => []) else [b])
  body ++ starSum body.tail ++ [0x0D, 0x0A]

/-- R362: the composers of the boundary that starts epoch e. A sentence too long for a port is a drop (R350) and sets COMP_LONG. -/
def composers (s : State) (e : Epoch) : State :=
  if !s.hubEn then s
  else ((List.range s.hub.live.comps.length).zip s.hub.live.comps).foldl (fun s y =>
    let x := y.2
    if x.en && e.toNat % x.period == 0 then
      let l := s.compose y.1 x
      ((s.forwardUart x.dstPorts x.prio l (fun s => s.txqDrop.raise R.HUB_STATUS 11)).sendGroups x.dstGroups l).bump R.HUB_COMP_TX_CNT
    else s) s

end State

/-! ## Meanings -/

def execSentenceComplete (port : Nat) (s : State) : Host.Outcome State Fault Refusal := onMain s (·.sentence port)

def execHubTxqMove (port : Nat) (s : State) : Host.Outcome State Fault Refusal := onMain s (·.txqMove port)

def execRuleCopyDone (s : State) : Host.Outcome State Fault Refusal := onMain s (·.hubCopyDone)

end Sys2Proof.Machine
end

