-- ==== Sys2Proof/Machine/Strobe.lean ====
section
/-! DEFINITION. Configuration parity failures (R56–R58), the update strobe and its staging copies (R47–R54), and the application of
update groups: what each group checks before it is applied and what its application does besides copying (R57, R75, R78, R95,
R105, R116, R130, R145, R202, R216, R229, R232, R242, R265, R276, R278, R303, R313, R354, R368, R416, R459, R470, R535). -/

namespace Sys2Proof.Machine

/-! ## Regions of DRAM -/

/-- Regions (base and length) of which two overlap or one reaches the firmware's region; empty ones take no part. -/
def regionsBad (l : List (Nat × Nat)) : Bool :=
  let l := l.filter (fun r => r.2 != 0)
  l.any (fun r => decide (State.fwBase < r.1 + r.2))
    || (indexed l).any (fun a => (indexed l).any (fun b =>
      decide (a.1 < b.1) && decide (a.2.1 < b.2.1 + b.2.2) && decide (b.2.1 < a.2.1 + a.2.2)))

namespace State

/-! ## Parity (R56–R58) -/

/-- R56, R58: the parity check of the word at offset a fails. -/
def parityFail (s : State) (a : Nat) : State :=
  let s := if s.flag R.GLOBAL_STATUS 0 then s else s.setReg R.GLOBAL_PARITY_ADDR (w32 a)
  let s := (s.raise R.GLOBAL_STATUS 0).bump R.GLOBAL_PARITY_CNT
  let act := if inShowBlock a then s.field R.GLOBAL_PARITY_CTRL 3 2 else s.field R.GLOBAL_PARITY_CTRL 1 0
  if act = 0 then s else (s.setBrace { s.brace with parity := true }).unmaskable 2

/-! ## Strobes (R49–R53) -/

/-- R50: the staging copy of a group: its shadow words, and those whose parity fails. -/
def stageOf (s : State) (g : Nat) : List (Nat × Word) × List Nat :=
  (s.shadow.filter (fun x => groupOf x.1 == some g), s.badShadow.filter (fun a => groupOf a == some g))

/-- The groups of a strobe, in ascending order. -/
def groupList (groups : Nat) : List Nat := (List.range 16).filter groups.testBit

/-- R51, R403, R409: pending applications of these groups are replaced; an UPDATE that waited for one ends with ABORTED. -/
def replaceStaged (s : State) (groups : Nat) : State :=
  let s : State := { s with staged := s.staged.filter (fun x => !groups.testBit x.group) }
  (s.cmdsWith (fun c => match c.work with
    | .update g => g &&& groups != 0
    | _ => false)).foldl (fun s x => s.complete x.1 x.2.idx stAborted) s

/-- R478: a strobed group leaves the arm. -/
def leaveArm (s : State) (groups : Nat) : State :=
  match s.sheaf.arm with
  | none => s
  | some a =>
    if a.staged.any (fun x => groups.testBit x.1) then
      let left := (groupList a.groups).filter (fun g => !groups.testBit g)
      let a := { a with groups := (left.map (2 ^ ·)).sum, staged := a.staged.filter (fun x => !groups.testBit x.1) }
      (s.setSheaf { s.sheaf with arm := some a }).raise R.SHEAF_STATUS 7
    else s

/-- R144, R354: what a strobe starts in Kennel and in the hub. -/
def strobeBlocks (s : State) (groups : Nat) : State :=
  let s := if groups.testBit 3 then s.strobeGraph else s
  if groups.testBit 9 then s.hubStrobe else s

/-- R49–R53: a strobe of groups; a HEEL strobe keeps the local time of its arrival. -/
def strobe (s : State) (groups : Nat) (w : When) : State :=
  if groups = 0 then s
  else
    let s := (s.replaceStaged groups).leaveArm groups
    let new := (groupList groups).map (fun g => { group := g, when := w, frc := s.time.frc, copy := (s.stageOf g).1, bad := (s.stageOf g).2 : Staged })
    ({ s with staged := s.staged ++ new }).strobeBlocks groups

/-! ## Checks at application (R57) -/

/-- The value a register takes when a staging copy is applied. -/
def nextVal (s : State) (c : List (Nat × Word)) (a : Nat) : Word := blend (s.reg a) (Sparse.get (resetOf a) c a) (rwbMask a)

/-- A base in [33:lo] of a register pair, as the copy leaves it. -/
def nextBase (s : State) (c : List (Nat × Word)) (loReg hiReg lo : Nat) : Nat :=
  fld (s.nextVal c hiReg) 1 0 * 2 ^ 32 + fld (s.nextVal c loReg) 31 lo * 2 ^ lo

/-- The blocks' own checks: the group must be withheld, with the status bits that say why. -/
def groupBad (s : State) (g : Nat) (c : List (Nat × Word)) : Bool × State :=
  let v := s.nextVal c
  let base := s.nextBase c
  let bad (b : Bool) (a n : Nat) : Bool × State := (b, s.raiseIf b a n)
  match g with
  | 1 => bad (!canvasGeomOk v) R.INGEST_STATUS 0
  | 2 =>
    let at_ := base R.VER_WIN_LO R.VER_WIN_HI 0
    bad (at_ % 64 != 0 || decide (fwBase < at_ + 16 * min 4096 (fld (v R.VER_WIN_COUNT) 12 0))) R.VER_STATUS 6
  | 3 => (match s.kennel.next with
    | some (.good _) => bad (!s.kennel.copied) R.KNL_STATUS 2
    | _ => (true, s))
  | 4 =>
    let n := clampNat 5 8192 (fld (v R.CALIB_BANK_SIZE) 13 0) * 1048576
    bad (regionsBad [(base R.CALIB_BANKA_LO R.CALIB_BANKA_HI 16, n), (base R.CALIB_BANKB_LO R.CALIB_BANKB_HI 16, n)]) R.CALIB_STATUS 8
  | 5 =>
    let n := min 50331648 (fld (v R.PLAN_LED_COUNT) 25 0)
    (regionsBad [(base R.PLAN_LEDTAB_LO R.PLAN_LEDTAB_HI 6, 8 * n), (base R.PLAN_MASK_LO R.PLAN_MASK_HI 6, (n + 7) / 8)], s)
  | 6 =>
    let half := atLeast1 (fld (v R.VCN_STAGE_HALF) 13 0) * 1048576
    let stage := base R.VCN_STAGE_LO R.VCN_STAGE_HI 16
    let noKey := fld (v R.VCN_CTRL) 3 2 != 0 && !s.issued (fld (v R.VCN_AUTH_SLOT) 5 0) 2
    let s := if noKey then s.vcnNoKey else s
    let bad (b : Bool) (a n : Nat) : Bool × State := (b, s.raiseIf b a n)
    bad (regionsBad [(base R.VCN_ROUTE_LO R.VCN_ROUTE_HI 16, 0x100000), (stage, half), (stage + half, half),
      (base R.VCN_LOG_LO R.VCN_LOG_HI 16, 0x40000)] || noKey) R.VCN_STATUS 13
  | 8 =>
    bad (regionsBad [(base R.FIX_EPT_LO R.FIX_EPT_HI 16, 32 * 262144),
      (base R.FIX_OUT_LO R.FIX_OUT_HI 16, 32 * min 32768 (fld (v R.FIX_OUT_COUNT) 16 0)),
      (base R.FIX_IN_LO R.FIX_IN_HI 16, 16 * min 4096 (fld (v R.FIX_IN_COUNT) 12 0)),
      (base R.FIX_SLOT_LO R.FIX_SLOT_HI 16, 100 * 1048576), (base R.FIX_RDM_LO R.FIX_RDM_HI 16, 65536)]) R.FIX_STATUS 11
  | 9 => let (ok, s) := s.hubCheck; (!ok, s)
  | 10 => bad (farBasesBad v) R.FARBR_STATUS 9
  | 12 => bad (decide (fwBase < base R.SHEAF_EXPTAB_LO R.SHEAF_EXPTAB_HI 6 + 0x200000)) R.SHEAF_STATUS 9
  | _ => (false, s)

/-! ## Application -/

/-- The registers that the application of group g writes, from its copy, from what is live off its reset value and from those whose live
parity fails. TIME_FRAME_NUM and _DEN show the pair in effect until a boundary (R95). -/
def groupRegs (s : State) (g : Nat) (c : List (Nat × Word)) : List Nat :=
  ((c ++ s.regs).map (·.1) ++ s.badLive).filter (fun a => groupOf a == some g && rwbMask a != 0 && a != R.TIME_FRAME_NUM && a != R.TIME_FRAME_DEN)

/-- R47, R55: the live values become those of the copy. -/
def loadCopy (s : State) (g : Nat) (c : List (Nat × Word)) : State :=
  (s.groupRegs g c).foldl (fun s a => (s.setReg a (s.nextVal c a)).fixLive a) s

/-- R55: the parity of TIME_FRAME_NUM and _DEN, of which the live words are written anew. -/
def fixPair (s : State) : State := (s.fixLive R.TIME_FRAME_NUM).fixLive R.TIME_FRAME_DEN

/-- R95: the pair of group 0 is held for the next boundary; at a boundary that is the boundary itself. A pair equal to the one in
effect is in effect. -/
def holdPair (s : State) (c : List (Nat × Word)) : State :=
  let p := (fld (Sparse.get (resetOf R.TIME_FRAME_NUM) c R.TIME_FRAME_NUM) 19 0, fld (Sparse.get (resetOf R.TIME_FRAME_DEN) c R.TIME_FRAME_DEN) 19 0)
  if p = (s.time.num, s.time.den) then ({ s with time := { s.time with heldPair := none } } : State).fixPair
  else { s with time := { s.time with heldPair := some p } }

/-- R78: SERVO_EN = 0 puts the servo into FREE. -/
def servoOff (s : State) : State :=
  if s.flag R.TIME_CTRL 3 || s.time.servo == .free then s
  else
    let s := s.raiseIf (s.time.servo == .locked) R.TIME_STATUS 1
    { s with time := { s.time with servo := .free } }

/-- R278: an entry with EN = 1 is not defined. -/
def winBad (s : State) : Bool :=
  let defined := s.definedWins.map Win.w
  (List.range s.winCount).any (fun w => (s.winAt w).en && !defined.contains w)

/-- R145: the strobed graph becomes live, with every FIFO empty; R216: it is checked against the live frame period. -/
def graphLive (s : State) : State :=
  match s.kennel.next with
  | some (.good g) =>
    let s := s.flush
    (s.setKennel { s.kennel with graph := some g, next := none, copied := false }).fitCheck
  | _ => s

/-- R155, R156: an engine that an application disables sleeps no longer; the cycles up to then are counted. -/
def engineStop (old : State) (s : State) (e : Nat) : State :=
  if old.flag (R.REn_CTRL e) 0 && !s.flag (R.REn_CTRL e) 0 && (s.engineOf e).asleep then
    (s.sleepCount e).setEngine e { s.engineOf e with asleep := false }
  else s

/-- What the application of group g does besides copying; `old`: the state before. -/
def groupAction (old s : State) (g : Nat) (c : List (Nat × Word)) : State :=
  match g with
  | 0 =>
    let s := (List.range 8).foldl (hoApply old) (((s.holdPair c).servoOff).applyRateLimit).showDelay
    let s : State := if !old.flag R.TIME_PPS_CTRL 0 && s.flag R.TIME_PPS_CTRL 0
      then { s with time := { s.time with ppsFrc := s.time.frc, ppsGap := false } } else s
    let s : State := if !old.flag R.TIME_REF10M_CTRL 0 && s.flag R.TIME_REF10M_CTRL 0
      then { s with time := { s.time with refEdge := s.time.frc } } else s
    let s : State := if !old.flag R.TIME_LTCI_CTRL 0 && s.flag R.TIME_LTCI_CTRL 0
      then { s with time := { s.time with ltcFrc := s.time.frc, ltcPeriod := 52083333 } } else s
    s.notMaster
  | 1 => (ingestEnable old s).portConflicts
  | 2 => (((s.previewRetry 0).previewRetry 1).raiseIf s.winBad R.VER_STATUS 5).classStart 4
  | 3 => ((List.range 16).foldl (engineStop old) s.graphLive).classStart 1
  | 6 => heelStart old s.vcnApply.notMaster
  | 7 => heelStart old s
  | 8 => (s.fixApply old.fixOut old.syncOn).classStart 4
  | 9 => s.hubApply.classStart 4
  | 10 => s.farApply
  | 11 => macApply old s
  | 12 =>
    let s := s.braceApply old.braceOn
    let s := if !old.braceOn && s.braceOn then s.portConflicts else s
    let s := if s.expBase = old.expBase then s else s.sheafNewBase
    if !old.sheafEn && s.sheafEn then s.sheafStart else s
  | 13 => if old.flag R.WIN_CTRL 0 || !s.flag R.WIN_CTRL 0 then s
    else { s with winnow := { s.winnow with dramAt := s.time.frc, sramAt := s.time.frc, flashAt := s.time.frc } }
  | 15 => if s.flag R.DRAM_CTRL 0 then { s with winnow := { s.winnow with trainInvalid := true } } else s
  | _ => s

/-- R56, R57: one group is applied from its staging copy, or withheld. Answers whether it was applied. -/
def applyGroup (s : State) (g : Nat) (c : List (Nat × Word)) (bad : List Nat) : Bool × State :=
  let s := bad.foldl parityFail s
  let (fault, s) := if bad.isEmpty then s.groupBad g c else (true, s)
  if fault then (false, (s.raise R.GLOBAL_UPD_FAIL g).raise R.GLOBAL_STATUS 4)
  else (true, groupAction s (s.loadCopy g c) g c)

/-- A staging copy under the number of its group. -/
abbrev Stage := Nat × (List (Nat × Word) × List Nat)

/-- R22: a list of staging copies is applied in ascending group number; answers the groups withheld. -/
def applyList (s : State) (l : List Stage) : List Nat × State :=
  (List.range 16).foldl (fun a g => match l.lookup g with
    | none => a
    | some (c, bad) =>
      let (ok, s) := a.2.applyGroup g c bad
      (if ok then a.1 else a.1 ++ [g], s)) ([], s)

/-- R406, R409: UPDATE commands whose groups have been applied or withheld complete; DETAIL is their part of GLOBAL_UPD_FAIL. -/
def updatesDone (s : State) (groups : List Nat) (failed : List Nat) : State :=
  (s.cmdsWith (fun c => match c.work with
    | .update g => groups.any g.testBit
    | _ => false)).foldl (fun s x => match x.2.work with
    | .update g =>
      let bad := failed.any g.testBit
      s.complete x.1 x.2.idx (if bad then stCheckFail else stOk) 0 0 (if bad then g &&& (s.reg R.GLOBAL_UPD_FAIL).toNat else 0)
    | _ => s) s

/-- R49, R54: the staged groups that satisfy p are applied, together with the copies of an arm (R480). Answers the groups withheld. -/
def applyStaged (s : State) (p : Staged → Bool) (arm : List Stage) : List Nat × State :=
  let due := s.staged.filter p
  let s : State := { s with staged := s.staged.filter (fun x => !p x) }
  let (failed, s) := s.applyList (due.map (fun x => (x.group, x.copy, x.bad)) ++ arm)
  (failed, (s.downshiftsEnd).updatesDone (due.map Staged.group) failed)

/-! ## HEEL strobes (R53) -/

/-- R53: T coincides with the next boundary: it lies in the boundary's cycle, or less than 1 ns before its instant. -/
def coincides (s : State) (t : Int) : Bool :=
  decide (s.nextDown - uNs < t) && decide (t ≤ s.nextInstant) || s.frcAt t == s.frcAt s.nextInstant

/-- R53: the T at which a staged HEEL strobe applies, when one is scheduled: the earliest that lies at least 1 µs after its arrival. -/
def heelDue (s : State) (x : Staged) : Option Int := match x.when with
  | .heel at_ => (s.heel.eps.filter (fun e => decide (at_ + 1000 * uNs ≤ e.t))).foldl (fun m e => match m with
      | none => some e.t
      | some t => some (min t e.t)) none
  | _ => none

/-- R53: local time reaches T: the groups strobed for it are applied, except at a T that coincides with a boundary. -/
def heelReached (s : State) : State :=
  let l := (s.staged.filterMap s.heelDue).filter (fun t => !s.coincides t)
  match l with
  | [] => s
  | t0 :: rest =>
    let t := rest.foldl min t0
    let s := s.waitUntil t
    (s.applyStaged (fun x => s.heelDue x == some t) []).2

/-- Step 3 of a boundary: the staged groups that are due there: strobed for the epoch before the boundary's own cycle (R52), or for a T
that coincides with it. -/
def dueAtBoundary (s : State) (x : Staged) : Bool := match x.when with
  | .epoch => decide (x.frc < s.frcAt s.nextInstant)
  | .heel _ => (match s.heelDue x with
    | some t => s.coincides t
    | none => false)
  | .now => false

/-! ## UPDATE (R406) -/

/-- The timing that WHEN selects. -/
def whenOf (s : State) (w : Nat) : When := match w with
  | 0 => .now
  | 1 => .epoch
  | _ => .heel s.lt

/-- R406, R408: opcode UPDATE. In DRAINING one that would wait ends with ABORTED (R403). -/
def opUpdate (s : State) (r : Nat) (c : Cmd) : State :=
  let groups := fld (arg c 0) 15 0
  let w := fld (arg c 1) 1 0
  if w = 3 then s.complete r c.idx stBadAddress
  else if groups = 0 then s.complete r c.idx stOk
  else if w ≠ 0 ∧ s.drains r = true then s.complete r c.idx stAborted
  else (s.strobe groups (s.whenOf w)).startCmd r c.idx (.update groups)

end State

/-! ## Meanings -/

def execUpdateNow (groups : BitVec 16) (s : State) : Host.Outcome State Fault Refusal := onMain s (·.strobe groups.toNat .now)

def execUpdateAtEpoch (groups : BitVec 16) (s : State) : Host.Outcome State Fault Refusal := onMain s (·.strobe groups.toNat .epoch)

def execUpdateAtHeel (groups : BitVec 16) (s : State) : Host.Outcome State Fault Refusal :=
  onMain s (fun s => s.strobe groups.toNat (.heel s.lt))

/-- R49: the strobe is dropped with WDROP; one of no groups has no effect. -/
def execUpdateReservedWhen (groups : BitVec 16) (s : State) : Host.Outcome State Fault Refusal :=
  onMain s (fun s => if groups = 0 then s else s.wdrop .global 0)

def execGroupApplyImmediate (s : State) : Host.Outcome State Fault Refusal :=
  onMain s (fun s => (s.applyStaged (fun x => x.when == .now) []).2)

def execHeelTimeReached (s : State) : Host.Outcome State Fault Refusal := onMain s (·.heelReached)

def execUpdateOp (ring : Nat) (s : State) : Host.Outcome State Fault Refusal :=
  onMain s (fun s => s.runDesc ring 6 (fun s c => s.opUpdate ring c))

end Sys2Proof.Machine
end

