-- ==== Sys2Proof/Machine/SheafArm.lean ====
section
/-! DEFINITION. Coordinated mode changes (R477–R482): the arm, its decision, and what becomes of it. -/

namespace Sys2Proof.Machine

namespace State

/-- R483: SHEAF_STAT[7:0], the status of the last command. -/
def sheafStat (s : State) (st : Nat) : State := s.setField R.SHEAF_STAT 7 0 st

/-- A Sheaf command that came as a descriptor completes. -/
def sheafReply (s : State) (o : Option (Nat × Nat)) (st r0 r1 detail : Nat) : State := match o with
  | some (r, i) => s.complete r i st r0 r1 detail
  | none => s

/-- R479: the targets of an arm. -/
def armTargets (s : State) (tilesOnly : Bool) : List Nat :=
  if tilesOnly then s.expTiles.filter (fun t => s.sheafCheck t && s.sheafState t == 3)
  else s.expTiles.filter s.sheafTarget

/-- R478: the first case that refuses an arm, but for the CALIB COMMIT's own. -/
def armRefused (s : State) (e : Epoch) (g w : Word) : Option Nat :=
  let lead := max 4 (s.field R.SHEAF_MIN_LEAD 7 0)
  let d := (e - s.time.epoch).toNat
  let tilesOnly := bit w 17
  if s.sheaf.arm.isSome then some stConflict
  else if ¬ (lead ≤ d ∧ d < 2 ^ 31) then some stStaleEpoch
  else if g ≠ (if tilesOnly then s.reg R.SHEAF_GEN else s.reg R.SHEAF_GEN + 1) then some stBadAddress
  else if tilesOnly ∧ fld w 16 0 ≠ 0 then some stBadAddress
  else if bit w 16 ∧ s.calib.run.isSome then some stConflict
  else none

/-- R478: an arm for epoch e and generation g, on behalf of descriptor o. -/
def sheafArm (s : State) (e : Epoch) (g w : Word) (o : Option (Nat × Nat)) : State :=
  match s.armRefused e g w with
  | some st =>
    let s := if bit w 16 ∧ s.sheaf.arm.isNone ∧ st = stConflict then s.calibRefuse stConflict none else s
    (s.sheafStat st).sheafReply o st 0 0 0
  | none =>
    let groups := fld w 15 0
    let s := s.replaceStaged groups
    let a : Arm := { epoch := e, gen := g, groups := groups, calib := bit w 16, tilesOnly := bit w 17
                     targets := s.armTargets (bit w 17), staged := (groupList groups).map (fun k => (k, s.stageOf k)), owner := o }
    let s := ((s.setSheaf { s.sheaf with arm := some a }).strobeBlocks groups).setReg R.SHEAF_ACKED 0
    let s := if bit w 16 then (s.setReg R.CALIB_COMMIT_EPOCH e).calibCommit true none else s
    let s := s.sheafStat stOk
    match o with
    | some (r, i) => s.startCmd r i .sheaf
    | none => s

/-- The CALIB COMMIT of an arm ends by CANCEL (R197). -/
def armCalibStop (s : State) (a : Arm) : State := if a.calib then (match s.calib.run with
    | some (.commit _ _) => s.calibStop
    | _ => s) else s

/-- R479: an arm with the targets it has now, and those of them that have acknowledged it. -/
def armNow (s : State) (a : Arm) : Arm :=
  let l := if a.tilesOnly then a.targets else s.armTargets false
  { a with targets := l, acked := a.acked.filter l.contains }

/-- R482: a disarm before the decision. -/
def sheafDisarm (s : State) (o : Option (Nat × Nat)) : State :=
  let s := match s.sheaf.arm with
    | none => s
    | some a =>
      let a := s.armNow a
      ((s.setSheaf { s.sheaf with arm := none, noApply := some a.epoch }).armCalibStop a).sheafReply a.owner stAborted a.acked.length
        (a.targets.length - a.acked.length) 0
  (s.sheafStat stOk).sheafReply o stOk 0 0 0

/-- R482: RECOMPUTE; a descriptor waits for the next publication. While SHEAF_CTRL.EN = 0 nothing is published: NO_RESOURCE
(DESIGN CHOICE). -/
def sheafRecompute (s : State) (o : Option (Nat × Nat)) : State :=
  if !s.sheafEn then (s.sheafStat stNoResource).sheafReply o stNoResource 0 0 0
  else
    let s := s.sheafAll.sheafStat stOk
    match o with
    | some (r, i) => (s.setSheaf { s.sheaf with waiters := s.sheaf.waiters ++ [(r, i)] }).startCmd r i .sheaf
    | none => s

/-- R479, R480: step 1 of the boundary that starts epoch e, after its deliveries: an arm whose epoch has come is decided. A withheld
arm is over. Answers the arm that is to be applied. -/
def sheafDecide (s : State) (e : Epoch) : Option Arm × State :=
  match s.sheaf.arm with
  | none => (none, s)
  | some a =>
    if !reached a.epoch e then (none, s)
    else
      let a := s.armNow a
      let acked := a.acked.length
      let missing := a.targets.length - acked
      let s := (s.setReg R.SHEAF_TARGETS (w32 a.targets.length)).setReg R.SHEAF_ACKED (w32 acked)
      let s := s.setSheaf { s.sheaf with arm := none }
      if missing ≤ s.field R.SHEAF_MAX_MISSING 15 0 then (some a, s)
      else
        let s := s.setSheaf { s.sheaf with noApply := some e }
        let s := ((s.armCalibStop a).bump R.SHEAF_WITHHOLD_CNT).raise R.SHEAF_STATUS 1
        (none, (s.sheafStat stTimeout).sheafReply a.owner stTimeout acked missing 0)

/-- R480: step 3 of the boundary that starts epoch e has applied the groups of arm a; `failed`: the groups withheld; `swaps`: the value
of CALIB_COMMIT_CNT before step 2. -/
def sheafApplied (s : State) (e : Epoch) (a : Arm) (failed : List Nat) (swaps : Word) : State :=
  let mine := failed.filter a.groups.testBit
  let acked := a.acked.length
  let missing := a.targets.length - acked
  if !mine.isEmpty || (a.calib && s.reg R.CALIB_COMMIT_CNT == swaps) then
    let s := ((s.setSheaf { s.sheaf with noApply := some e }).raise R.SHEAF_STATUS 2).sheafStat stCheckFail
    s.sheafReply a.owner stCheckFail acked missing ((mine.map (2 ^ ·)).sum)
  else
    let s := if a.tilesOnly then s
      else ((s.setReg R.SHEAF_GEN a.gen).setSheaf { s.sheaf with expSel := !s.sheaf.expSel }).sheafRejudge
    let carry : Carry := { gen := a.gen, first := a.epoch, left := s.field R.SHEAF_CARRY 3 0 }
    let s := s.setSheaf { s.sheaf with carry := some carry, noApply := s.sheaf.noApply.filter (· != e) }
    let s := ((s.bump R.SHEAF_APPLY_CNT).raise R.SHEAF_STATUS 0).sheafStat stOk
    s.sheafReply a.owner stOk acked missing 0

end State

/-! ## Meanings -/

def execSheafArm (s : State) : Host.Outcome State Fault Refusal :=
  onMain s (fun s => s.sheafArm (s.reg R.SHEAF_ARM_EPOCH) (s.reg R.SHEAF_ARM_GEN) (s.reg R.SHEAF_ARM_GROUPS) none)

def execSheafDisarm (s : State) : Host.Outcome State Fault Refusal := onMain s (·.sheafDisarm none)

def execSheafRecompute (s : State) : Host.Outcome State Fault Refusal := onMain s (·.sheafRecompute none)

def execSheafOpArm (ring : Nat) (s : State) : Host.Outcome State Fault Refusal :=
  onMain s (fun s => s.runDesc ring 0x30 (fun s c => s.sheafArm c.desc.epoch (State.arg c 0) (State.arg c 1) (some (ring, c.idx))))

def execSheafOpDisarm (ring : Nat) (s : State) : Host.Outcome State Fault Refusal :=
  onMain s (fun s => s.runDesc ring 0x31 (fun s c => s.sheafDisarm (some (ring, c.idx))))

def execSheafOpRecompute (ring : Nat) (s : State) : Host.Outcome State Fault Refusal :=
  onMain s (fun s => s.runDesc ring 0x32 (fun s c => s.sheafRecompute (some (ring, c.idx))))

end Sys2Proof.Machine
end

