-- ==== Sys2Proof/Machine/View.lean ====
section
/-! DEFINITION. What the registers read (R42, R45, R47, R54, R69): those that report the state of a block are formed here, the others
read their stored value; an RWB field reads its shadow while RDSHADOW is 1. Each table names its block's registers by their local
offset, in the order of the manual's tables. -/

namespace Sys2Proof.Machine

namespace State

/-! ## Register model and clocks -/

/-- The groups pending with a timing. -/
def pendGroups (s : State) (p : When → Bool) : Nat := ((s.staged.filter (fun x => p x.when)).map (fun x => 2 ^ x.group)).sum

/-- R54: GLOBAL_UPD_PEND. -/
def updPend (s : State) : Word :=
  w32 (65536 * s.pendGroups (fun w => match w with
      | .heel _ => true
      | _ => false) + s.pendGroups (· == .epoch))

/-- R69: GLOBAL_WDROP_SUM (`lock`: GLOBAL_LOCKERR_SUM). -/
def dropSum (s : State) (lock : Bool) : Word :=
  w32 ((blockInstances.map (fun x => if (List.range x.2).any (fun i => let t := x.1.status i
    s.flag t.1 (if lock then t.2.2 else t.2.1)) then 2 ^ x.1.sumBit else 0)).sum)

def viewGlobal (s : State) (l : Nat) : Option Word := match l with
  | 0x014 => some s.updPend
  | 0x030 => some (s.dropSum false)
  | 0x034 => some (s.dropSum true)
  | _ => none

/-- R36: a unit is locked: PLL_MAIN has come up, and the unit has not lost lock since. -/
def unitLocked (s : State) (u : ClockUnit) : Bool := s.power.pllUp && (s.power.lost.lookup u).isNone

/-- R36: lane L's PLL and receive clock recovery, which locks on what a partner sends. -/
def laneLocked (s : State) (n : Nat) : Bool := s.unitLocked (.lane n) && s.unitLocked (.recovery n) && s.power.recovered.contains n

/-- Bits as a number, the first the least significant. -/
def bitsNat (l : List Bool) : Nat := ((indexed l).map (fun b => b2n b.2 * 2 ^ b.1)).sum

def viewClock (s : State) (l : Nat) : Option Word := match l with
  | 0x008 => some (w32 (bitsNat [s.unitLocked .main, s.power.pllUp && (List.range 32).all (fun n => !s.macEn n || s.unitLocked (.lane n)),
      s.unitLocked .phy, s.unitLocked .pcie, s.unitLocked (.displayPort 0), s.unitLocked (.displayPort 1)]))
  | 0x00C => some (w32 (bitsNat ((List.range 32).map s.laneLocked)))
  | _ => none

/-! ## Show time -/

/-- One of the three words of a local time in TS80 form: 0 nanoseconds, 1 seconds [31:0], 2 seconds [47:32]. -/
def tsWord (t : Int) (i : Nat) : Word :=
  let v := ts80Of t
  match i with
  | 0 => w32 v.ns
  | 1 => w32 v.sec
  | _ => w32 (v.sec / 2 ^ 32)

/-- R99: TIME_HOn_STAT. -/
def hoStat (s : State) (n : Nat) : Word := let p := s.hoOf n; w32 (65536 * p.lateCnt + p.queue.length)

/-- R86: TIME_TSQ_STAT: the two VALID bits as kept, and the counts of the selected port. -/
def tsqStat (s : State) : Word :=
  let p := s.field R.TIME_TSQ_SEL 5 0
  let q : Tsq := if p < 37 then s.tsqOf p else {}
  w32 (65536 * q.entries.length + 256 * q.lost.length) ||| (s.reg R.TIME_TSQ_STAT &&& 3)

def viewTime (s : State) (l : Nat) : Option Word := match l with
  | 0x008 => some (w32 (256 * s.time.inThresh + (match s.time.servo with
      | .free => 0
      | .acquire => 1
      | .locked => 2
      | .holdover => 3)))
  | 0x010 => some (w32 s.time.frc)
  | 0x014 => some (w32 (s.time.frc / 2 ^ 32))
  | 0x018 => some (tsWord s.lt 0)
  | 0x01C => some (tsWord s.lt 1)
  | 0x020 => some (tsWord s.lt 2)
  | 0x024 => some (w32 (s.lt % uNs).toNat)
  | 0x030 => some (i32 s.time.rate)
  | 0x034 => some (i32 (s.time.rate / 2 ^ 32))
  | 0x084 => some (w32 s.time.den)
  | 0x088 => some (w32 s.time.num)
  | 0x08C => some s.time.epoch
  | 0x094 => some (tsWord s.nextDown 0)
  | 0x098 => some (tsWord s.nextDown 1)
  | 0x09C => some (tsWord s.nextDown 2)
  | 0x108 => some s.tsqStat
  | 0x124 => some (if s.field R.TIME_TSQ_SEL 5 0 < 37 then (s.tsqOf (s.field R.TIME_TSQ_SEL 5 0)).lostCnt else 0)
  | _ => if 0x400 ≤ l ∧ l < 0x500 ∧ l % 0x20 = 0x1C then some (s.hoStat ((l - 0x400) / 0x20)) else none

/-! ## Raster and previews -/

/-- RASTER_POS: the next active pixel of the running frame (DESIGN CHOICE: the manual does not say how blanking counts). -/
def rasterPos (s : State) : Word := let r := s.ingest.raster; if r.run then w32 (65536 * r.line + r.col) else 0

/-- R130: PVn_LINK. -/
def pvLink (s : State) (n : Nat) : Word :=
  let lanes := if s.trainedOf n then Sparse.get 0 s.ingest.lanes n else 0
  w32 (16 * lanes + 2 * b2n (s.trainedOf n) + b2n (s.hpdOf n))

/-- R126: RASTER_HOLD_CYC with the cycles of a hold that lasts. -/
def holdCyc (s : State) : Word := (match s.ingest.raster.hold with
  | some t => s.count R.RASTER_HOLD_CYC ((s.time.frc - t) / 2)
  | none => s).reg R.RASTER_HOLD_CYC

def viewRaster (s : State) (l : Nat) : Option Word := match l with
  | 0x020 => some s.holdCyc
  | 0x02C => some s.rasterPos
  | 0x11C => some (s.pvLink 0)
  | 0x19C => some (s.pvLink 1)
  | _ => none

/-! ## Kennel and engines -/

/-- Ready grains of a priority. -/
def readyAt (s : State) (p : Nat) : Nat := match s.kennel.graph with
  | none => 0
  | some g => (s.kennel.ready.filter (fun x => (g.nodes[x.node]?).any (fun n => n.prio == p))).length

/-- R157: KNL_FLOWq_STAT: the ordered node of flow q. -/
def flowStat (s : State) (q : Nat) : Word := match s.flowNode q with
  | none => 0
  | some n => let r := s.nodeRun n.1; w32 (65536 * (r.formed - r.released) + r.formed % 65536)

/-- R178: KNL_FIFOf_FULL_CYC with the cycles of a FIFO that is full. -/
def fullCyc (s : State) (f : Nat) : Word := (match (s.fifoOf f).fullSince with
  | some t => s.count (R.KNL_FIFOf_FULL_CYC f) (s.time.frc - t)
  | none => s).reg (R.KNL_FIFOf_FULL_CYC f)

/-- R157: KNL_FLOWq_HOLD_CYC with the cycles of grains that wait. -/
def holdFlow (s : State) (q : Nat) : Word := (match s.flowNode q with
  | some n => s.count (R.KNL_FLOWq_HOLD_CYC q) (s.holdSum n.1)
  | none => s).reg (R.KNL_FLOWq_HOLD_CYC q)

def viewKennel (s : State) (l : Nat) : Option Word :=
  if l = 0x1C then some ((s.kennel.graph.map Graph.gen).getD 0)
  else if l = 0x34 then some (w32 (65536 * s.kennel.mostInFlight + s.inFlight))
  else if 0x40 ≤ l ∧ l < 0x50 then some (w32 (s.readyAt ((l - 0x40) / 4)))
  else if l = 0x94 then some (s.param (s.field R.KNL_PARAM_IDX 11 0))
  else if 0x1000 ≤ l ∧ l < 0x2000 ∧ l % 16 = 0 then some (w32 (fifoLevel (s.fifoOf ((l - 0x1000) / 16))))
  else if 0x1000 ≤ l ∧ l < 0x2000 ∧ l % 16 = 8 then some (s.fullCyc ((l - 0x1000) / 16))
  else if 0x2000 ≤ l ∧ l < 0x2400 ∧ l % 16 = 0 then some (s.flowStat ((l - 0x2000) / 16))
  else if 0x2000 ≤ l ∧ l < 0x2400 ∧ l % 16 = 4 then some (s.holdFlow ((l - 0x2000) / 16))
  else none

/-- REn_STATE. A running engine reads 3 while an input of its grain is not whole (DESIGN CHOICE, log entry 12); one that neither runs
nor sleeps reads 0. -/
def engineState (s : State) (e : Nat) : Word :=
  let x := s.engineOf e
  let st := match x.running with
    | some g => if (s.grainRecs g).isNone then 3 else 2
    | none => b2n (x.asleep && s.flag (R.REn_CTRL e) 0)
  w32 (65536 * x.lastNode.getD 0 + st)

/-- R155: REn_SLEEP_CYC with the cycles of a sleep that lasts. -/
def viewEngine (s : State) (e l : Nat) : Option Word := match l with
  | 0x00C => some (s.engineState e)
  | 0x014 => some ((s.sleepCount e).reg (R.REn_SLEEP_CYC e))
  | _ => none

/-! ## Calibration and plans -/

/-- The tile that CALIB_TSEL selects, with its entry in the live bank. -/
def tselTile (s : State) : Nat × Option TileCal :=
  let t := s.field R.CALIB_TSEL 14 0
  (t, s.liveBank.map (fun b => s.tileAt b t))

/-- CALIB_TEMP. -/
def calibTemp (s : State) : Word :=
  let (t, e) := s.tselTile
  let used : Int := match e with
    | some e => s.usedTemp t e
    | none => 0
  let last : Int := match s.calib.report.lookup t with
    | some r => r.1
    | none => 0
  w32 ((used % 65536).toNat * 65536 + (last % 65536).toNat)

/-- The age of the latest report, for CALIB_TGAIN2. -/
def reportAge (s : State) : Nat :=
  let (t, e) := s.tselTile
  if e.isNone || !s.calib.since.contains t then 0xFFFF
  else match s.calib.report.lookup t with
    | some r => min 0xFFFF (s.time.epoch - r.2).toNat
    | none => 0xFFFF

/-- R201: CALIB_SC_PEND. -/
def scPending (s : State) : Word := w32 (bitsNat ((List.range 4).map (fun c => !(s.scOf c).isEmpty)))

def viewCalib (s : State) (l : Nat) : Option Word :=
  let z := s.field R.CALIB_ZSEL 7 0
  let t := s.field R.CALIB_TSEL 14 0
  let sum := Sparse.get 0 s.calib.lastSum z
  match l with
  | 0x1C => some (w32 (8 * b2n s.calib.valid + 4 * b2n (s.calib.run == some .copy) + 2 * b2n (match s.calib.run with
      | some (.commit _ _) => true
      | _ => false) + b2n s.calib.bankB))
  | 0x4C => some (w32 sum)
  | 0x50 => some (w32 (sum / 2 ^ 32 % 65536))
  | 0x58 => some s.calibTemp
  | 0x5C => some (w32 ((s.tileGain t).2.1 * 65536 + (s.tileGain t).1))
  | 0x60 => some (w32 (s.reportAge * 65536 + (s.tileGain t).2.2))
  | 0x84 => some s.scPending
  | _ =>
    if 0x800 ≤ l ∧ l < 0xC00 then some (w32 (s.powerOf ((l - 0x800) / 4)))
    else if 0xC00 ≤ l ∧ l < 0x1000 then
      let i := (l - 0xC00) / 4
      some (w32 (2 ^ 31 * b2n (s.calib.safeStale.contains i) + s.safeOf i))
    else none

/-- The layout that PLAN_TSUB_SEL names in the live graph. -/
def tsubLayout (s : State) : Option Layout :=
  match s.kennel.graph with
  | none => none
  | some g => match (packNodes g)[s.field R.PLAN_TSUB_SEL 15 8]? with
    | none => none
    | some n =>
      let i := s.field R.PLAN_TSUB_SEL 3 0
      if i < n.2.f 0x18 1 then some (Layout.read (n.2.table g.table) i) else none

def viewPlan (s : State) (l : Nat) : Option Word := match l with
  | 0x60 => some (w32 s.ledFaults)
  | 0x64 => some (w32 s.ledUnmeas)
  | 0x38 => some (w32 ((s.tsubLayout.map Layout.subMax).getD 0))
  | 0x3C => some (w32 ((s.tsubLayout.map (fun y => y.subLimit s.time.num s.time.den)).getD 0))
  | _ => none

/-! ## Ports, hub, host, interrupts -/

/-- R60: a BUSY bit. -/
def busyBit (s : State) (k : Nat) : Nat := b2n (s.posted.lookup k).isSome

def viewUart (s : State) (p l : Nat) : Option Word :=
  let u := s.uartOf p
  match l with
  | 0x14 => some (match (if s.uartOwner p = 0 ∧ s.uartInert p = false then u.rx else []) with
      | x :: _ => w32 x.1
      | [] => 0x10000)
  | 0x18 => some (s.uartLsr p)
  | 0x20 => some (w32 (2 ^ 31 * s.busyBit (canon .uart p 0) + 65536 * u.tx.length + u.rx.length))
  | _ => none

def viewHub (s : State) (l : Nat) : Option Word := if l = 8 then some (w32 (s.busyBit (canon .hub 0 0))) else none

/-- R365: the result of the selected entry. -/
def viewSigmap (s : State) (l : Nat) : Option Word :=
  let r : MapResult := (s.hub.results.lookup (s.field R.SIGMAP_SEL 11 0)).getD {}
  match l with
  | 0x34 => some (i32 r.x)
  | 0x38 => some (i32 (r.x / 2 ^ 32))
  | 0x3C => some (i32 r.v)
  | 0x40 => some (w32 (65536 * min 65535 r.age + r.state))
  | _ => none

/-- R390: MACn_LINK. -/
def macLink (s : State) (n : Nat) : Word :=
  let m := s.macOf n
  w32 (1024 * m.pauseAdv + 256 * m.fec + 128 * b2n m.anDone + 16 * m.speed + 8 * b2n m.downshifted + 4 * b2n m.block + b2n m.up)

def viewMac (s : State) (n l : Nat) : Option Word := match l with
  | 0x008 => some (s.macLink n)
  | 0x04C => some (w32 (256 * b2n (s.leashHolds n) + bitsNat ((List.range 8).map (s.isPaused n))))
  | 0x084 => some (w32 (16 * b2n (s.preemptActive n) + (s.macOf n).verify))
  | _ => none

/-- HOST_RINGr_STAT and the ring's registers that follow it. -/
def viewRing (s : State) (r o : Nat) : Option Word :=
  let x := s.ringOf r
  match o with
  | 0x14 => some (w32 (2 ^ 24 * x.err + 65536 * (match x.state with
      | .disabled => 0
      | .running => 1
      | .stopped => 2
      | .draining => 3) + x.fetch))
  | 0x18 => some (w32 x.cplTail)
  | _ => none

def viewHost (s : State) (l : Nat) : Option Word :=
  if l = 8 then some (if s.host.up then w32 (256 * s.host.width + 16 * s.host.gen + 1) else 0)
  else if 0x400 ≤ l ∧ l < 0xC00 then s.viewRing ((l - 0x400) / 0x20) (l % 0x20)
  else if 0xE00 ≤ l ∧ l < 0xE20 then some (bitWord s.host.pba.contains ((l - 0xE00) / 4))
  else none

/-- R429: FARBR_WINw_STAT: the pieces of the window's operations that have no answer yet, and whether its buffer is held. -/
def farWinStat (s : State) (w : Nat) : Word :=
  let n := ((s.far.ops.filter (fun o => o.win == w && !o.posted)).map (fun o =>
    (o.pieces.filter (fun p => p.sentAt.isSome && p.res.isNone)).length)).sum
  w32 (65536 * b2n (s.far.bufs.lookup w).isSome + n)

def viewFar (s : State) (l : Nat) : Option Word :=
  if l = 0x38 then some (w32 s.farInflight)
  else if 0x1000 ≤ l ∧ l < 0x2000 ∧ l % 0x20 = 0x10 then some (s.farWinStat ((l - 0x1000) / 0x20))
  else none

/-- R436: the status registers of core c. -/
def viewCore (s : State) (c o : Nat) : Option Word :=
  let x := s.coreOf c
  match o with
  | 0x08 => some (w32 (512 * b2n x.ie + 256 * b2n (s.coreIdle c) + s.rp c))
  | 0x0C => some (w32 (65536 * b2n (x.insvc.any (fun e => e.2.1))
      + ((List.range 16).map (fun p => if 0 < p && x.insvc.any (fun e => !e.2.1 && e.2.2 == p) then 2 ^ p else 0)).sum))
  | 0x10 => some (match x.insvc with
      | (k, _, _) :: _ => w32 (2 ^ 31 + k)
      | [] => 0)
  | _ => none

def viewIntc (s : State) (l : Nat) : Option Word :=
  if l < 0x2000 then some (s.srcCfg (l / 4))
  else if l < 0x2100 then some (bitWord s.isPend ((l - 0x2000) / 4))
  else if l < 0x2200 then some (bitWord s.isMasked ((l - 0x2100) / 4))
  else if l < 0x2300 then some (bitWord s.level ((l - 0x2200) / 4))
  else if l = 0x300C then some (w32 s.intc.rr)
  else if 0x3100 ≤ l ∧ l < 0x3200 then s.viewCore ((l - 0x3100) / 0x40) (l % 0x40)
  else none

/-! ## Brace, Sheaf, security, update, power -/

/-- R467: BRACE_STATE. -/
def braceWord (s : State) : Word :=
  let heard := match s.brace.heard with
    | some e => decide ((s.time.epoch - e).toNat ≤ s.braceMiss)
    | none => false
  w32 (65536 * s.brace.cause + 256 * b2n heard + (match s.brace.state with
    | .off => 0
    | .seek => 1
    | .sync => 2
    | .standby => 3
    | .active => 4
    | .released => 5))

def viewBrace (s : State) (l : Nat) : Option Word := match l with
  | 0x08 => some s.braceWord
  | 0x38 => some (w32 s.healthWord)
  | 0x48 => some (w32 (bitsNat [s.brace.state == .active, s.brace.sb1, s.brace.sb2, s.brace.sb3]))
  | _ => none

/-- Word w of a 256-bit digest, its first byte the most significant. -/
def digestWord (d w : Nat) : Word := w32 (d / 2 ^ (32 * (7 - w)))

def viewSheaf (s : State) (l : Nat) : Option Word :=
  if l = 0x38 then some (w32 (65536 * b2n s.sheaf.expSel + 256 * b2n s.sheaf.arm.isSome + s.field R.SHEAF_STAT 7 0))
  else if l = 0x40 then some (match s.sheaf.arm with
    | some a => w32 a.acked.length
    | none => s.reg R.SHEAF_ACKED)
  else if l = 0x48 then some (w32 (bitsNat ((List.range 5).map (fun c => (s.sheaf.busy.lookup c).isSome))))
  else if 0x50 ≤ l ∧ l < 0x70 then some (digestWord s.sheaf.published ((l - 0x50) / 4))
  else if 0x70 ≤ l ∧ l < 0x90 then some (digestWord (Sparse.get 0 s.sheaf.cls s.classSel) ((l - 0x70) / 4))
  else match l with
    | 0x90 => some (w32 (s.sheafCount 1))
    | 0x94 => some (w32 (s.sheafCount 2))
    | 0x98 => some (w32 (s.sheafCount 3))
    | 0x9C => some (w32 (s.sheafCount 4))
    | 0xA0 => some (w32 (s.sheafCount 0))
    | _ => none

def viewSec (s : State) (l : Nat) : Option Word := match l with
  | 0x008 => some (w32 (65536 * s.sec.restored + s.secState))
  | 0x00C => some (w32 (bitsNat [s.sec.dbgFuse, s.sec.enrolled, s.sec.inPlace]))
  | 0x014 => some (s.slotAttr (s.field R.SEC_SLOT_SEL 5 0))
  | 0x018 => some (bitWord (fun n => (s.slotAt n).isSome) 0)
  | 0x01C => some (bitWord (fun n => (s.slotAt n).isSome) 1)
  | 0x80C => some (bitWord s.sec.raw.contains 0)
  | 0x824 => some (w32 (s.busyBit (canon .sec 0 0x800)))
  | _ => none

/-- R517, R527: UPD_STATE. -/
def updWord (s : State) : Word := w32 (1024 * b2n s.sec.inPlace + 512 * b2n s.upd.trial.isSome + 256 * b2n s.upd.bootB + s.updCode)

def viewUpd (s : State) (l : Nat) : Option Word := match l with
  | 0x08 => some s.updWord
  | 0x20 => some (w32 ((s.upd.session.map UpdSession.id).getD 0))
  | 0x24 => some (w32 ((s.upd.session.map (fun x => x.held.length)).getD 0))
  | 0x3C => some (w32 s.upd.secver)
  | 0x40 => some (match s.upd.trial with
      | some t => w32 (min 4095 ((t - s.time.frc + 1249999999) / 1250000000))
      | none => 0)
  | _ => none

/-- The word of a pattern filter that SBY_PF_IDX selects; 36–63 select nothing. -/
def patternWord (s : State) : Word :=
  let w := s.field R.SBY_PF_IDX 5 0
  if w < 36 then Sparse.get 0 s.power.pattern (64 * s.field R.SBY_PF_IDX 8 6 + w) else 0

def viewPower (s : State) (l : Nat) : Option Word := match l with
  | 0x004 => some (w32 (256 * b2n s.power.ready + 16 * b2n (s.power.request.isSome || s.power.entering) + b2n s.power.inShow))
  | 0x808 => some (w32 s.rtcNow)
  | 0x818 => some s.patternWord
  | 0x81C => some (w32 (s.busyBit (canon .power 0 0x800)))
  | _ => none

def viewDram (s : State) (l : Nat) : Option Word :=
  if l = 0x18 then some ((s.reg R.DRAM_TRAIN_STAT &&& 2) ||| w32 (b2n (s.winnow.train.isSome && !s.winnow.trainInvalid))) else none

def viewPins (s : State) (l : Nat) : Option Word := match l with
  | 0x40 => some (bitWord s.ballLevel 0)
  | 0x44 => some (bitWord s.ballLevel 1)
  | _ => none

/-! ## Reads -/

/-- A register that is formed when read. -/
def viewOf (s : State) (b : Block) (i l : Nat) : Option Word := match b with
  | .global => s.viewGlobal l
  | .clock => s.viewClock l
  | .power => s.viewPower l
  | .intc => s.viewIntc l
  | .time => s.viewTime l
  | .host => s.viewHost l
  | .kennel => s.viewKennel l
  | .engine => s.viewEngine i l
  | .raster => s.viewRaster l
  | .calib => s.viewCalib l
  | .plan => s.viewPlan l
  | .mac => s.viewMac i l
  | .uart => s.viewUart i l
  | .hub => s.viewHub l
  | .sigmap => s.viewSigmap l
  | .farbr => s.viewFar l
  | .brace => s.viewBrace l
  | .sheaf => s.viewSheaf l
  | .check => if l = 0x1C then some (w32 (s.checkResult i)) else none
  | .sec => s.viewSec l
  | .upd => s.viewUpd l
  | .dram => s.viewDram l
  | .pins => s.viewPins l
  | .ingestRx | .ingest | .vocon | .heel | .fixture | .winnow => none

/-- R4, R45, R47: the word at a BAR0 offset, without any read side effect. -/
def readWord (s : State) (offset : Nat) : Word := match resolve offset with
  | .at b i l =>
    (match rowAt b i l with
     | none => 0
     | some _ =>
       let a := canon b i l
       let live := (s.viewOf b i l).getD (s.reg a)
       if s.flag R.GLOBAL_CTRL 0 then blend live (s.sh a) (rwbMask a) else live)
  | _ => 0

/-- R42: a read of k bytes, fewer than 4: the addressed bytes of the word. -/
def readPart (s : State) (offset k : Nat) : Nat := (s.readWord offset).toNat / 256 ^ (offset % 4) % 256 ^ k

/-- R45: an access to a range that belongs to no block. -/
def unmapped (s : State) (offset : Nat) : State :=
  let s := if s.flag R.GLOBAL_STATUS 1 then s else s.setReg R.GLOBAL_UNMAPPED_ADDR (w32 offset)
  s.raise R.GLOBAL_STATUS 1

/-- R178, R179: the running and stalled cycles of the engines up to now are in their counters before one of those is accessed. -/
def liveCycles (s : State) (b : Block) (i l : Nat) : State := match b with
  | .engine => if l = 0x10 ∨ l = 0x18 then s.countRun i else s
  | .kennel => if 0x1000 ≤ l ∧ l < 0x2000 ∧ l % 16 = 12 then (List.range 16).foldl countRun s else s
  | _ => s

/-- R42, R45: a read of the word at a BAR0 offset, with its read side effects. The word is left in `bus`. -/
def busRead (s : State) (offset : Nat) : State := match resolve offset with
  | .unmapped => { s.unmapped offset with bus := 0 }
  | .at .uart p 0x14 => s.uartRead p
  | .at .uart p 0x18 => s.uartReadLsr p
  | .at .mac n l => if 0x400 ≤ l ∧ l < 0x500 then s.macStatRead n ((l - 0x400) / 4) else { s with bus := s.readWord offset }
  | .at b i l => let s := s.liveCycles b i l; { s with bus := s.readWord offset }
  | _ => { s with bus := s.readWord offset }

end State

end Sys2Proof.Machine
end

