-- ==== Sys2Proof/Machine/Sigmap.lean ====
section
/-! DEFINITION. The Signal Map's pass (R356–R361): sources, formats, staleness, scaling and destinations. -/

namespace Sys2Proof.Machine

/-! ## Fields and formats (R356, R357) -/

/-- R356: the fields of a sentence: its text up to "*" or CR, cut at the commas. -/
def fieldsOf (l : Bytes) : List Bytes :=
  (l.takeWhile (fun b => b != 0x2A && b != 0x0D)).foldr (fun b acc => match acc with
    | [] => if b = 0x2C then [[], []] else [[b]]
    | x :: t => if b = 0x2C then [] :: x :: t else (b :: x) :: t) [[]]

/-- The digits of a text as a number. -/
def digitsVal (l : Bytes) : Nat := l.foldl (fun a b => 10 * a + (b.toNat - 0x30)) 0

/-- R357: digits, "." and digits, at least one digit: the integer part and the first nine fractional digits. -/
def decimalParts (l : Bytes) : Option (Nat × Nat) :=
  let a := l.takeWhile isDigit
  let r := l.drop a.length
  let f := r.tail
  if r.isEmpty then (if a.isEmpty then none else some (digitsVal a, 0))
  else if r.head? = some 0x2E ∧ f.all isDigit = true ∧ (a.isEmpty && f.isEmpty) = false then
    some (digitsVal a, digitsVal (f.take 9) * 10 ^ (9 - (f.take 9).length))
  else none

/-- n / d in units of 2⁻¹⁶, to the nearest, halves up. -/
def unit16 (n d : Nat) : Nat := (2 * 65536 * n + d) / (2 * d)

/-- R357: a field by its format. -/
def parseField (fmt : Nat) (l : Bytes) : Option Int :=
  match fmt with
  | 1 => (l.head?).map (fun b => (b.toNat * 65536 : Nat))
  | 2 =>
    if l.isEmpty || decide (8 < l.length) then none
    else (l.foldl (fun a b => match a, hexVal b with
      | some v, some d => some (16 * v + d)
      | _, _ => none) (some 0)).map (fun v => ((v * 65536 : Nat) : Int))
  | 3 => match decimalParts l with
    | some (i, f) => if i ≤ 2147483647 ∧ i % 100 < 60 then some ((unit16 (i / 100 * 60000000000 + i % 100 * 1000000000 + f) 60000000000 : Nat) : Int) else none
    | none => none
  | _ =>
    let neg := l.head? = some 0x2D
    let body := if neg ∨ l.head? = some 0x2B then l.tail else l
    match decimalParts body with
    | some (i, f) =>
      if i ≤ 2147483647 then
        let v : Int := (unit16 (i * 1000000000 + f) 1000000000 : Nat)
        some (if neg then -v else v)
      else none
    | none => none

namespace State

/-! ## Sources (R356, R358) -/

/-- R356: a sentence source: the field of the store entry; an entry whose LEN is 0 is empty (DEDUCED). -/
def sentenceSource (s : State) (m : MapEntry) : Option Int :=
  let a := s.storeAddr m.srcA
  let n := s.rdLE (a + 0x14) 1
  if n = 0 then none
  else
    let l := fieldsOf (s.rdBytes (a + 0x20) n)
    let gate := m.aux0 == 0 || (match l[m.aux0]? with
      | some (c :: _) => c.toNat == m.aux1
      | _ => false)
    match (if gate then l[m.srcB]? else none) with
    | some (c :: t) => parseField m.fmt (c :: t)
    | _ => none

/-- R356: an sACN input slot, from the snapshot. -/
def slotSource (s : State) (m : MapEntry) : Option Int :=
  let a := s.snapAddr m.srcA
  let n := s.rdLE (a + 0x202) 2
  let v (k : Nat) : Nat := s.rdLE (a + m.slot + k) 1
  if m.srcWide then (if n < m.slot + 1 then none else some (((v 0 * 256 + v 1) * 65536 : Nat) : Int))
  else if n < m.slot then none else some ((v 0 * 65536 : Nat) : Int)

/-- R356: the source value x; none where the source is invalid. -/
def mapSource (s : State) (m : MapEntry) : Option Int := match m.srcKind with
  | 1 => s.sentenceSource m
  | 2 => s.slotSource m
  | 3 =>
    let w := if m.aux1 = 0 then 32 else m.aux1
    some (((s.readWord m.regOff).toNat / 2 ^ m.aux0 % 2 ^ w * 65536 : Nat) : Int)
  | 4 => if s.flag (R.INGn_A_CTRL m.srcA) 0 then some ((s.field (R.INGn_A_ENV m.srcA) 15 0 * 65536 : Nat) : Int) else none
  | _ => some 0

/-- R358: the age of a source. -/
def mapAge (s : State) (m : MapEntry) : Nat :=
  if m.srcKind = 1 then (s.time.epoch - w32 (s.rdLE (s.storeAddr m.srcA + 0x0C) 4)).toNat else 0

/-! ## Destinations (R360) -/

/-- R360: an entry writes v. -/
def mapWrite (s : State) (m : MapEntry) (v : Int) : State := match m.dstKind with
  | 1 => s.paramWrite (m.dstAddr % 4096) (i32 v)
  | 2 =>
    let u := m.dstAddr / 512 % 32768
    let k := m.dstAddr % 512
    if m.wide then
      let n := (clampInt 0 65535 v).toNat
      (s.queueOverride u k true (n / 256)).queueOverride u (k + 1) true (n % 256)
    else s.queueOverride u k true (clampInt 0 255 v).toNat
  | 3 => s.safeIn (m.dstAddr % 256) (w32 (clampInt 0 65536 v).toNat)
  | 4 =>
    let k := m.dstAddr / 256 % 64 * 16 + m.dstAddr % 16
    s.setHub { s.hub with fields := (k, v) :: s.hub.fields.filter (fun x => x.1 != k) }
  | _ => s

/-! ## The pass (R358, R359, R361) -/

/-- R359: the scaled and clamped value. -/
def mapScale (m : MapEntry) (x : Int) : Int := (x * m.a + 2 ^ 31) / 2 ^ 32 + m.b

/-- The result of entry i, for SIGMAP_SEL. -/
def mapNote (s : State) (i : Nat) (r : MapResult) : State := s.setHub { s.hub with results := (i, r) :: s.hub.results }

/-- R356–R360: entry i is evaluated. The x of an invalid source, and the v of an entry that writes nothing, are free values. -/
def mapEval (s : State) (e : Nat × MapEntry) : State :=
  let (i, m) := e
  let age := s.mapAge m
  let old := m.maxAge != 0 && decide (m.maxAge < age)
  match s.mapSource m, old with
  | some x, false =>
    let out := mapScale m x
    let v := clampInt m.lo m.hi out
    let s := if v = out then s else (s.bump R.SIGMAP_CLAMP_CNT).raise R.SIGMAP_STATUS 2
    (s.mapWrite m v).mapNote i { x := x, v := v, age := age, state := 0 }
  | src, _ =>
    let s := (s.bump R.SIGMAP_STALE_CNT).raise R.SIGMAP_STATUS 1
    let (fx, s) := s.fresh
    let x := src.getD (fx : Int)
    match m.stale with
    | 0 =>
      let (fv, s) := s.fresh
      s.mapNote i { x := x, v := (fv : Int), age := age, state := 1 }
    | 1 => (s.mapWrite m m.lo).mapNote i { x := x, v := m.lo, age := age, state := 2 }
    | _ => (s.mapWrite m m.hi).mapNote i { x := x, v := m.hi, age := age, state := 2 }

/-- R365: SIGMAP_LEAD in nanoseconds. -/
def mapLead (s : State) : Nat := min (max 50 (s.field R.SIGMAP_LEAD 15 0) * 1000) s.halfPeriodNs

/-- R361: a pass, of which the first `evaluated` entries are reached before the boundary. How long a whole pass takes is stated as a
bound only: a free value within it. -/
def sigmapPass (s : State) (evaluated : Nat) : State :=
  if !s.flag R.SIGMAP_CTRL 0 then s
  else
    let s := s.waitUntil (s.nextInstant - s.mapLead * uNs)
    let l := (indexed s.hub.live.entries).take evaluated
    let late := decide (l.length < s.hub.live.entries.length)
    let s := s.setHub { s.hub with results := [], fields := [], late := late }
    let s := l.foldl mapEval s
    let (v, s) := s.fresh
    let bound := 20000 + s.hub.live.entries.length * 1000 / 16
    let s := s.setReg R.SIGMAP_PASS_TIME (w32 (if late then s.mapLead else v % (bound + 1)))
    s.bumpIf (!late) R.SIGMAP_PASS_CNT

/-- R361: the boundary arrives while entries are unevaluated. -/
def passLate (s : State) : State :=
  if s.hub.late then ((s.setHub { s.hub with late := false }).bump R.SIGMAP_LATE_CNT).raise R.SIGMAP_STATUS 0 else s

end State

/-! ## Meanings -/

def execSigmapPass (evaluated : Nat) (s : State) : Host.Outcome State Fault Refusal := onMain s (·.sigmapPass evaluated)

end Sys2Proof.Machine
end

