-- ==== Sys2Proof/Machine/Registers.lean ====
section
/-! DEFINITION. What a register write does (R42, R44, R45, R60, R61, R64, R570): its way to the block, and for each register whose
write has an effect of its own, that effect. Registers that have rows of their own in the table act through the same functions. -/

namespace Sys2Proof.Machine

namespace State

/-! ## Writes with an effect of their own -/

/-- R64: the lower words of a wide value are held until its most significant word is written. A lower word that has not been
written since reset counts as the register's reset value (DESIGN CHOICE, log entry 55: the spec names no value for it). -/
def hold (s : State) (a : Nat) (v : Word) : State := { s with latch := Sparse.put (resetOf a) s.latch a v }
def held (s : State) (a : Nat) : Word := Sparse.get (resetOf a) s.latch a

/-- R49: GLOBAL_UPDATE. -/
def updateWrite (s : State) (v : Word) : State :=
  let g := fld v 15 0
  match fld v 17 16 with
  | 0 => s.strobe g .now
  | 1 => s.strobe g .epoch
  | 2 => s.strobe g (.heel s.lt)
  | _ => if g = 0 then s else s.wdrop .global 0

/-- TIME. A write that selects one of the reserved sources 4 to 7 is ignored. -/
def writeTime (s : State) (a l : Nat) (r : RegRow) (v : Word) : State := match l with
  | 0x000 => if 4 ≤ fld v 2 0 then s.wdrop .time 0 else s.writeRow .time 0 a r v
  | 0x030 => s.hold a v
  | 0x034 => s.timeRate (BitVec.ofNat 40 (fld v 7 0 * 2 ^ 32 + (s.held R.TIME_RATE_LO).toNat))
  | 0x058 => s.timeMeas v
  | 0x060 => s.timeStep v
  | 0x064 => s.hold a v
  | 0x068 => s.hold a v
  | 0x06C => s.timeSet (s.held R.TIME_SET_NS) (s.held R.TIME_SET_SEC_LO) v
  | 0x084 => s.hold a v
  | 0x088 => s.framePeriod v (s.held R.TIME_FRAME_DEN)
  | 0x090 => s.epochAdj v
  | 0x124 =>
    let p := s.field R.TIME_TSQ_SEL 5 0
    if p < 37 then s.setTsq p { s.tsqOf p with lostCnt := v } else s
  | 0x104 =>
    let s := if bit v 0 then s.tsqPop else s
    if bit v 1 then s.tsqLostPop else s
  | _ =>
    if 0x400 ≤ l ∧ l < 0x500 then
      let n := (l - 0x400) / 0x20
      match l % 0x20 with
      | 0x10 => s.hold a v
      | 0x14 => s.hold a v
      | 0x18 => s.hoPush n (s.held (R.TIME_HOn_T_NS n)) (s.held (R.TIME_HOn_T_SEC_LO n)) v
      | _ => s.writeRow .time 0 a r v
    else s.writeRow .time 0 a r v

/-- INTC. -/
def writeIntc (s : State) (a l : Nat) (r : RegRow) (v : Word) : State :=
  if l < 0x2000 then s.srcWrite (l / 4) v
  else if l < 0x2100 then s.pendWrite ((l - 0x2000) / 4) v
  else if l < 0x2200 then s.maskWrite ((l - 0x2100) / 4) v
  else if 0x3100 ≤ l ∧ l < 0x3200 ∧ l % 0x40 = 0x14 then s.eoi ((l - 0x3100) / 0x40) v
  else if 0x3100 ≤ l ∧ l < 0x3200 ∧ l % 0x40 = 0x04 then (s.writeRow .intc 0 a r v).fastRises ((l - 0x3100) / 0x40) (s.rp ((l - 0x3100) / 0x40))
  else s.writeRow .intc 0 a r v

/-- HOST: the ring registers follow R397. -/
def writeHost (s : State) (a l : Nat) (r : RegRow) (v : Word) : State :=
  if 0x400 ≤ l ∧ l < 0xC00 then
    (if l % 0x20 = 0x14 ∨ l % 0x20 = 0x18 then s else s.ringWrite ((l - 0x400) / 0x20) a v)
  else s.writeRow .host 0 a r v

/-- KENNEL. R178: a greatest level goes on from the value written, or from what is held now where that is more; a count of cycles goes
on from its own cycle. -/
def writeKennel (s : State) (a l : Nat) (r : RegRow) (v : Word) : State :=
  let f := (l - 0x1000) / 16
  let q := (l - 0x2000) / 16
  if l = 0x34 then { s with kennel := { s.kennel with mostInFlight := max (fld v 28 16) s.inFlight } }
  else if l = 0x94 then s.paramWrite (s.field R.KNL_PARAM_IDX 11 0) v
  else
    let s := (s.liveCycles .kennel 0 l).writeRow .kennel 0 a r v
    if 0x1000 ≤ l ∧ l < 0x2000 ∧ l % 16 = 4 then s.setReg a (w32 (max (s.field a 18 0) (fifoLevel (s.fifoOf f))))
    else if 0x1000 ≤ l ∧ l < 0x2000 ∧ l % 16 = 8 then
      (match (s.fifoOf f).fullSince with
        | some _ => { s with kennel := { s.kennel with fifos := Sparse.put {} s.kennel.fifos f { s.fifoOf f with fullSince := some s.time.frc } } }
        | none => s)
    else if 0x2000 ≤ l ∧ l < 0x2400 then
      (match s.flowNode q with
        | none => s
        | some n =>
          let x := s.nodeRun n.1
          if l % 16 = 4 then s.setNodeRun n.1 { x with waiting := x.waiting.map (fun w => (w.1, (s.time.frc, w.2.2))) }
          else if l % 16 = 8 then s.setReg a (w32 (max (s.field a 6 0) (x.formed - x.released)))
          else s)
    else s

/-- REn: RESTART clears when it is done. A write of REn_SLEEP_CYC counts on from its own cycle. -/
def writeEngine (s : State) (e a l : Nat) (r : RegRow) (v : Word) : State :=
  let s := (s.liveCycles .engine e l).writeRow .engine e a r v
  let s := if l = 0x14 ∧ (s.engineOf e).asleep then s.setEngine e { s.engineOf e with sleepAt := s.time.frc } else s
  if l = 0 ∧ s.flag a 1 = true then (s.engineRestart e).lower a 1 else s

/-- RASTER and the previews. A write of RASTER_HOLD_CYC counts on from its own cycle. -/
def writeRaster (s : State) (a l : Nat) (r : RegRow) (v : Word) : State := match l with
  | 0x020 =>
    let s := s.writeRow .raster 0 a r v
    s.setRaster { s.ingest.raster with hold := s.ingest.raster.hold.map (fun _ => s.time.frc) }
  | 0x124 => s.auxStart 0 v
  | 0x1A4 => s.auxStart 1 v
  | _ => s.writeRow .raster 0 a r v

/-- CALIB. -/
def writeCalib (s : State) (a l : Nat) (r : RegRow) (v : Word) : State :=
  if l = 0x24 then s.calibCmd (fld v 3 0) (bit v 8) none
  else if R.CALIB_SAFE_INz 0 ≤ a ∧ a < R.CALIB_SAFE_INz 256 then s.safeIn ((a - R.CALIB_SAFE_INz 0) / 4) v
  else s.writeRow .calib 0 a r v

/-- FIXTURE. -/
def writeFixture (s : State) (a l : Nat) (r : RegRow) (v : Word) : State :=
  let go (p0 : Nat) : State := ((List.range 32).filter (bit v)).foldl (fun s i => s.rdmGo (p0 + i)) s
  match l with
  | 0x58 => s.queueOverride (s.field R.FIX_OVR_ADDR 23 9) (s.field R.FIX_OVR_ADDR 8 0) (bit v 8) (fld v 7 0)
  | 0x5C => go 0
  | 0x60 => go 32
  | _ => s.writeRow .fixture 0 a r v

/-- MACn: the control registers and NEXT_PN of MACsec's SAs (R389). -/
def writeMac (s : State) (n a : Nat) (r : RegRow) (v : Word) : State :=
  match (List.range 4).find? (fun k => a == R.MACn_TXSAa_CTRL n k) with
  | some k => s.txSaWrite n k v
  | none => match (List.range 4).find? (fun k => a == R.MACn_TXSAa_NEXT_PN n k) with
    | some k => s.txPnWrite n k v
    | none => match (List.range 32).find? (fun k => a == R.MACn_RXSCc_SAa_CTRL n (k / 4) (k % 4)) with
      | some k => s.rxSaWrite n (k / 4) (k % 4) v
      | none => s.writeRow .mac n a r v

/-- UARTn, when the write takes effect. -/
def writeUart (s : State) (p a l : Nat) (r : RegRow) (v : Word) : State := match l with
  | 0x00 => s.uartCtrl p v
  | 0x04 => ((s.noteFormat p).writeRow .uart p a r v).uartTmoAgain p
  | 0x08 | 0x10 => (s.writeRow .uart p a r v).uartTmoAgain p
  | 0x14 => s.uartWrite p v
  | 0x2C => s.scPut a v
  | _ => s.writeRow .uart p a r v

/-- BRACE. A write that clears EN is accepted only in ACTIVE and SEEK (R459). -/
def writeBrace (s : State) (a l : Nat) (r : RegRow) (v : Word) : State := match l with
  | 0x00 =>
    if s.braceOn && !bit v 0 && s.brace.state != .active && s.brace.state != .seek then s.wdrop .brace 0
    else s.writeRow .brace 0 a r v
  | 0x0C =>
    let c := fld v 3 0
    if 1 ≤ c ∧ c ≤ 3 then s.braceCmd c (s.reg R.BRACE_CMD_EPOCH) none else s.wdrop .brace 0
  | _ => s.writeRow .brace 0 a r v

/-- SHEAF. A change of SHEAF_GEN judges the tiles anew (R476). -/
def writeSheaf (s : State) (a l : Nat) (r : RegRow) (v : Word) : State := match l with
  | 0x08 =>
    let t := s.writeRow .sheaf 0 a r v
    if t.reg a = s.reg a then t else t.sheafRejudge
  | 0x34 => (match fld v 1 0 with
    | 1 => s.sheafArm (s.reg R.SHEAF_ARM_EPOCH) (s.reg R.SHEAF_ARM_GEN) (s.reg R.SHEAF_ARM_GROUPS) none
    | 2 => s.sheafDisarm none
    | 3 => s.sheafRecompute none
    | _ => s)
  | _ => s.writeRow .sheaf 0 a r v

/-- CHECKn. In SHOW a write of CTRL does not select ALG 6 (R507); a host write to units 0 to 3 is ignored (R510). -/
def writeCheck (s : State) (init : Initiator) (n a l : Nat) (r : RegRow) (v : Word) : State :=
  s.checkBy init n (fun s => match l with
    | 0x00 =>
      let six := s.inShow && fld v 2 0 == 6 && s.field a 2 0 != 6
      let v := if six then setFld v 2 0 (s.field a 2 0) else v
      let s := (s.writeRow .check n a r v).checkAttach n
      if six then s.wdrop .check n else s
    | 0x08 =>
      let s := if bit v 1 then s.checkAppend n else s
      if bit v 0 then s.checkInit n else s
    | 0x0C => s.checkFeedWord n 1 v
    | 0x10 => s.checkFeedWord n 2 v
    | 0x14 => s.checkFeedWord n 4 v
    | _ => s.writeRow .check n a r v)

/-- RESET and POWER; the standby registers when the write takes effect. -/
def writePower (s : State) (a l : Nat) (r : RegRow) (v : Word) : State := match l with
  | 0x000 => (match fld v 2 0 with
    | 1 => s.cmdShow
    | 2 => s.cmdIdle
    | 3 => s.cmdStandby
    | 4 => s.mainReset .warm 0
    | _ => s.wdrop .power 0)
  | 0x818 =>
    let w := s.field R.SBY_PF_IDX 5 0
    let f := s.field R.SBY_PF_IDX 8 6
    let s := if w < 36 then s.setPower { s.power with pattern := Sparse.put 0 s.power.pattern (64 * f + w) v } else s
    s.setReg R.SBY_PF_IDX (w32 (64 * f + (w + 1) % 64))
  | _ => s.writeRow .power 0 a r v

/-- WINNOW: a write of a minimum and maximum resets them. -/
def writeWinnow (s : State) (a l : Nat) (r : RegRow) (v : Word) : State :=
  if (0x100 ≤ l ∧ l < 0x140 ∨ 0x180 ≤ l ∧ l < 0x1C0) ∧ l % 8 = 4 then s.setReg a (resetOf a) else s.writeRow .winnow 0 a r v

/-- PINS. -/
def writePins (s : State) (a l : Nat) (r : RegRow) (v : Word) : State := match l with
  | 0x30 => s.gpioSet false v
  | 0x34 => s.gpioSet true v
  | 0x38 => s.gpioClr false v
  | 0x3C => s.gpioClr true v
  | _ => s.writeRow .pins 0 a r v

/-- One word v enters the register of row r at local offset l of instance i of block b. The coefficients of self-calibration go to
their pending copy (R200). -/
def writeWord (s : State) (init : Initiator) (b : Block) (i l : Nat) (r : RegRow) (v : Word) : State :=
  let a := canon b i l
  if (scClass a).isSome && b != .uart then s.scPut a v
  else match b with
  | .global => if l = 0x10 then s.updateWrite v else s.writeRow .global 0 a r v
  | .clock => s.writeRow .clock 0 a r v
  | .power => s.writePower a l r v
  | .intc => s.writeIntc a l r v
  | .time => s.writeTime a l r v
  | .host => s.writeHost a l r v
  | .kennel => s.writeKennel a l r v
  | .engine => s.writeEngine i a l r v
  | .ingestRx => s.writeRow .ingestRx i a r v
  | .ingest => s.writeRow .ingest 0 a r v
  | .raster => s.writeRaster a l r v
  | .calib => s.writeCalib a l r v
  | .plan => if l = 0x28 then s.diagCmd (fld v 3 0) else s.writeRow .plan 0 a r v
  | .vocon => s.writeRow .vocon 0 a r v
  | .heel => s.writeRow .heel 0 a r v
  | .fixture => s.writeFixture a l r v
  | .mac => s.writeMac i a r v
  | .uart => s.writeUart i a l r v
  | .hub => s.writeRow .hub 0 a r v
  | .sigmap => s.writeRow .sigmap 0 a r v
  | .farbr => s.writeRow .farbr 0 a r v
  | .brace => s.writeBrace a l r v
  | .sheaf => s.writeSheaf a l r v
  | .check => s.writeCheck init i a l r v
  | .sec => if l = 0x820 then s.maintWrite v
      else if l = 0x804 then [0, 1, 2, 3].foldl senseEnc (s.writeRow .sec 0 a r v)
      else if l = 0x828 then (s.writeRow .sec 0 a r v).senseTemp
      else s.writeRow .sec 0 a r v
  | .upd => s.writeRow .upd 0 a r v
  | .winnow => s.writeWinnow a l r v
  | .dram => s.writeRow .dram 0 a r v
  | .pins => s.writePins a l r v

/-- R397: local offset l of block b lies in the registers of a ring that is not DISABLED. -/
def ringHeld (s : State) (b : Block) (l : Nat) : Bool :=
  decide (b = .host) && decide (0x400 ≤ l) && decide (l < 0xC00) && (s.ringOf ((l - 0x400) / 0x20)).state != .disabled

/-- R64: the write of word v to the register of row r at local offset l of instance i of block b. The lower word of a wide value is
held; its most significant word enters the lower word last written before itself. R397: that of a running ring's base is ignored. -/
def writeAt (s : State) (init : Initiator) (b : Block) (i l : Nat) (r : RegRow) (v : Word) : State :=
  if isWideLow b l then
    (if (s.inShow && r.out == 0xFFFFFFFF) || s.ringHeld b l then s.wdrop b i else s.hold (canon b i l) v)
  else match (wideLow b l).bind (fun k => (rowAt b i k).map (fun q => (k, q))) with
    | some (k, q) => (s.writeWord init b i k q (s.held (canon b i k))).writeWord init b i l r v
    | none => s.writeWord init b i l r v

/-! ## The bus (R42, R44, R45, R60, R61) -/

/-- R41: the BAR0 offset of an initiator's address: the control cores reach the registers from 0xFF_0000_0000 up. -/
def barOffset (init : Initiator) (a : Nat) : Nat := if init = .core ∧ 0xFF00000000 ≤ a then a - 0xFF00000000 else a

/-- R328: any write that reaches UART i disarms its next UARTn_DATA read, whatever becomes of the write. -/
def reachUart (s : State) (b : Block) (i : Nat) : State := if b = .uart then s.uartDisarm i else s

/-- A write of a whole word at a BAR0 offset. R61: while BUSY is 1, every write into a slow block is dropped with WDROP, one to an
unoccupied offset too (DEDUCED, log entry 56); while it is 0, one to an unoccupied offset is ignored and makes nothing busy. -/
def busWrite (s : State) (init : Initiator) (offset : Nat) (v : Word) : State := match resolve offset with
  | .unmapped => s.unmapped offset
  | .reads0 _ => s
  | .at b i l =>
    let s := s.reachUart b i
    let a := canon b i l
    match busyKey a, rowAt b i l with
    | none, none => s
    | none, some r => s.writeAt init b i l r v
    | some k, none => s.ifFree b i k id
    | some k, some _ => s.ifFree b i k (fun s => { s with posted := (k, (a, v)) :: s.posted })

/-- R26, R199: a control core stores the enabled bytes of a word in DRAM; what meets a protected bank is dropped and counted once. -/
def coreStore (s : State) (addr : Nat) (v : Word) (be : Nat) : State :=
  let (n, s) := ((List.range 4).filter (fun i => be.testBit i)).foldl (fun (x : Nat × State) i =>
    let (n, s) := x.2.landBytes (addr + i) [BitVec.ofNat 8 (v.toNat / 256 ^ i)]
    (x.1 + n, s)) (0, s)
  if n = 0 then s else s.protCount

/-- R42: a write with its byte enables; one that lacks some of the four is dropped and sets the WDROP of the block whose window it
meets. A control core's address below the end of DRAM names DRAM (R41). -/
def registerWrite (s : State) (init : Initiator) (addr : Nat) (v : Word) (be : Nat) : State :=
  let offset := barOffset init addr
  if init = .core ∧ addr < dramSize then s.coreStore addr v be
  else if be = 15 then s.busWrite init offset v
  else match resolve offset with
    | .unmapped => s.unmapped offset
    | .reads0 b => s.wdrop b 0
    | .at b i _ => (s.reachUart b i).wdrop b i

/-- R60: the posted write whose BUSY bit has key k takes effect. -/
def postedDone (s : State) (k : Nat) : State := match s.posted.lookup k with
  | none => s
  | some (a, v) =>
    let s : State := { s with posted := s.posted.filter (fun x => x.1 != k) }
    match resolve a with
    | .at b i l => (match rowAt b i l with
      | some r => s.writeAt .core b i l r v
      | none => s)
    | _ => s

/-! ## Requests of the partner (R466, R451) -/

/-- R466: the windows that a partner's request may not name. -/
def partnerRefused (a : Nat) : Bool := let w := a / 0x10000; w == 0x20 || w == 0x01 || w == 0x03 || decide (0x400 ≤ w)

/-- The words of a read at offset a, as bytes in the order of their addresses (little-endian, as a host access: DEDUCED). -/
def partnerRead (s : State) (a : Nat) : Nat → Bytes × State
  | 0 => ([], s)
  | n + 1 =>
    let s := s.busRead a
    let w := leBytes 4 s.bus.toNat
    let (rest, s) := partnerRead s (a + 4) n
    (w ++ rest, s)

/-- A write of words at offset a, the lower address first. -/
def partnerWrite (s : State) (a : Nat) : List Word → State
  | [] => s
  | w :: rest => partnerWrite (s.busWrite .partner a w) (a + 4) rest

/-- R466, R263: a FAR_REQ: with data a write, without a read. The answer has the same form; a posted write is answered only when it
fails, with LATE. -/
def farRequest (s : State) (l : Bytes) : State :=
  let addr := beAt l 0 4
  let tag := beAt l 4 2
  let posted := beAt l 6 1 % 2 == 1
  let n := beAt l 8 2
  let data := l.drop 12
  let write := !data.isEmpty
  let badLen := n % 4 != 0 || addr % 4 != 0 || decide (n < 4) || decide (256 < n) || decide (addr / 256 ≠ (addr + n - 1) / 256) || (write && data.length != n)
  let answer (s : State) (status : Nat) (d : Bytes) : State :=
    s.braceSend 6 (opHeader addr tag (b2n (write && posted)) status n ++ d)
  if badLen then answer s stBadLength []
  else if partnerRefused addr then answer s stBadAddress []
  else if write then
    let s := s.partnerWrite addr ((List.range (n / 4)).map (fun i => w32 (leAt data (4 * i) 4)))
    if posted then s else answer s stOk []
  else
    let (d, s) := s.partnerRead addr (n / 4)
    answer s stOk d

/-- R458: the entries of an ECHO_FWD: port, A_EPOCH and Vocon frame each; none where the frame does not hold whole entries. -/
def fwdEntries : Nat → Bytes → Option (List (Nat × Epoch × Bytes))
  | 0, _ => none
  | k + 1, l =>
    if l.isEmpty then some []
    else
      let n := beAt l 0 2
      if l.length < 8 + n ∨ n = 0 then none
      else (fwdEntries k (l.drop (8 + n))).map (fun t => (beAt l 2 1, w32 (beAt l 4 4), slice l 8 n) :: t)

/-- R458: a device that is not ACTIVE processes the frames; one that does not hold whole entries is bad (R451, DEDUCED). -/
def echoFwd (s : State) (l : Bytes) : State :=
  match fwdEntries (l.length + 1) l with
  | none => s.bump R.BRACE_RX_BAD_CNT
  | some es => if s.brace.state = .active then s else es.foldl (fun s e => s.echoForwarded e.1 e.2.1 e.2.2) s

/-! ## The parity sweep (R55–R59) -/

/-- The offset a in a list of bad words, present where it was absent and absent where it was present. -/
def toggleBad (l : List Nat) (a : Nat) : List Nat := if l.contains a then l.filter (· != a) else a :: l

/-- One upset of a configuration word: a bit of it, or its parity bit, changes. Other offsets hold no configuration word. -/
def upset (s : State) (u : Upset) : State :=
  let a := canonOf u.offset
  let bump (w : Word) : Word := if u.bitNo < 32 then w ^^^ BitVec.ofNat 32 (2 ^ u.bitNo) else w
  if !isCfg a || decide (32 < u.bitNo) then s
  else match u.copy with
    | .live =>
      let s := if 0x10000 ≤ a ∧ a < 0x12000 then
          s.setIntc { s.intc with src := Sparse.put 0 s.intc.src ((a - 0x10000) / 4) (bump (s.srcCfg ((a - 0x10000) / 4))) }
        else s.setReg a (bump (s.reg a))
      { s with badLive := toggleBad s.badLive a }
    | .shadow => if rwbMask a = 0 then s else { s.setSh a (bump (s.sh a)) with badShadow := toggleBad s.badShadow a }
    | .staging => { s with staged := s.staged.map (fun x =>
        if groupOf a = some x.group ∧ rwbMask a ≠ 0 then { x with copy := Sparse.put (resetOf a) x.copy a (bump (Sparse.get (resetOf a) x.copy a))
                                                                  bad := toggleBad x.bad a } else x) }

/-- R56: a sweep checks every configuration word; a word that fails in its live register or its shadow is one failure. The words are
visited in the order of their offsets. -/
def paritySweep (s : State) (l : List Upset) : State :=
  let s := l.foldl upset s
  let bad := s.badLive ++ s.badShadow.filter (fun a => !s.badLive.contains a)
  ((bad.foldl (fun m a => Sparse.put false m a true) []).map (·.1)).foldl parityFail s

end State

/-! ## Meanings -/

def execRegisterWrite (init : Initiator) (offset : Nat) (value : Word) (be : Nat) (s : State) : Host.Outcome State Fault Refusal :=
  onMain s (·.registerWrite init offset value be)

/-- R45: a read returns 0. -/
def execUnmappedAccess (offset : Nat) (write : Bool) (s : State) : Host.Outcome State Fault Refusal :=
  onMain s (fun s => if resolve offset = .unmapped then (if write then s.unmapped offset else s.busRead offset) else s)

def execPostedWriteComplete (key : Nat) (s : State) : Host.Outcome State Fault Refusal := onMain s (·.postedDone key)

def execParitySweep (upsets : List Upset) (s : State) : Host.Outcome State Fault Refusal := onMain s (·.paritySweep upsets)

def execEchoFwdRx (frame : Bytes) (s : State) : Host.Outcome State Fault Refusal :=
  onMain s (fun s => s.braceRx 4 frame (fun s _ _ _ p => s.echoFwd p))

def execFarReqRx (frame : Bytes) (s : State) : Host.Outcome State Fault Refusal :=
  onMain s (fun s => s.braceRx 5 frame (fun s _ _ _ p => s.farRequest p))

/-- R466, R422: an answer whose form is not that of R263 is bad (R451, DEDUCED). -/
def execFarRspRx (frame : Bytes) (s : State) : Host.Outcome State Fault Refusal :=
  onMain s (fun s => s.braceRx 6 frame (fun s e _ _ p => if State.farShape p then s.farAnswer 0x8000 p e else s.bump R.BRACE_RX_BAD_CNT))

end Sys2Proof.Machine
end

