-- ==== Sys2Proof/Machine/Boundary.lean ====
section
/-! DEFINITION. The frame-epoch boundary (R22): its seven steps in order, and the change of the frame grid (R95). -/

namespace Sys2Proof.Machine

namespace State

/-- R95: the next boundary after a change of period at instant k of the old grid: the first instant of the new grid that lies at
least half a new period later. -/
def newGridNext (num den num' den' k : Nat) : Nat :=
  let top := 2 * k * num * den' + den * num'
  let bot := 2 * den * num'
  (top + bot - 1) / bot

/-- R95, R93: the epoch number that this boundary starts. The first boundary on a new grid sets TIME_EPOCH_ADJ so that the numbers
go on; epochs that a step skipped are counted on the new grid. -/
def latchEpoch (s : State) : State :=
  let t := s.time
  let adj := if t.regrid then t.epoch - BitVec.ofNat 32 t.kLast else s.reg R.TIME_EPOCH_ADJ
  let s := if t.regrid then (s.setReg R.TIME_EPOCH_ADJ adj).fixLive R.TIME_EPOCH_ADJ else s
  { s with time := { t with adj := adj, epoch := BitVec.ofNat 32 t.kNext + adj, regrid := false } }

/-- R94, R95: after step 3 the grid moves on: by a held pair to a new grid, else to the next instant. The instant of this boundary is kept
(R98, R449). -/
def gridAdvance (s : State) : State :=
  let t := { s.time with mark := ((s.time.kNext : Int) * s.time.num * uSec, s.time.den) }
  match t.heldPair with
  | none => { s with time := { t with kLast := t.kNext, kNext := t.kNext + 1 } }
  | some (num, den) =>
    let k := newGridNext t.num t.den num den t.kNext
    let s : State := { s with time := { t with num := num, den := den, kNext := k, kLast := k - 1, regrid := true, heldPair := none } }
    ((s.setReg R.TIME_FRAME_NUM (w32 num)).setReg R.TIME_FRAME_DEN (w32 den)).fixPair.fitCheck

/-- Step 1 of R22, after the epoch has been latched, and the arm that is to be applied (R458, R470, R479). -/
def boundaryStep1 (s : State) (e : Epoch) : Option Arm × State := ((s.braceDeliver e).sheafPublish e).sheafDecide e

/-- Step 3 of R22: the groups due, with those of an arm; `swaps`: CALIB_COMMIT_CNT before step 2 (R480). Then the grid (R95). -/
def boundaryStep3 (s : State) (e : Epoch) (arm : Option Arm) (swaps : Word) : State :=
  let (failed, s) := s.applyStaged s.dueAtBoundary ((arm.map Arm.staged).getD [])
  let s := match arm with
    | some a => s.sheafApplied e a failed swaps
    | none => s
  s.gridAdvance

/-- R160, R190: in step 7, the end of the frame that ran up to the boundary, where one did, and the flush; of a frame that was
complete it takes what grains are left (log entry 12). -/
def frameOver (s : State) (r : Epoch) (ended : Option Bool) : State := match ended with
  | none => if s.kennel.run then s.flush else s
  | some ok => (s.calibFrameEnd r ok).flush

/-- Step 7 of R22: Kennel's frame starts (R158, R164, R216), and is dropped while PLL_MAIN is unlocked (R37); HEEL fixes T from the offset before step 3 (R268), verification opens
(R283), fixtures compose (R299, R307, R298), waiting descriptors end (R571), composers emit (R362), and the raster starts (R123). -/
def boundaryStep7 (s : State) (e r : Epoch) (ended : Option Bool) (offset : Nat) : State :=
  let s := (s.frameOver r ended).copyParams.kennelStart e
  let s := if s.unitLost .main && s.frameRuns then s.dropNow else s
  let s := ((s.fitCount.heelFix e offset).verOpen e).fixStep e
  ((s.braceInputStep.epochWaits e).composers e).rasterStart

/-- R22: the boundary. R539 acts before step 1; the old epoch's frame, raster and Signal Map pass end as it arrives (R126, R159,
R361); a swap in step 2 starts the digest of the calibration bank (R470). -/
def epochBoundary (s : State) : State :=
  let s := (s.waitUntil s.nextInstant).powerStep
  let (ended, s) := s.rasterBoundary.passLate.frameAtBoundary
  let old := s.time.epoch
  let rendered := s.kennel.epoch
  let offset := s.field R.HEEL_LATCH_OFFSET 24 0
  let swaps := s.reg R.CALIB_COMMIT_CNT
  let s := s.latchEpoch
  let e := s.time.epoch
  let (arm, s) := s.boundaryStep1 e
  let s := s.calibStep e
  let s := (if s.reg R.CALIB_COMMIT_CNT = swaps then s else s.classStart 2).boundaryStep3 e arm swaps
  let s := ((s.ingestCommit old).braceRoles e).braceClose old e
  s.boundaryStep7 e rendered ended offset

end State

/-! ## Meanings -/

def execEpochBoundary (s : State) : Host.Outcome State Fault Refusal := onMain s (·.epochBoundary)

end Sys2Proof.Machine
end

