-- ==== Sys2Proof/Machine/Winnow.lean ====
section
/-! DEFINITION. Winnow's background work (R542–R547) and the errors that show blocks meet in DRAM and Granary (R27, R543, R544). -/

namespace Sys2Proof.Machine

namespace State

/-- R549: Winnow's duties run. -/
def winOn (s : State) : Bool := s.flag R.WIN_CTRL 0

def setWinnow (s : State) (w : WinnowSt) : State := { s with winnow := w }

/-- R549, R542: the periods of the three sweeps, in milliseconds. -/
def scrubMs (s : State) : Nat := atLeast1 (s.field R.WIN_SCRUB_H 7 0) * 3600000
def sramMs (s : State) : Nat := max 100 (s.field R.WIN_SRAM_MS 15 0)
def flashMs (s : State) : Nat := atLeast1 (s.field R.WIN_FLASH_D 7 0) * 86400000

/-- R542: the bytes per millisecond that the sweeps need to end within their periods, of 16 GiB, of 48 MiB and of 1 GiB. -/
def sweepLoad (s : State) : Nat := 2 ^ 34 / s.scrubMs + 50331648 / s.sramMs + 2 ^ 30 / s.flashMs

/-- R542, R549: WIN_DRAM_CAP prevents a sweep from completing within its period. -/
def capped (s : State) : Bool := decide (max 10 (s.field R.WIN_DRAM_CAP 15 0) * 1000 < s.sweepLoad)

/-- R542: a sweep that began at FRC a and has not ended within its period of ms milliseconds, for want of bandwidth, sets BEHIND. -/
def behind (s : State) (a ms : Nat) : State := s.raiseIf (s.capped && decide (a + ms * 1250000 < s.time.frc)) R.WIN_STATUS 5

/-- R543: an uncorrectable burst at an address; src 0 the scrub, 1 a show block. -/
def dramUe (s : State) (address src : Nat) : State :=
  let s := (s.bump R.DRAM_UE_CNT).raise R.DRAM_STATUS 1
  (s.setReg R.DRAM_ERR_ADDR_LO (w32 (address / 64 * 64))).setReg R.DRAM_ERR_ADDR_HI (w32 (256 * src + address / 2 ^ 32 % 4))

/-- R543: a show block has read an uncorrectable burst: the frame being rendered is dropped, HEALTH.DRAM_UE is set, and an active brace
device gives up control with cause 1. -/
def showUe (s : State) (address : Nat) : State :=
  let s := s.dramUe address 1
  let s := s.setBrace { s.brace with dramUe := true }
  let s := if s.frameRuns then s.dropNow else s
  s.unmaskable 1

/-- R543: the DRAM scrub reads the next burst. -/
def scrubDram (s : State) (found : EccResult) : State :=
  if !s.winOn then s
  else
    let pos := s.field R.WIN_SCRUB_POS 27 0
    let s := if pos = 0 then s.setWinnow { s.winnow with dramAt := s.time.frc } else s
    let s := match found with
      | .clean => s
      | .corrected => (s.bump R.DRAM_CE_CNT).raise R.DRAM_STATUS 0
      | .uncorrectable => s.dramUe (64 * pos) 0
    let s := s.behind s.winnow.dramAt s.scrubMs
    let next := (pos + 1) % 2 ^ 28
    (s.setReg R.WIN_SCRUB_POS (w32 next)).raiseIf (next == 0) R.WIN_STATUS 0

/-- R544: one word of the Granary. The address that R543 would load is a free value. -/
def sramFound (s : State) (found : EccResult) : State := match found with
  | .clean => s
  | .corrected => s.bump R.WIN_SRAM_CE_CNT
  | .uncorrectable => let (v, s) := s.fresh; s.showUe (v % dramSize)

/-- R544: the SRAM scrub ends a sweep, with what it found in the Granary's words, in order. -/
def scrubSram (s : State) (found : List EccResult) : State :=
  if !s.winOn then s
  else
    let s := s.behind s.winnow.sramAt s.sramMs
    found.foldl sramFound (s.setWinnow { s.winnow with sramAt := s.time.frc })

/-- R30: the areas of the 1 GiB flash. -/
inductive FlashArea | loader | security | slotA | slotB | config | logs | spare
deriving DecidableEq, Repr

/-- R30: the area a flash offset lies in. -/
def flashArea (o : Nat) : Option FlashArea :=
  if o < 0x00100000 then some .loader
  else if o < 0x00200000 then some .security
  else if o < 0x10200000 then some .slotA
  else if o < 0x20200000 then some .slotB
  else if o < 0x38200000 then some .config
  else if o < 0x3C000000 then some .logs
  else if o < 0x40000000 then some .spare
  else none

/-- R30: a byte of flash in the configuration store, the logs or the spare; an erased byte reads 0xFF. -/
def flashByte (s : State) (o : Nat) : Byte := Sparse.get 0xFF s.winnow.flash o

/-- R30, R545: a flash offset lies in image slot A, or B. -/
def inSlot (b : Bool) (o : Nat) : Bool := flashArea o == some (if b then .slotB else .slotA)

/-- R545, R489: the flash refresh reads the page at an offset; above the security area it needs the flash key (R30, R499). -/
def refreshFlash (s : State) (o bits : Nat) (ue : Bool) : State :=
  if !s.winOn then s
  else
    let s := if o = 0 then s.setWinnow { s.winnow with flashAt := s.time.frc } else s
    let s := s.behind s.winnow.flashAt s.flashMs
    let (keyed, s) := if o < 0x00200000 then (true, s) else s.flashKeyed
    if !keyed then s
    else if ue then
      let s := (s.raise R.WIN_STATUS 4).setReg R.WIN_FLASH_ERR (w32 o)
      let s := if inSlot false o then s.setSlot false none else s
      if inSlot true o then s.setSlot true none else s
    else if s.field R.WIN_FLASH_THR 7 0 < bits then
      (s.bump R.WIN_FLASH_RW_CNT).flashErase
    else s

/-- R546: one temperature sample, in 1/16 °C. -/
def sampleTemp (s : State) (x : Nat × Int) : State :=
  let (i, t) := x
  let mm := s.reg (R.WIN_TEMPi_MM i)
  let hi := max (signed 16 (fld mm 31 16)) t
  let lo := min (signed 16 (fld mm 15 0)) t
  let half (n : Int) : Nat := (n % 65536).toNat
  let s := (s.setReg (R.WIN_TEMPi i) (w32 (half t))).setReg (R.WIN_TEMPi_MM i) (w32 (half hi * 65536 + half lo))
  let s := s.raiseIf (decide (signed 16 (s.field R.WIN_TEMP_LIM 15 0) < t)) R.WIN_STATUS 1
  s.raiseIf (decide (signed 16 (s.field R.WIN_TEMP_LIM 31 16) < t)) R.WIN_STATUS 2

/-- R546: one voltage sample, in mV. -/
def sampleVolt (s : State) (x : Nat × Nat) : State :=
  let (i, v) := x
  let mm := s.reg (R.WIN_VOLTi_MM i)
  let s := (s.setReg (R.WIN_VOLTi i) (w32 v)).setReg (R.WIN_VOLTi_MM i) (w32 (max (fld mm 31 16) v * 65536 + min (fld mm 15 0) v))
  s.raiseIf (i == 2 && decide (v < s.field R.WIN_VBAT_MIN 15 0)) R.WIN_STATUS 3

/-- R546: the millisecond's samples, as 16-bit values. -/
def telemetry (s : State) (temps : List Int) (volts : List Nat) : State :=
  if !s.winOn then s
  else
    let t := ((List.range 8).zip temps).map (fun x => (x.1, clampInt (-32768) 32767 x.2))
    let v := ((List.range 8).zip volts).map (fun x => (x.1, min 65535 x.2))
    v.foldl sampleVolt (t.foldl sampleTemp s)

/-- R200, R201, R547: Winnow measures coefficients, and writes those of classes that are not held. In SHOW it measures only when
Kennel's frame has ended and the known-answer test, where one is due, has run; class 0 every WIN_SC_S seconds (R542). -/
def selfCal (s : State) (l : List (Nat × Word)) : State :=
  if !s.winOn || (s.inShow && (s.frameRuns || (s.braceOn && !s.brace.katRan))) then s
  else
    let s := if l.any (fun x => scClass x.1 == some 0) then
        let s := s.waitFrc (s.winnow.scAt + atLeast1 (s.field R.WIN_SC_S 15 0) * 1250000000)
        s.setWinnow { s.winnow with scAt := s.time.frc }
      else s
    (l.filter (fun x => match scClass x.1 with
      | some c => !s.flag R.CALIB_SC_CTRL c
      | none => false)).foldl (fun s x => s.scPut (canonOf x.1) x.2) s

end State

/-! ## Meanings -/

def execDramScrub (found : EccResult) (s : State) : Host.Outcome State Fault Refusal := onMain s (·.scrubDram found)

def execDramUeShow (address : Nat) (s : State) : Host.Outcome State Fault Refusal := onMain s (·.showUe (address % State.dramSize))

def execSramScrub (found : List EccResult) (s : State) : Host.Outcome State Fault Refusal := onMain s (·.scrubSram found)

def execFlashRefresh (offset correctedBits : Nat) (uncorrectable : Bool) (s : State) : Host.Outcome State Fault Refusal :=
  onMain s (·.refreshFlash offset correctedBits uncorrectable)

def execTelemetrySample (temps : List Int) (volts : List Nat) (s : State) : Host.Outcome State Fault Refusal :=
  onMain s (·.telemetry temps volts)

def execSelfCalMeasure (results : List (Nat × Word)) (s : State) : Host.Outcome State Fault Refusal := onMain s (·.selfCal results)

end Sys2Proof.Machine
end

