-- ==== Sys2Proof/Machine/Start.lean ====
section
/-! DEFINITION. Boot (R533–R537): the stages from the security core's start to show-ready, the image and its trial (R522–R525), and the
failures that end in RECOVERY. -/

namespace Sys2Proof.Machine

namespace State

/-- R537, R516: the resident loader stays in RECOVERY: no image runs, every output is off, and port 36 runs for the service protocol
(DEDUCED, log entry 45). -/
def toRecovery (s : State) : State :=
  let s := s.setField (R.MACn_CTRL 36) 2 0 7
  (s.setUpd { s.upd with recovery := true, run := none, state := .idle }).setPower { s.power with bootDue := false }

/-- A training result enters its register, live. -/
def trainReg1 (s : State) (x : Nat × Word) : State := if trainReg x.1 then s.setReg x.1 (x.2 &&& scMask x.1) else s

/-- R534, R535: a full training: its results are stored, and the mark is cleared. -/
def trainFull (s : State) (r : BootReport) : State :=
  let s := r.train.foldl trainReg1 s
  let s : State := { s with winnow := { s.winnow with train := some (s.regs.filter (fun x => trainReg x.1)), trainInvalid := false } }
  let s := s.flashErase
  (s.setField R.PWR_BOOT_STAGE 15 0 (s.field R.PWR_BOOT_STAGE 15 0 + 1)).raise R.DRAM_TRAIN_STAT 1

/-- R534, R535: stage 4. WARM and UPDATE never train. -/
def trainStage (s : State) (r : BootReport) : State :=
  if s.power.kind = .warm ∨ s.power.kind = .update then s
  else match s.winnow.train with
    | some l =>
      if !s.winnow.trainInvalid && r.trainOk then l.foldl trainReg1 s else s.trainFull r
    | none => s.trainFull r

/-- R537: the valid slot that boots: the boot slot, else the other with FALLBACK, else none. -/
def bootSlot (s : State) (aOk bOk : Bool) : Option Bool × State :=
  let ok (b : Bool) : Bool := if b then bOk && s.upd.slotB.isSome else aOk && s.upd.slotA.isSome
  if ok s.upd.bootB then (some s.upd.bootB, s)
  else if ok (!s.upd.bootB) then (some (!s.upd.bootB), s.raise R.UPD_STATUS 6)
  else (none, s)

/-- Slot b runs. -/
def runSlot (s : State) (b : Bool) : State := s.setUpd { s.upd with runB := b, run := if b then s.upd.slotB else s.upd.slotA }

/-- R523: the trial of slot b starts; the health timer counts from the release of reset. -/
def startTrial (s : State) (b : Bool) (q : TrialReq) : State :=
  let s := s.runSlot b
  (s.setUpd { s.upd with request := none, trial := some (q.released + q.window * 1250000000) }).raise R.UPD_STATUS 4

/-- R522, R523, R525, R537: stage 5: the image. Answers whether one boots; none does while the flash engine gets no key (R489, R499). -/
def imageStage (s : State) (r : BootReport) : Bool × State :=
  let (keyed, s) := s.flashKeyed
  if !keyed then (false, s)
  else
  let plain (s : State) : Bool × State := match s.bootSlot r.slotAOk r.slotBOk with
    | (some b, s) => (true, s.runSlot b)
    | (none, s) => (false, s)
  match s.upd.fell with
  | some b =>
    let s := s.setUpd { s.upd with fell := none, request := none }
    if s.sec.inPlace then (false, s.setSlot false none) else plain ((s.setSlot b none).raise R.UPD_STATUS 6)
  | none => match s.upd.request with
    | none => plain s
    | some q =>
      if s.sec.inPlace then
        match s.imageChecks q.base with
        | (.inr info, s) => (true, ((s.setSlot false (some info)).flashErase).startTrial false q)
        | (.inl _, s) => plain ((s.setUpd { s.upd with request := none }).raise R.UPD_STATUS 6)
      else
        let b := !s.upd.runB
        let ok := if b then r.slotBOk && s.upd.slotB.isSome else r.slotAOk && s.upd.slotA.isSome
        if ok then (true, s.startTrial b q) else plain ((s.setUpd { s.upd with request := none }).setSlot b none |>.raise R.UPD_STATUS 6)

/-- R515: the registers that name the running image. The build number of the microcode is not stated: a free value. -/
def versionRegs (s : State) : State := match s.upd.run with
  | none => s
  | some x =>
    let (v, s) := s.fresh
    (List.range 16).foldl (fun s e => s.setReg (R.REn_UCODE_VER e) (w32 (x.compat % 256 * 65536 + v % 65536)))
      (s.setReg R.UPD_RUN_COMPAT (w32 x.compat))

/-- R533, R30: one thing that the control firmware restores: it writes a register, or bytes of the configuration store go to DRAM. -/
def restore1 (s : State) (x : Restore) : State := match x with
  | .reg offset v => s.busWrite .core offset v
  | .table address source length =>
    (s.landBytes address ((List.range length).filterMap (fun i =>
      if flashArea (source + i) = some .config then some (s.flashByte (source + i)) else none))).2

/-- R533: stage 6: the control firmware restores the configuration store. What the store's format leaves to the firmware comes with the
row (log entry 45). -/
def restoreStage (s : State) (r : BootReport) : State := r.restored.foldl restore1 s

/-- R533: stage 7: the known-answer test and the class 0 coefficients. -/
def lastStage (s : State) (r : BootReport) : State :=
  let failed := r.katFailed.filter (fun e => decide (e < 16))
  let s := failed.foldl katFailed s
  let s : State := { s with winnow := { s.winnow with kat := some failed } }
  (r.delays.filter (fun x => scClass x.1 == some 0)).foldl (fun s x => s.scPut x.1 x.2) s

/-- R536: show-ready. -/
def showReady (s : State) (ms : Nat) : State :=
  let woke := s.power.woke
  let s := s.setPower { s.power with ready := true, bootDue := false, overruns := 0, newSupply := false }
  let s := (s.raise R.PWR_STATUS 0).setReg R.PWR_BOOT_TIME (w32 (ms % 65536))
  if woke then (s.raise R.PWR_STATUS 1).raise R.PWR_STATUS 2 else s

/-- R485: stage 3: the firmware is verified with the key in slot 1, where the key store delivers it. -/
def firmwareKeyed (s : State) : Bool × State := match s.askKey 1 1 with
  | (some _, s) => (true, s)
  | (none, s) => (false, s)

/-- R533–R537: a boot, from stage 1 to show-ready or to RECOVERY. -/
def bootRun (s : State) (r : BootReport) : State :=
  if !s.power.bootDue then s
  else
    let s := (s.setPower { s.power with pllUp := true, lost := [] }).secStart r.pufOk r.ber
    let s := if r.late = 0 then s else s.setField R.PWR_BOOT_STAGE 18 16 r.late
    if s.sec.state = .nokey then s.toRecovery
    else
    let (keyed, s) := s.firmwareKeyed
    if !keyed || !r.firmwareOk then s.toRecovery
    else
      let s := s.trainStage r
      match s.imageStage r with
      | (false, s) => s.toRecovery
      | (true, s) => ((s.versionRegs.restoreStage r).lastStage r).showReady r.ms

/-- R537: a stage exceeds twice its limit: a WARM reset; the third in a row ends in RECOVERY. -/
def stageOverrun (s : State) (stage : Nat) : State :=
  if !s.power.bootDue then s
  else
    let n := s.power.overruns + 1
    let s := if 3 ≤ n then (s.setPower { s.power with overruns := 0 }).toRecovery
      else (s.setPower { s.power with overruns := n }).mainReset .warm 3
    s.setField R.PWR_BOOT_STAGE 18 16 stage

end State

/-! ## Meanings -/

def execBoot (r : BootReport) (s : State) : Host.Outcome State Fault Refusal := onMain s (·.bootRun r)

def execBootStageOverrun (stage : Nat) (s : State) : Host.Outcome State Fault Refusal := onMain s (·.stageOverrun stage)

end Sys2Proof.Machine
end

