-- ==== Sys2Proof/Machine/Dispatch.lean ====
section
/-! DEFINITION. One arm per command of spec/opcode_table.json: a direct call of its meaning. -/

namespace Sys2Proof.Machine

/-- The effect of one command on everything but the queue. -/
def exec (i : Instr) (s : State) : Host.Outcome State Fault Refusal :=
  match i with
  | .registerWrite init offset value be => Sys2Proof.Machine.execRegisterWrite init offset value be s
  | .unmappedAccess offset write => Sys2Proof.Machine.execUnmappedAccess offset write s
  | .postedWriteComplete key => Sys2Proof.Machine.execPostedWriteComplete key s
  | .updateNow groups => Sys2Proof.Machine.execUpdateNow groups s
  | .updateAtEpoch groups => Sys2Proof.Machine.execUpdateAtEpoch groups s
  | .updateAtHeel groups => Sys2Proof.Machine.execUpdateAtHeel groups s
  | .updateReservedWhen groups => Sys2Proof.Machine.execUpdateReservedWhen groups s
  | .groupApplyImmediate => Sys2Proof.Machine.execGroupApplyImmediate s
  | .paritySweep upsets => Sys2Proof.Machine.execParitySweep upsets s
  | .epochBoundary => Sys2Proof.Machine.execEpochBoundary s
  | .heelTimeReached => Sys2Proof.Machine.execHeelTimeReached s
  | .timeMeasWrite e => Sys2Proof.Machine.execTimeMeasWrite e s
  | .ptpSyncRx port phase seq domain twoStep t1 correction => Sys2Proof.Machine.execPtpSyncRx port phase seq domain twoStep t1 correction s
  | .ptpMessageRx port phase domain msg => Sys2Proof.Machine.execPtpMessageRx port phase domain msg s
  | .ptpSyncTx port => Sys2Proof.Machine.execPtpSyncTx port s
  | .ppsCapture edge => Sys2Proof.Machine.execPpsCapture edge s
  | .ppsMissing => Sys2Proof.Machine.execPpsMissing s
  | .ref10mMeasure => Sys2Proof.Machine.execRef10mMeasure s
  | .ref10mMissing => Sys2Proof.Machine.execRef10mMissing s
  | .holdoverTimeout => Sys2Proof.Machine.execHoldoverTimeout s
  | .timeRateWrite rate => Sys2Proof.Machine.execTimeRateWrite rate s
  | .timeStepWrite step => Sys2Proof.Machine.execTimeStepWrite step s
  | .timeSetWrite ns secLo secHi => Sys2Proof.Machine.execTimeSetWrite ns secLo secHi s
  | .framePeriodWrite num den => Sys2Proof.Machine.execFramePeriodWrite num den s
  | .epochAdjWrite value => Sys2Proof.Machine.execEpochAdjWrite value s
  | .ltcFrameRx tc ub ago => Sys2Proof.Machine.execLtcFrameRx tc ub ago s
  | .ltcLoss => Sys2Proof.Machine.execLtcLoss s
  | .ltcOutFrame => Sys2Proof.Machine.execLtcOutFrame s
  | .tsqPop => Sys2Proof.Machine.execTsqPop s
  | .tsqLostPop => Sys2Proof.Machine.execTsqLostPop s
  | .hoTargetPush pin ns secLo secHi => Sys2Proof.Machine.execHoTargetPush pin ns secLo secHi s
  | .heelOutEdge pin => Sys2Proof.Machine.execHeelOutEdge pin s
  | .pllUnlock unit => Sys2Proof.Machine.execPllUnlock unit s
  | .pllRelock unit => Sys2Proof.Machine.execPllRelock unit s
  | .sbyTrimMeasure error => Sys2Proof.Machine.execSbyTrimMeasure error s
  | .videoPacketRx rx hdr seq ts marker srds => Sys2Proof.Machine.execVideoPacketRx rx hdr seq ts marker srds s
  | .audioPacketRx rx hdr seq ts payload => Sys2Proof.Machine.execAudioPacketRx rx hdr seq ts payload s
  | .pathTimeout rx audio pathB => Sys2Proof.Machine.execPathTimeout rx audio pathB s
  | .audioGap rx => Sys2Proof.Machine.execAudioGap rx s
  | .audioLagSecond => Sys2Proof.Machine.execAudioLagSecond s
  | .rasterFetchDone line => Sys2Proof.Machine.execRasterFetchDone line s
  | .rasterPixelDue => Sys2Proof.Machine.execRasterPixelDue s
  | .rasterHoldRelease => Sys2Proof.Machine.execRasterHoldRelease s
  | .previewHpd output trained => Sys2Proof.Machine.execPreviewHpd output trained s
  | .previewPixelDue output fetched => Sys2Proof.Machine.execPreviewPixelDue output fetched s
  | .pvAuxCmd output value => Sys2Proof.Machine.execPvAuxCmd output value s
  | .auxDone output result data => Sys2Proof.Machine.execAuxDone output result data s
  | .graphCopyDone => Sys2Proof.Machine.execGraphCopyDone s
  | .grainReady node => Sys2Proof.Machine.execGrainReady node s
  | .grainTake engine => Sys2Proof.Machine.execGrainTake engine s
  | .grainComplete engine => Sys2Proof.Machine.execGrainComplete engine s
  | .frameComplete => Sys2Proof.Machine.execFrameComplete s
  | .frameDeadline => Sys2Proof.Machine.execFrameDeadline s
  | .engineWatchdog engine => Sys2Proof.Machine.execEngineWatchdog engine s
  | .localStoreError engine corrected => Sys2Proof.Machine.execLocalStoreError engine corrected s
  | .engineRestart engine => Sys2Proof.Machine.execEngineRestart engine s
  | .paramDataWrite value => Sys2Proof.Machine.execParamDataWrite value s
  | .calibGainsDone => Sys2Proof.Machine.execCalibGainsDone s
  | .calibCopy => Sys2Proof.Machine.execCalibCopy s
  | .calibCopyDone => Sys2Proof.Machine.execCalibCopyDone s
  | .calibCommit atEpoch => Sys2Proof.Machine.execCalibCommit atEpoch s
  | .commitValidated => Sys2Proof.Machine.execCommitValidated s
  | .calibCancel => Sys2Proof.Machine.execCalibCancel s
  | .safeInWrite zone value => Sys2Proof.Machine.execSafeInWrite zone value s
  | .scCoeffWrite offset value => Sys2Proof.Machine.execScCoeffWrite offset value s
  | .scApplyIfg lane => Sys2Proof.Machine.execScApplyIfg lane s
  | .planDiagClear => Sys2Proof.Machine.execPlanDiagClear s
  | .planDiagClearDone => Sys2Proof.Machine.execPlanDiagClearDone s
  | .ledStatusAge led => Sys2Proof.Machine.execLedStatusAge led s
  | .voconSinkRecord => Sys2Proof.Machine.execVoconSinkRecord s
  | .fragmentReady tile epoch idx => Sys2Proof.Machine.execFragmentReady tile epoch idx s
  | .planFragmentSend port => Sys2Proof.Machine.execPlanFragmentSend port s
  | .resendWindowClose => Sys2Proof.Machine.execResendWindowClose s
  | .vcnKeyAgeLimit => Sys2Proof.Machine.execVcnKeyAgeLimit s
  | .helloRx port frame => Sys2Proof.Machine.execHelloRx port frame s
  | .echoReportRx port frame => Sys2Proof.Machine.execEchoReportRx port frame s
  | .echoLossRx port frame => Sys2Proof.Machine.execEchoLossRx port frame s
  | .echoDetectRx port frame => Sys2Proof.Machine.execEchoDetectRx port frame s
  | .cfgrspRx port frame => Sys2Proof.Machine.execCfgrspRx port frame s
  | .diagPingRx port frame => Sys2Proof.Machine.execDiagPingRx port frame s
  | .diagTileRx port frame => Sys2Proof.Machine.execDiagTileRx port frame s
  | .heelCopySend => Sys2Proof.Machine.execHeelCopySend s
  | .verifySinkRecord => Sys2Proof.Machine.execVerifySinkRecord s
  | .verifyClose => Sys2Proof.Machine.execVerifyClose s
  | .fixtureSinkRecord => Sys2Proof.Machine.execFixtureSinkRecord s
  | .sacnPacketSend => Sys2Proof.Machine.execSacnPacketSend s
  | .sacnGuardExpiry => Sys2Proof.Machine.execSacnGuardExpiry s
  | .sacnSyncSend => Sys2Proof.Machine.execSacnSyncSend s
  | .streamTerminatedSend => Sys2Proof.Machine.execStreamTerminatedSend s
  | .sacnInputRx port packet => Sys2Proof.Machine.execSacnInputRx port packet s
  | .sacnInputSyncRx port packet => Sys2Proof.Machine.execSacnInputSyncRx port packet s
  | .sacnSourceLoss input cid => Sys2Proof.Machine.execSacnSourceLoss input cid s
  | .eptAge entry => Sys2Proof.Machine.execEptAge entry s
  | .fixOvrDataWrite value => Sys2Proof.Machine.execFixOvrDataWrite value s
  | .dmxPacketStart port => Sys2Proof.Machine.execDmxPacketStart port s
  | .dmxPacketRx port brkNs mabNs framingError packet => Sys2Proof.Machine.execDmxPacketRx port brkNs mabNs framingError packet s
  | .dmxSourceLoss port => Sys2Proof.Machine.execDmxSourceLoss port s
  | .rdmGo port => Sys2Proof.Machine.execRdmGo port s
  | .rdmResponseRx port ago collision response => Sys2Proof.Machine.execRdmResponseRx port ago collision response s
  | .rdmTimeout port => Sys2Proof.Machine.execRdmTimeout port s
  | .uartCharRx port data parity stop start ago => Sys2Proof.Machine.execUartCharRx port data parity stop start ago s
  | .uartBreakDetect port => Sys2Proof.Machine.execUartBreakDetect port s
  | .uartBreakEnd port cycles => Sys2Proof.Machine.execUartBreakEnd port cycles s
  | .uartLineStuck port => Sys2Proof.Machine.execUartLineStuck port s
  | .uartStuckRearm port => Sys2Proof.Machine.execUartStuckRearm port s
  | .uartRxTimeout port => Sys2Proof.Machine.execUartRxTimeout port s
  | .uartDataRead port => Sys2Proof.Machine.execUartDataRead port s
  | .uartDataWrite port value => Sys2Proof.Machine.execUartDataWrite port value s
  | .uartLsrRead port => Sys2Proof.Machine.execUartLsrRead port s
  | .uartTxEntryStart port => Sys2Proof.Machine.execUartTxEntryStart port s
  | .uartTxDone port => Sys2Proof.Machine.execUartTxDone port s
  | .flushRx port => Sys2Proof.Machine.execFlushRx port s
  | .flushTx port => Sys2Proof.Machine.execFlushTx port s
  | .sentenceComplete port => Sys2Proof.Machine.execSentenceComplete port s
  | .hubTxqMove port => Sys2Proof.Machine.execHubTxqMove port s
  | .ruleCopyDone => Sys2Proof.Machine.execRuleCopyDone s
  | .sigmapPass evaluated => Sys2Proof.Machine.execSigmapPass evaluated s
  | .macFrameRx port frame info => Sys2Proof.Machine.execMacFrameRx port frame info s
  | .pauseRx port quanta wire => Sys2Proof.Machine.execPauseRx port quanta wire s
  | .pfcRx port enable times wire => Sys2Proof.Machine.execPfcRx port enable times wire s
  | .pauseExpiry port => Sys2Proof.Machine.execPauseExpiry port s
  | .leashLimit port => Sys2Proof.Machine.execLeashLimit port s
  | .leashHoldEnd port => Sys2Proof.Machine.execLeashHoldEnd port s
  | .fcXoffSend port held => Sys2Proof.Machine.execFcXoffSend port held s
  | .fcRefresh port held => Sys2Proof.Machine.execFcRefresh port held s
  | .fcXonSend port held => Sys2Proof.Machine.execFcXonSend port held s
  | .macTxFrame port during dry => Sys2Proof.Machine.execMacTxFrame port during dry s
  | .deadlineDrop port => Sys2Proof.Machine.execDeadlineDrop port s
  | .macLinkChange port link => Sys2Proof.Machine.execMacLinkChange port link s
  | .preemptVerify port answered => Sys2Proof.Machine.execPreemptVerify port answered s
  | .wakeFrameRx port frame => Sys2Proof.Machine.execWakeFrameRx port frame s
  | .downshiftDown port => Sys2Proof.Machine.execDownshiftDown port s
  | .downshiftUp port => Sys2Proof.Machine.execDownshiftUp port s
  | .macsecSaWrite port sc an value => Sys2Proof.Machine.execMacsecSaWrite port sc an value s
  | .macStatRead port counter => Sys2Proof.Machine.execMacStatRead port counter s
  | .cmdTailWrite ring value => Sys2Proof.Machine.execCmdTailWrite ring value s
  | .cplHeadWrite ring value => Sys2Proof.Machine.execCplHeadWrite ring value s
  | .ringEnable ring => Sys2Proof.Machine.execRingEnable ring s
  | .ringDisable ring => Sys2Proof.Machine.execRingDisable ring s
  | .ringDrained ring => Sys2Proof.Machine.execRingDrained ring s
  | .descriptorFetch failed => Sys2Proof.Machine.execDescriptorFetch failed s
  | .nop ring => Sys2Proof.Machine.execNop ring s
  | .paramWrite ring => Sys2Proof.Machine.execParamWrite ring s
  | .dmaToDevice ring => Sys2Proof.Machine.execDmaToDevice ring s
  | .dmaFromDevice ring => Sys2Proof.Machine.execDmaFromDevice ring s
  | .dmaComplete ring index failed => Sys2Proof.Machine.execDmaComplete ring index failed s
  | .calibOp ring => Sys2Proof.Machine.execCalibOp ring s
  | .updateOp ring => Sys2Proof.Machine.execUpdateOp ring s
  | .epochWait ring => Sys2Proof.Machine.execEpochWait ring s
  | .txFrame ring => Sys2Proof.Machine.execTxFrame ring s
  | .rxPost ring => Sys2Proof.Machine.execRxPost ring s
  | .pcieLinkLoss => Sys2Proof.Machine.execPcieLinkLoss s
  | .functionLevelReset => Sys2Proof.Machine.execFunctionLevelReset s
  | .farWrite ring => Sys2Proof.Machine.execFarWrite ring s
  | .farRead ring => Sys2Proof.Machine.execFarRead ring s
  | .farPieceTimeout tag => Sys2Proof.Machine.execFarPieceTimeout tag s
  | .prefetchExpire window => Sys2Proof.Machine.execPrefetchExpire window s
  | .farPoll => Sys2Proof.Machine.execFarPoll s
  | .farPollTimeout tile => Sys2Proof.Machine.execFarPollTimeout tile s
  | .intcOffer ie asleep => Sys2Proof.Machine.execIntcOffer ie asleep s
  | .intcEntry core => Sys2Proof.Machine.execIntcEntry core s
  | .intcEoi core source => Sys2Proof.Machine.execIntcEoi core source s
  | .intcSrcWrite source value => Sys2Proof.Machine.execIntcSrcWrite source value s
  | .intcPendWrite index value => Sys2Proof.Machine.execIntcPendWrite index value s
  | .intcModRelease core => Sys2Proof.Machine.execIntcModRelease core s
  | .intcCoreIdle core => Sys2Proof.Machine.execIntcCoreIdle core s
  | .msixMessage vector => Sys2Proof.Machine.execMsixMessage vector s
  | .msixModExpiry vector => Sys2Proof.Machine.execMsixModExpiry vector s
  | .braceStateSend => Sys2Proof.Machine.execBraceStateSend s
  | .braceStateRx frame => Sys2Proof.Machine.execBraceStateRx frame s
  | .braceReleaseRx frame => Sys2Proof.Machine.execBraceReleaseRx frame s
  | .braceHandoverRx frame => Sys2Proof.Machine.execBraceHandoverRx frame s
  | .echoFwdRx frame => Sys2Proof.Machine.execEchoFwdRx frame s
  | .farReqRx frame => Sys2Proof.Machine.execFarReqRx frame s
  | .farRspRx frame => Sys2Proof.Machine.execFarRspRx frame s
  | .braceSb3Edge => Sys2Proof.Machine.execBraceSb3Edge s
  | .braceSb2Fall => Sys2Proof.Machine.execBraceSb2Fall s
  | .partnerLost => Sys2Proof.Machine.execPartnerLost s
  | .seekTimeout => Sys2Proof.Machine.execSeekTimeout s
  | .braceRelease => Sys2Proof.Machine.execBraceRelease s
  | .braceCmdRelease => Sys2Proof.Machine.execBraceCmdRelease s
  | .braceCmdHandover => Sys2Proof.Machine.execBraceCmdHandover s
  | .braceCmdRejoin => Sys2Proof.Machine.execBraceCmdRejoin s
  | .braceOp ring => Sys2Proof.Machine.execBraceOp ring s
  | .katRun passed => Sys2Proof.Machine.execKatRun passed s
  | .confirmationTestDone failed => Sys2Proof.Machine.execConfirmationTestDone failed s
  | .classDigestDone cls => Sys2Proof.Machine.execClassDigestDone cls s
  | .sheafSweep => Sys2Proof.Machine.execSheafSweep s
  | .sheafArm => Sys2Proof.Machine.execSheafArm s
  | .sheafDisarm => Sys2Proof.Machine.execSheafDisarm s
  | .sheafRecompute => Sys2Proof.Machine.execSheafRecompute s
  | .sheafOpArm ring => Sys2Proof.Machine.execSheafOpArm ring s
  | .sheafOpDisarm ring => Sys2Proof.Machine.execSheafOpDisarm ring s
  | .sheafOpRecompute ring => Sys2Proof.Machine.execSheafOpRecompute ring s
  | .keyLoad ring written => Sys2Proof.Machine.execKeyLoad ring written s
  | .keyUnwrap ring written => Sys2Proof.Machine.execKeyUnwrap ring written s
  | .keyErase ring => Sys2Proof.Machine.execKeyErase ring s
  | .keyInfo ring => Sys2Proof.Machine.execKeyInfo ring s
  | .tamperClear ring => Sys2Proof.Machine.execTamperClear ring s
  | .debugClose ring => Sys2Proof.Machine.execDebugClose ring s
  | .tamperDetect source reading => Sys2Proof.Machine.execTamperDetect source reading s
  | .secMaintWrite minutes => Sys2Proof.Machine.execSecMaintWrite minutes s
  | .maintEnd => Sys2Proof.Machine.execMaintEnd s
  | .checkFeed8 init unit value => Sys2Proof.Machine.execCheckFeed8 init unit value s
  | .checkFeed16 init unit value => Sys2Proof.Machine.execCheckFeed16 init unit value s
  | .checkFeed32 init unit value => Sys2Proof.Machine.execCheckFeed32 init unit value s
  | .checkInit init unit => Sys2Proof.Machine.execCheckInit init unit s
  | .checkAppend init unit => Sys2Proof.Machine.execCheckAppend init unit s
  | .checkFrameEnd unit => Sys2Proof.Machine.execCheckFrameEnd unit s
  | .updOpen peer message => Sys2Proof.Machine.execUpdOpen peer message s
  | .updBlock peer message => Sys2Proof.Machine.execUpdBlock peer message s
  | .updVerify peer message => Sys2Proof.Machine.execUpdVerify peer message s
  | .imageWriteDone matching => Sys2Proof.Machine.execImageWriteDone matching s
  | .updActivate peer message => Sys2Proof.Machine.execUpdActivate peer message s
  | .updAbort peer message => Sys2Proof.Machine.execUpdAbort peer message s
  | .updStatusReq peer message => Sys2Proof.Machine.execUpdStatusReq peer message s
  | .updRecover peer message => Sys2Proof.Machine.execUpdRecover peer message s
  | .updSessionTimeout => Sys2Proof.Machine.execUpdSessionTimeout s
  | .updOpVerify ring => Sys2Proof.Machine.execUpdOpVerify ring s
  | .updOpActivate ring => Sys2Proof.Machine.execUpdOpActivate ring s
  | .updOpConfirm ring => Sys2Proof.Machine.execUpdOpConfirm ring s
  | .updOpReject ring => Sys2Proof.Machine.execUpdOpReject ring s
  | .updOpAbort ring => Sys2Proof.Machine.execUpdOpAbort ring s
  | .trialTimeout => Sys2Proof.Machine.execTrialTimeout s
  | .pwrCmdShow => Sys2Proof.Machine.execPwrCmdShow s
  | .pwrCmdIdle => Sys2Proof.Machine.execPwrCmdIdle s
  | .pwrCmdStandby => Sys2Proof.Machine.execPwrCmdStandby s
  | .pwrCmdWarm => Sys2Proof.Machine.execPwrCmdWarm s
  | .standbyEntryDone => Sys2Proof.Machine.execStandbyEntryDone s
  | .wakePin => Sys2Proof.Machine.execWakePin s
  | .rtcAlarm => Sys2Proof.Machine.execRtcAlarm s
  | .supply12vRise => Sys2Proof.Machine.execSupply12vRise s
  | .supply12vFail => Sys2Proof.Machine.execSupply12vFail s
  | .supply33vLoss => Sys2Proof.Machine.execSupply33vLoss s
  | .pinReset => Sys2Proof.Machine.execPinReset s
  | .coreWatchdogReset security => Sys2Proof.Machine.execCoreWatchdogReset security s
  | .boot r => Sys2Proof.Machine.execBoot r s
  | .bootStageOverrun stage => Sys2Proof.Machine.execBootStageOverrun stage s
  | .dramScrub found => Sys2Proof.Machine.execDramScrub found s
  | .dramUeShow address => Sys2Proof.Machine.execDramUeShow address s
  | .sramScrub found => Sys2Proof.Machine.execSramScrub found s
  | .flashRefresh offset correctedBits uncorrectable => Sys2Proof.Machine.execFlashRefresh offset correctedBits uncorrectable s
  | .telemetrySample temps volts => Sys2Proof.Machine.execTelemetrySample temps volts s
  | .selfCalMeasure results => Sys2Proof.Machine.execSelfCalMeasure results s
  | .gpioSet high value => Sys2Proof.Machine.execGpioSet high value s
  | .gpioClr high value => Sys2Proof.Machine.execGpioClr high value s
  | .pinInterruptEdge pin edge => Sys2Proof.Machine.execPinInterruptEdge pin edge s
  | .bar4Access offset write count => Sys2Proof.Machine.execBar4Access offset write count s
  | .pcieLinkUp gen width bar4 msixEn funcMask => Sys2Proof.Machine.execPcieLinkUp gen width bar4 msixEn funcMask s
  | .supply33vRise => Sys2Proof.Machine.execSupply33vRise s
  | .delayReqSend port => Sys2Proof.Machine.execDelayReqSend port s
  | .uartFalseStart port => Sys2Proof.Machine.execUartFalseStart port s
  | .lineRiseHeldCharacter port => Sys2Proof.Machine.execLineRiseHeldCharacter port s
  | .heelOutPulseEnd pin => Sys2Proof.Machine.execHeelOutPulseEnd pin s
  | .sacnSyncHoldExpiry input cid => Sys2Proof.Machine.execSacnSyncHoldExpiry input cid s
  | .previewHpdDrop output => Sys2Proof.Machine.execPreviewHpdDrop output s
  | .updVerifyDone => Sys2Proof.Machine.execUpdVerifyDone s
  | .trngHealthFail => Sys2Proof.Machine.execTrngHealthFail s

end Sys2Proof.Machine
end

