-- ==== Sys2Proof/Safety.lean ====
section
/-! DEFINITION. The terms claims are stated in: what a command may leave changed, and the properties that every step keeps. A run of
this block is safe when each of its steps answers a next state; there is no command that does not (Obligations.EveryCommandAnswers). -/

namespace Sys2Proof.Machine

namespace State

/-- What every command leaves alone of the interrupt controller unless it is a command to that controller: what its sources are
set to and which are masked. -/
def SameSources (u t : State) : Prop := t.intc.src = u.intc.src ∧ t.intc.mask = u.intc.mask

/-- t is u, but for the live values of the registers of the list l, the interrupt controller's own bookkeeping (what is pending and
offered, and the count of offers withdrawn, INTC_REROUTE_CNT: R434–R442 act after every command), and what left the device. Every
other register, every shadow, all of DRAM, every other block and the queue are as in u. -/
def Differs (l : List Nat) (u t : State) : Prop :=
  (∀ a, a ∉ l → a ≠ R.INTC_REROUTE_CNT → t.reg a = u.reg a)
    ∧ SameSources u t
    ∧ t = { u with regs := t.regs, intc := t.intc, out := t.out }

/-- The same without the registers' values: t has the fields of u outside the registers, the controller and what left the device. -/
def SameBlocks (u t : State) : Prop := t = { u with regs := t.regs, intc := t.intc, out := t.out }

/-- R434, R437: the sampling rule: a source that is not enabled is not pending, and an enabled level source that is asserted is. -/
def PendRule (s : State) : Prop :=
  ∀ k, (s.srcEn k = false → s.isPend k = false) ∧ (s.srcEn k = true → s.srcEdge k = false → s.level k = true → s.isPend k = true)

/-- R435, R438: what a core is offered is deliverable to it. -/
def OfferRule (s : State) : Prop :=
  ∀ c k, c < 4 → (s.coreOf c).offer = some k → s.deliverable k c = true

/-- The memories have their canonical form. -/
def MemRule (s : State) : Prop := Memory.wf s.dram = true ∧ Memory.wf s.host.mem = true

end State

end Sys2Proof.Machine
end

