-- ==== Sys2Proof/Certificates/Slice0/Obligations.lean ====
section
/-! DEFINITION. The statements for the provers, and the predicates they are written with. A statement whose title names several
instructions or rules is the conjunction of one clause each; every clause about an instruction concludes that exec answers a next
state, and says what that state is. -/

open Sys2Proof Sys2Proof.Machine

/-- Reset values that the register tables state, one or more of each block that has a register whose reset value is not 0, and what R531 says of a
POWER-ON reset: the FRC starts from 0, the cause reads POWER-ON, the device is not ready, and no command waits. -/
def resetRegisters : Prop :=
  let s := State.reset
  s.reg R.GLOBAL_ID = 0x4B5A9160 ∧ s.reg R.CLOCK_CTRL = 1 ∧ s.reg R.PWR_RST_CAUSE = 1 ∧ s.reg R.SBY_CTRL = 1 ∧ s.reg R.UPD_PORT = 0xB83A
    ∧ s.reg R.UPD_HEALTH_WINDOW = 0x78 ∧ s.reg R.WIN_CTRL = 1 ∧ s.reg R.WIN_TEMP_LIM = 0x06E00640 ∧ s.reg (R.WIN_TEMPi_MM 0) = 0x80007FFF
    ∧ s.reg R.WIN_VBAT_MIN = 0x9C4 ∧ s.reg R.GPIO_OUT_LO = 0 ∧ s.reg R.UPD_STATUS = 0
    ∧ s.time.frc = 0 ∧ s.time.offset = 0 ∧ s.time.rate = 0 ∧ s.power.ready = false ∧ s.power.inShow = false ∧ s.staged = []
    ∧ s.pending = [] ∧ s.sec.slots = [] ∧ s.host.ring = [] ∧ s.kennel.graph = none

/-- The invariants hold at reset: the interrupt controller's rules and the canonical form of the memories. -/
def resetInvariants : Prop := State.reset.PendRule ∧ State.reset.OfferRule ∧ State.reset.MemRule

/-- R6, R531: what reset leaves, and that the invariants hold there: the interrupt controller's rules and the canonical form of the memories. -/
def Obligations.ResetValues : Prop := resetRegisters ∧ resetInvariants

/-- R41: a write by this initiator at address a goes to the register offset o: a host and the partner name the offset, a control core the
offset or 0xFF_0000_0000 and the offset, since its lowest 16 GiB are DRAM. -/
abbrev toRegister (init : Initiator) (a o : Nat) : Prop := State.barOffset init a = o ∧ ¬ (init = .core ∧ a < State.dramSize)

/-- R43, R44: an access to an alias, write or read, is an access to the register that it repeats. -/
def aliasWrites : Prop :=
  (∀ (s : State) (init : Initiator) (a b x y be : Nat) (v : Word), toRegister init a x → toRegister init b y →
    resolve x = resolve y → resolve x ≠ .unmapped →
    exec (.registerWrite init a v be) s = exec (.registerWrite init b v be) s)
  ∧ (∀ (s : State) (a b : Nat), resolve a = resolve b → resolve a ≠ .unmapped → s.busRead a = s.busRead b ∧ s.readWord a = s.readWord b)
  ∧ (∀ k l, k < 16 → l < 0x100 → resolve (0x100 * k + l) = resolve l)
  ∧ (∀ k l, k < 16 → l < 0x1000 → resolve (0x20000 + 0x1000 * k + l) = resolve (0x20000 + l))
  ∧ (∀ n l, n < 37 → l < 0x1000 → resolve (0x100000 + 0x2000 * n + 0x1000 + l) = resolve (0x100000 + 0x2000 * n + l))
  ∧ (∀ a, a < 0x4000000 → (0x250000 ≤ a ∨ 0xD0000 ≤ a ∧ a < 0x100000 ∨ 0x14A000 ≤ a ∧ a < 0x180000 ∨ 0x190000 ≤ a ∧ a < 0x1A0000
      ∨ 0x1F0800 ≤ a ∧ a < 0x200000) → resolve a = .unmapped)

/-- R42 and the order of the queue: the step takes the command at the front and carries it out with the queue's rest. -/
def stepRunsFront : Prop :=
  ∀ (c : Instr) (s : State) (rest : List Instr), s.pending = c :: rest → step s = exec c { s with pending := rest }

/-- Log entry 3: with an empty queue one cycle of CLK_ENGINE passes while MAIN works: the FRC counts one, R72. -/
def emptyQueueTicks : Prop :=
  ∀ s : State, s.pending = [] → s.mainOn = true →
    ∃ t, step s = .next t ∧ t.time = { s.time with frc := (s.time.frc + 1) % 2 ^ 64 } ∧ State.Differs [] { s with time := t.time } t

/-- R42, R72: the step takes the command at the front of the queue and carries it out with the queue's rest; with an empty queue the FRC counts
one cycle (log entry 3). -/
def Obligations.StepRunsFront : Prop := stepRunsFront ∧ emptyQueueTicks

/-- Every command, in every state, answers a next state: none faults and none is refused. -/
def everyCommandAnswers : Prop := ∀ (c : Instr) (s : State), ∃ t, exec c s = .next t

/-- A write of the register at local offset l of block b does what its row says, each field under its own access code, and nothing else.
Registers whose write has an effect of its own, and those whose chapters give their writes rules of their own, have statements of their own. -/
def byRow (b : Block) (l : Nat) : Bool := match b with
  | .clock | .ingestRx | .ingest | .vocon | .heel | .sigmap | .farbr | .upd | .dram => true
  | .global => l != 0x10
  | .power => l != 0 && l != 0x818
  | .intc => decide (0x2200 ≤ l) && (decide (l < 0x3100) || decide (0x3200 ≤ l))
  | .time => decide (l < 0x400) && !([0x000, 0x030, 0x034, 0x058, 0x060, 0x064, 0x068, 0x06C, 0x084, 0x088, 0x090, 0x104, 0x124].contains l)
  | .host => decide (l < 0x400) || decide (0xC00 ≤ l)
  | .kennel => decide (l < 0x1000) && l != 0x34 && l != 0x94
  | .engine => !([0x00, 0x10, 0x14, 0x18].contains l)
  | .raster => !([0x20, 0x124, 0x1A4].contains l)
  | .calib => l != 0x24 && (decide (l < 0x400) || decide (0x800 ≤ l))
  | .plan => l != 0x28
  | .fixture => !([0x58, 0x5C, 0x60].contains l)
  | .mac => decide (l < 0x800)
  | .brace => l != 0x00 && l != 0x0C
  | .sheaf => l != 0x08 && l != 0x34
  | .sec => decide (l < 0x800)
  | .winnow => decide (l < 0x100)
  | .pins => !([0x30, 0x34, 0x38, 0x3C].contains l)
  | .uart | .hub | .check => false

/-- R6 (RW), R64: a whole-word write changes exactly the RW bits of a register whose row has no other writable field. Of a value wider than
a word, a write of the lower word is held and changes nothing; the write of the most significant word enters both. -/
def registerWriteRw : Prop :=
  (∀ (s : State) (init : Initiator) (a o : Nat) (b : Block) (i l : Nat) (r : RegRow) (m : Nat) (v : Word),
    s.mainOn = true → toRegister init a o → resolve o = .at b i l → rowAt b i l = some r → r.fields = [(.rw, m)] → r.out = 0 → byRow b l = true →
    busyKey (canon b i l) = none → State.scClass (canon b i l) = none → canon b i l ≠ R.INTC_REROUTE_CNT →
    isWideLow b l = false → wideLow b l = none →
    ∃ t, exec (.registerWrite init a v 15) s = .next t
      ∧ t.reg (canon b i l) = blend (s.reg (canon b i l)) v (BitVec.ofNat 32 m)
      ∧ State.Differs [canon b i l] { s with badLive := t.badLive } t)
  ∧ (∀ (s : State) (init : Initiator) (a o : Nat) (b : Block) (i l : Nat) (r : RegRow) (v : Word),
    s.mainOn = true → s.inShow = false → toRegister init a o → resolve o = .at b i l → rowAt b i l = some r → byRow b l = true →
    busyKey (canon b i l) = none → isWideLow b l = true →
    ∃ t, exec (.registerWrite init a v 15) s = .next t ∧ t.held (canon b i l) = v ∧ State.Differs [] { s with latch := t.latch } t)
  ∧ (∀ (s : State) (init : Initiator) (a o : Nat) (b : Block) (i l k : Nat) (r q : RegRow) (m n : Nat) (v : Word),
    s.mainOn = true → s.inShow = false → toRegister init a o → resolve o = .at b i l → rowAt b i l = some r → r.fields = [(.rw, m)] →
    isWideLow b l = false → wideLow b l = some k → rowAt b i k = some q → q.fields = [(.rw, n)] → byRow b l = true → byRow b k = true →
    busyKey (canon b i l) = none → State.scClass (canon b i l) = none → State.scClass (canon b i k) = none → canon b i l ≠ canon b i k →
    ∃ t, exec (.registerWrite init a v 15) s = .next t
      ∧ t.reg (canon b i l) = blend (s.reg (canon b i l)) v (BitVec.ofNat 32 m)
      ∧ t.reg (canon b i k) = blend (s.reg (canon b i k)) (s.held (canon b i k)) (BitVec.ofNat 32 n)
      ∧ State.Differs [canon b i l, canon b i k] { s with badLive := t.badLive } t)

/-- R6, R47, R66, R67, R69, R570: a write of every kind of field. A write of 1 clears exactly the W1C bits it names and sets the W1S bits; an RW
and an unlocked RWL field takes the written value, an RWB field's shadow does; in SHOW a field marked for it keeps its value, with WDROP where
the value differs; under LOCK an RWL field keeps its value, with LOCKERR; a register marked as a whole is not written in SHOW. A WO1 field
takes its first write and ignores another value after it, with LOCKERR; the word that locks keeps its own RWL fields, with LOCKERR where it
would change one. -/
def registerFields : Prop :=
  (∀ (s : State) (init : Initiator) (a o : Nat) (b : Block) (i l : Nat) (r : RegRow) (v : Word),
    s.mainOn = true → toRegister init a o → resolve o = .at b i l → rowAt b i l = some r → byRow b l = true →
    busyKey (canon b i l) = none → State.scClass (canon b i l) = none → canon b i l ≠ R.INTC_REROUTE_CNT →
    isWideLow b l = false → wideLow b l = none → r.mask .wo1 = 0 → (s.inShow = true → r.out ≠ 0xFFFFFFFF) →
    canon b i l ≠ (b.status i).1 ∨ (r.out = 0 ∧ r.mask .rwl = 0) →
    let c := canon b i l
    let has (x : Acc) (k : Nat) : Bool := (r.mask x).getLsbD k
    let barred (k : Nat) : Bool := s.inShow && (BitVec.ofNat 32 r.out).getLsbD k
    let present (k : Nat) : Bool := if has .rwb k then (s.sh c).getLsbD k else (s.reg c).getLsbD k
    ∃ t, exec (.registerWrite init a v 15) s = .next t
      ∧ (∀ k, k < 32 → (t.reg c).getLsbD k = (if has .w1c k then (s.reg c).getLsbD k && !v.getLsbD k
          else if has .w1s k then (s.reg c).getLsbD k || v.getLsbD k
          else if (has .rw k && !barred k) || (has .rwl k && !s.locked b) then v.getLsbD k else (s.reg c).getLsbD k))
      ∧ (∀ k, k < 32 → (t.sh c).getLsbD k = (if has .rwb k && !barred k then v.getLsbD k else (s.sh c).getLsbD k))
      ∧ (c ≠ (b.status i).1 → t.flag (b.status i).1 (b.status i).2.1
          = (s.flag (b.status i).1 (b.status i).2.1 || (List.range 32).any (fun k => barred k && v.getLsbD k != present k)))
      ∧ (c ≠ (b.status i).1 → r.mask .rwl ≠ 0 → s.locked b = true → t.flag (b.status i).1 (b.status i).2.2 = true)
      ∧ State.Differs [c, (b.status i).1] { s with shadow := t.shadow, badShadow := t.badShadow, badLive := t.badLive } t)
  ∧ (∀ (s : State) (init : Initiator) (a o : Nat) (b : Block) (i l : Nat) (r : RegRow) (v : Word),
    s.mainOn = true → s.inShow = true → toRegister init a o → resolve o = .at b i l → rowAt b i l = some r → byRow b l = true →
    busyKey (canon b i l) = none → State.scClass (canon b i l) = none → wideLow b l = none → r.out = 0xFFFFFFFF →
    ∃ t, exec (.registerWrite init a v 15) s = .next t ∧ t.flag (b.status i).1 (b.status i).2.1 = true
      ∧ State.Differs [(b.status i).1] s t)
  ∧ (∀ (s : State) (init : Initiator) (a c : Nat) (b : Block) (v : Word), s.mainOn = true →
    (b, c) ∈ [(Block.global, R.GLOBAL_CTRL), (Block.sec, R.SEC_CTRL)] → toRegister init a c → s.wo1Used.contains c = false → bit v 31 = true →
    s.flag c 31 = false →
    ∃ t, exec (.registerWrite init a v 15) s = .next t ∧ t.flag c 31 = true ∧ t.wo1Used = c :: s.wo1Used ∧ t.locked b = true
      ∧ (b = .sec → t.field c 2 1 = s.field c 2 1 ∧ (fld v 2 1 ≠ s.field c 2 1 → t.flag (b.status 0).1 (b.status 0).2.2 = true)))
  ∧ (∀ (s : State) (init : Initiator) (a c : Nat) (b : Block) (v : Word), s.mainOn = true →
    (b, c) ∈ [(Block.global, R.GLOBAL_CTRL), (Block.sec, R.SEC_CTRL)] → toRegister init a c → s.wo1Used.contains c = true →
    bit v 31 ≠ s.flag c 31 →
    ∃ t, exec (.registerWrite init a v 15) s = .next t ∧ t.flag c 31 = s.flag c 31 ∧ t.flag (b.status 0).1 (b.status 0).2.2 = true
      ∧ t.wo1Used = s.wo1Used)
  ∧ (∀ (s : State) (c k : Nat) (v : Word), s.mainOn = true → c ∈ [R.SEC_TAMPER_CTRL, R.SEC_TAMPER_POL, R.SEC_TEMP_LIMITS] →
    (c ≠ R.SEC_TAMPER_CTRL → ∀ j, j < 8 → s.tamperAction j = 0) → s.posted = [(k, (c, v))] → s.locked .sec = true →
    ∃ t, exec (.postedWriteComplete k) s = .next t ∧ t.reg c = s.reg c ∧ t.flag (Block.sec.status 0).1 (Block.sec.status 0).2.2 = true)

/-- R6 (RWB), R47, R570: a whole-word write of an RWB register goes to its shadow; no live value changes. In SHOW a field that may be written
only outside SHOW keeps its shadow's value, and WDROP is set where the write would change one. -/
def registerWriteRwb : Prop :=
  (∀ (s : State) (init : Initiator) (a o : Nat) (b : Block) (i l : Nat) (r : RegRow) (m : Nat) (v : Word),
    s.mainOn = true → s.inShow = false → toRegister init a o → resolve o = .at b i l → rowAt b i l = some r → r.fields = [(.rwb, m)] →
    BitVec.ofNat 32 m ≠ 0 → byRow b l = true → busyKey (canon b i l) = none → State.scClass (canon b i l) = none →
    isWideLow b l = false → wideLow b l = none →
    ∃ t, exec (.registerWrite init a v 15) s = .next t
      ∧ t.sh (canon b i l) = blend (s.sh (canon b i l)) v (BitVec.ofNat 32 m)
      ∧ (∀ c, c ≠ canon b i l → t.sh c = s.sh c)
      ∧ State.Differs [] { s with shadow := t.shadow, badShadow := t.badShadow } t)
  ∧ (∀ (s : State) (init : Initiator) (a o : Nat) (b : Block) (i l : Nat) (r : RegRow) (m : Nat) (v : Word),
    s.mainOn = true → s.inShow = true → toRegister init a o → resolve o = .at b i l → rowAt b i l = some r → r.fields = [(.rwb, m)] →
    BitVec.ofNat 32 m ≠ 0 → byRow b l = true → busyKey (canon b i l) = none → State.scClass (canon b i l) = none →
    isWideLow b l = false → wideLow b l = none → r.out ≠ 0xFFFFFFFF → BitVec.ofNat 32 r.out &&& ~~~ BitVec.ofNat 32 m = 0 →
    let out := BitVec.ofNat 32 r.out
    ∃ t, exec (.registerWrite init a v 15) s = .next t
      ∧ t.sh (canon b i l) = blend (s.sh (canon b i l)) v (BitVec.ofNat 32 m &&& ~~~ out)
      ∧ (∀ c, c ≠ canon b i l → t.sh c = s.sh c)
      ∧ t.flag (b.status i).1 (b.status i).2.1 = (s.flag (b.status i).1 (b.status i).2.1 || (v ^^^ s.sh (canon b i l)) &&& out != 0)
      ∧ State.Differs [(b.status i).1] { s with shadow := t.shadow, badShadow := t.badShadow } t)

/-- R6, R42, R47, R64, R66, R67, R69, R570: what a write does to the fields of a register, by their access codes. -/
def Obligations.RegisterWrites : Prop := registerWriteRw ∧ registerWriteRwb ∧ registerFields

/-- R42, R328: a write whose byte enables are not all set is dropped and sets the block's WDROP bit; it reaches a serial port and disarms its
next read. A control core's word goes to DRAM, as many of its bytes as are enabled, where no bank is protected. -/
def partialWriteDropped : Prop :=
  (∀ (s : State) (init : Initiator) (a o : Nat) (b : Block) (i l : Nat) (v : Word) (be : Nat),
    s.mainOn = true → toRegister init a o → resolve o = .at b i l → be ≠ 15 →
    ∃ t, exec (.registerWrite init a v be) s = .next t
      ∧ t.flag (b.status i).1 (b.status i).2.1 = true
      ∧ State.Differs [(b.status i).1] (s.reachUart b i) t)
  ∧ (∀ (s : State) (a be : Nat) (v : Word), s.mainOn = true → a + 4 ≤ State.dramSize → (∀ i, i < 4 → s.protectedAt (a + i) = false) →
    ∃ t, exec (.registerWrite .core a v be) s = .next t
      ∧ (∀ i, i < 4 → t.rd8 (a + i) = if be.testBit i then BitVec.ofNat 8 (v.toNat / 256 ^ i) else s.rd8 (a + i))
      ∧ (∀ x, x < a ∨ a + 4 ≤ x → t.rd8 x = s.rd8 x) ∧ State.Differs [] { s with dram := t.dram } t)

/-- The staging copies that a strobe of groups leaves where there were `old`: those of other groups stand, and each group of the strobe
has a new copy of its shadow words. -/
def stagedBy (s : State) (groups : Nat) (w : When) : List Staged :=
  s.staged.filter (fun x => !groups.testBit x.group)
    ++ (State.groupList groups).map (fun g => { group := g, when := w, frc := s.time.frc, copy := (s.stageOf g).1, bad := (s.stageOf g).2 : Staged })

/-- R49–R51, R53, R54: a strobe copies the shadows of its groups to staging, in place of copies that were pending for them; WHEN 3 is dropped
with WDROP; a strobe of no group does nothing; GLOBAL_UPD_PEND shows what is pending, and with which timing. -/
def updateStrobes : Prop :=
  (∀ (s : State) (g : BitVec 16), s.mainOn = true → s.host.ring = [] → g ≠ 0 →
    ∃ t, exec (.updateNow g) s = .next t ∧ t.staged = stagedBy s g.toNat .now ∧ t.shadow = s.shadow ∧ t.time = s.time)
  ∧ (∀ (s : State) (g : BitVec 16), s.mainOn = true → s.host.ring = [] → g ≠ 0 →
    ∃ t, exec (.updateAtEpoch g) s = .next t ∧ t.staged = stagedBy s g.toNat .epoch ∧ t.shadow = s.shadow ∧ t.time = s.time)
  ∧ (∀ (s : State) (g : BitVec 16), s.mainOn = true → s.host.ring = [] → g ≠ 0 →
    ∃ t, exec (.updateAtHeel g) s = .next t ∧ t.staged = stagedBy s g.toNat (.heel s.lt) ∧ t.shadow = s.shadow ∧ t.time = s.time)
  ∧ (∀ (s : State) (g : BitVec 16), s.mainOn = true → g ≠ 0 →
    ∃ t, exec (.updateReservedWhen g) s = .next t ∧ t.flag R.GLOBAL_STATUS 2 = true ∧ State.Differs [R.GLOBAL_STATUS] s t)
  ∧ (∀ (s : State) (c : Instr), s.mainOn = true → c ∈ [.updateNow 0, .updateAtEpoch 0, .updateAtHeel 0, .updateReservedWhen 0] →
    ∃ t, exec c s = .next t ∧ State.Differs [] s t)
  ∧ (∀ (s : State) (g : BitVec 16) (k : Nat), k < 16 → s.mainOn = true → (s.staged.map Staged.group).Nodup →
    let pend (x : State) (j : Nat) : Bool := (x.readWord R.GLOBAL_UPD_PEND).getLsbD j
    (∃ t, exec (.updateNow g) s = .next t ∧ pend t k = (pend s k && !g.getLsbD k) ∧ pend t (16 + k) = (pend s (16 + k) && !g.getLsbD k))
    ∧ (∃ t, exec (.updateAtEpoch g) s = .next t ∧ pend t k = (pend s k || g.getLsbD k) ∧ pend t (16 + k) = (pend s (16 + k) && !g.getLsbD k))
    ∧ (∃ t, exec (.updateAtHeel g) s = .next t ∧ pend t k = (pend s k && !g.getLsbD k) ∧ pend t (16 + k) = (pend s (16 + k) || g.getLsbD k)))

/-- R47, R53, R54, R57: a staged group that is due is applied. Where its check or its copy's parity fails it is withheld whole, with its bit in
GLOBAL_UPD_FAIL and UPD_WITHHELD; group 7 takes its copy's values and changes nothing else. A HEEL strobe waits until local time reaches its T.
In the last two no port is downshifted and no ring holds a command. -/
def groupsApply : Prop :=
  (∀ (s : State) (g : Nat) (c : List (Nat × Word)) (bad : List Nat) (f : Nat), s.mainOn = true → g < 16 →
    s.staged.filter (fun x => x.when == .now) = [{ group := g, when := .now, frc := f, copy := c, bad := bad }] →
    bad ≠ [] ∨ (s.groupBad g c).1 = true →
    ∃ t, exec .groupApplyImmediate s = .next t ∧ t.staged = s.staged.filter (fun x => x.when != .now)
      ∧ t.flag R.GLOBAL_UPD_FAIL g = true ∧ t.flag R.GLOBAL_STATUS 4 = true
      ∧ (∀ a h, groupOf a = some h → t.reg a &&& rwbMask a = s.reg a &&& rwbMask a))
  ∧ (∀ (s : State) (c : List (Nat × Word)) (f : Nat), s.mainOn = true → s.host.ring = [] → s.mac.port = [] →
    s.staged.filter (fun x => x.when == .now) = [{ group := 7, when := .now, frc := f, copy := c, bad := [] }] →
    ∃ t, exec .groupApplyImmediate s = .next t ∧ t.staged = s.staged.filter (fun x => x.when != .now)
      ∧ (∀ a, groupOf a = some 7 → t.reg a = blend (s.reg a) (Sparse.get (resetOf a) c a) (rwbMask a))
      ∧ (∀ a, groupOf a ≠ some 7 → a ≠ R.INTC_REROUTE_CNT → t.reg a = s.reg a))
  ∧ (∀ (s : State) (c : List (Nat × Word)) (at_ T : Int) (f : Nat), s.mainOn = true → s.host.ring = [] → s.mac.port = [] →
    s.staged = [{ group := 7, when := .heel at_, frc := f, copy := c, bad := [] }] →
    s.heelDue { group := 7, when := .heel at_, frc := f, copy := c, bad := [] } = some T → s.coincides T = false →
    ∃ t, exec .heelTimeReached s = .next t ∧ t.staged = [] ∧ t.time.frc = max s.time.frc (s.frcAt T)
      ∧ (∀ a, groupOf a = some 7 → t.reg a = blend (s.reg a) (Sparse.get (resetOf a) c a) (rwbMask a))
      ∧ (∀ a, groupOf a ≠ some 7 → a ≠ R.INTC_REROUTE_CNT → t.reg a = s.reg a))

/-- R47, R49–R51, R53, R54: update strobes, and the application of a staged group. -/
def Obligations.UpdateStrobes : Prop := updateStrobes ∧ groupsApply

/-- R22, R47, R53, R54: a group whose checks pass is applied as one: every RWB field of its registers takes the value of the staging copy (but for
the frame period, which waits for a boundary), and no RWB field of another group changes. -/
def Obligations.GroupApplications : Prop :=
  ∀ (s : State) (g : Nat) (c : List (Nat × Word)) (f : Nat), s.mainOn = true → g < 16 →
    s.staged.filter (fun x => x.when == .now) = [{ group := g, when := .now, frc := f, copy := c, bad := [] }] → (s.groupBad g c).1 = false →
    ∃ t, exec .groupApplyImmediate s = .next t ∧ t.staged = s.staged.filter (fun x => x.when != .now)
      ∧ (∀ a, groupOf a = some g → a ≠ R.TIME_FRAME_NUM → a ≠ R.TIME_FRAME_DEN →
          t.reg a &&& rwbMask a = Sparse.get (resetOf a) c a &&& rwbMask a)
      ∧ (∀ a h, groupOf a = some h → h ≠ g → t.reg a &&& rwbMask a = s.reg a &&& rwbMask a)

/-- R42, R45, R55, R56, R60, R61: an access to an unmapped offset reads 0, writes nothing and is recorded; a whole word written to a
range that reads 0 is ignored, and a part of one is dropped with the WDROP of the block whose window it is; SEC, INTC and HOST have no
aliases; a write to a slow block waits, and while one waits every other to that block is dropped with WDROP; a posted write takes effect
when it completes; an upset of a configuration word is found by the sweep. -/
def busEvents : Prop :=
  (∀ (s : State) (a : Nat) (w : Bool), s.mainOn = true → resolve a = .unmapped →
    ∃ t, exec (.unmappedAccess a w) s = .next t ∧ t.flag R.GLOBAL_STATUS 1 = true
      ∧ t.reg R.GLOBAL_UNMAPPED_ADDR = (if s.flag R.GLOBAL_STATUS 1 = true then s.reg R.GLOBAL_UNMAPPED_ADDR else w32 a)
      ∧ t.bus = (if w = true then s.bus else 0)
      ∧ State.Differs [R.GLOBAL_STATUS, R.GLOBAL_UNMAPPED_ADDR] { s with bus := t.bus } t)
  ∧ (∀ (s : State) (init : Initiator) (a o be : Nat) (v : Word), toRegister init a o → resolve o = .unmapped →
    exec (.registerWrite init a v be) s = exec (.unmappedAccess o true) s)
  ∧ (∀ (s : State) (init : Initiator) (a o : Nat) (b : Block) (v : Word), s.mainOn = true → toRegister init a o → resolve o = .reads0 b →
    ∃ t, exec (.registerWrite init a v 15) s = .next t ∧ State.Differs [] s t ∧ s.readWord o = 0)
  ∧ (∀ (s : State) (init : Initiator) (a o be : Nat) (b : Block) (v : Word), s.mainOn = true → toRegister init a o → resolve o = .reads0 b →
    be ≠ 15 →
    ∃ t, exec (.registerWrite init a v be) s = .next t ∧ t.flag (b.status 0).1 (b.status 0).2.1 = true
      ∧ State.Differs [(b.status 0).1] s t)
  ∧ (∀ (s : State) (init : Initiator) (a o l k : Nat) (v : Word) (r : RegRow), s.mainOn = true → toRegister init a o →
    resolve o = .at .hub 0 l → rowAt .hub 0 l = some r → busyKey (canon .hub 0 l) = some k → s.posted.lookup k = none →
    ∃ t, exec (.registerWrite init a v 15) s = .next t ∧ t.posted = (k, (canon .hub 0 l, v)) :: s.posted
      ∧ State.Differs [] { s with posted := t.posted } t)
  ∧ (∀ (s : State) (init : Initiator) (a o l k : Nat) (v : Word) (w : Nat × Word), s.mainOn = true → toRegister init a o →
    resolve o = .at .hub 0 l → busyKey (canon .hub 0 l) = some k → s.posted.lookup k = some w →
    ∃ t, exec (.registerWrite init a v 15) s = .next t ∧ t.flag (Block.hub.status 0).1 (Block.hub.status 0).2.1 = true
      ∧ State.Differs [(Block.hub.status 0).1] s t)
  ∧ (∀ (b : Block) (x y i l : Nat), b ∈ [.sec, .intc, .host] → resolve x = .at b i l → resolve y = .at b i l → x / 4 = y / 4)
  ∧ (∀ (s : State) (k i l : Nat) (v : Word) (r : RegRow) (m : Nat), s.mainOn = true → s.posted = [(k, (canon .hub i l, v))] →
    resolve (canon .hub i l) = .at .hub i l → rowAt .hub i l = some r → r.fields = [(.rw, m)] → r.out = 0 → State.scClass (canon .hub i l) = none →
    isWideLow .hub l = false → wideLow .hub l = none →
    ∃ t, exec (.postedWriteComplete k) s = .next t ∧ t.posted = []
      ∧ t.reg (canon .hub i l) = blend (s.reg (canon .hub i l)) v (BitVec.ofNat 32 m)
      ∧ State.Differs [canon .hub i l] { s with posted := [], badLive := t.badLive } t)
  ∧ (∀ (s : State) (a n : Nat), s.mainOn = true → s.badLive = [] → s.badShadow = [] → canonOf a = a → isCfg a = true → n < 32 →
    ¬ (0x10000 ≤ a ∧ a < 0x12000) → s.flag R.GLOBAL_STATUS 0 = false →
    ∃ t, exec (.paritySweep [{ copy := .live, offset := a, bitNo := n }]) s = .next t ∧ t.badLive = [a]
      ∧ t.reg a = s.reg a ^^^ BitVec.ofNat 32 (2 ^ n) ∧ t.flag R.GLOBAL_STATUS 0 = true ∧ t.reg R.GLOBAL_PARITY_ADDR = w32 a
      ∧ t.reg R.GLOBAL_PARITY_CNT = s.reg R.GLOBAL_PARITY_CNT + 1)

/-- R42–R45, R55, R56, R60: the register bus: a write that lacks byte enables is dropped, an alias is its register, and events of the bus: an unmapped access, a posted write's completion and an upset. -/
def Obligations.BusAccesses : Prop := partialWriteDropped ∧ aliasWrites ∧ busEvents

/-- A state in which a boundary finds nothing to do but to move the epoch on: no transition, no raster or preview, no graph, no staging copy,
no commit, and no block that acts at boundaries enabled; no change of the frame grid is due. -/
abbrev quietState (s : State) : Prop :=
  s.mainOn = true ∧ s.ingest.raster.run = false ∧ s.trainedOf 0 = false ∧ s.trainedOf 1 = false ∧ s.flag R.RASTER_CTRL 0 = false
  ∧ s.hub.late = false ∧ s.kennel.run = false ∧ s.kennel.graph = none ∧ s.host.ring = [] ∧ s.mac.port = [] ∧ s.brace.deferred = []
  ∧ s.braceOn = false ∧ s.sheafEn = false ∧ s.sheaf.arm = none ∧ s.fixEn = false ∧ s.hubEn = false ∧ s.calib.run = none ∧ s.calib.work = none
  ∧ s.calib.scPend = [] ∧ s.time.regrid = false

/-- The time of a state after the boundary that it waits for: its instant has come, and its epoch is the one the boundary starts. -/
def boundaryTime (s : State) : TimeSt :=
  { s.time with frc := max s.time.frc (s.frcAt s.nextInstant), adj := s.reg R.TIME_EPOCH_ADJ
                epoch := BitVec.ofNat 32 s.time.kNext + s.reg R.TIME_EPOCH_ADJ, kLast := s.time.kNext, kNext := s.time.kNext + 1
                mark := ((s.time.kNext : Int) * s.time.num * State.uSec, s.time.den) }

/-- R22, R53, R93, R95, R268, R539: the frame-epoch boundary, where nothing else is under way. The new epoch is the grid's next number with TIME_EPOCH_ADJ,
the next boundary is one instant on, the old epoch is committed, Kennel's frame and HEEL take the new one; a requested transition
takes effect; a strobe for the epoch is applied, unless it came in the boundary's own cycle (R52); a held frame period starts a new grid. -/
def Obligations.EpochBoundaries : Prop :=
  (∀ (s : State), quietState s → s.power.request = none → s.staged = [] → s.time.heldPair = none →
    ∃ t, exec .epochBoundary s = .next t ∧ t.time = boundaryTime s ∧ t.reg R.INGEST_COMMIT_EPOCH = s.time.epoch
      ∧ t.reg R.KNL_FRAME_EPOCH = t.time.epoch ∧ t.reg R.HEEL_EPOCH = t.time.epoch ∧ t.power = s.power ∧ t.dram = s.dram
      ∧ t.heel.eps.head? = some { epoch := t.time.epoch
                                  t := (({ s with time := boundaryTime s } : State).nextDown / State.uNs
                                        + (min (s.field R.HEEL_LATCH_OFFSET 24 0) s.halfPeriodNs : Nat)) * State.uNs
                                  room := s.periodNs - min (s.field R.HEEL_LATCH_OFFSET 24 0) s.halfPeriodNs })
  ∧ (∀ (s : State) (b : Bool), quietState s → s.power.request = some b → s.staged = [] → s.time.heldPair = none →
    ∃ t, exec .epochBoundary s = .next t ∧ t.time = boundaryTime s ∧ t.power = { s.power with request := none, inShow := b }
      ∧ t.flag R.PWR_STATUS 2 = true)
  ∧ (∀ (s : State) (c : List (Nat × Word)) (f : Nat), quietState s → s.power.request = none →
    s.staged = [{ group := 7, when := .epoch, frc := f, copy := c, bad := [] }] → s.time.heldPair = none → f < s.frcAt s.nextInstant →
    ∃ t, exec .epochBoundary s = .next t ∧ t.staged = [] ∧ t.time = boundaryTime s
      ∧ (∀ a, groupOf a = some 7 → rwbMask a ≠ 0 → t.reg a = blend (s.reg a) (Sparse.get (resetOf a) c a) (rwbMask a)))
  ∧ (∀ (s : State) (c : List (Nat × Word)) (f : Nat), quietState s → s.power.request = none →
    s.staged = [{ group := 7, when := .epoch, frc := f, copy := c, bad := [] }] → s.time.heldPair = none → s.frcAt s.nextInstant ≤ f →
    ∃ t, exec .epochBoundary s = .next t ∧ t.staged = s.staged ∧ t.time = boundaryTime s ∧ (∀ a, groupOf a = some 7 → t.reg a = s.reg a))
  ∧ (∀ (s : State) (num den : Nat), quietState s → s.power.request = none → s.staged = [] → s.time.heldPair = some (num, den) →
    0 < num → 0 < s.time.den →
    ∃ t, exec .epochBoundary s = .next t ∧ t.time.num = num ∧ t.time.den = den ∧ t.time.heldPair = none ∧ t.time.regrid = true
      ∧ t.time.epoch = (boundaryTime s).epoch ∧ t.time.mark = (boundaryTime s).mark ∧ t.reg R.TIME_FRAME_NUM = w32 num ∧ t.reg R.TIME_FRAME_DEN = w32 den
      ∧ (2 * s.time.kNext * s.time.num * den + s.time.den * num ≤ 2 * s.time.den * num * t.time.kNext)
      ∧ (∀ k, 2 * s.time.kNext * s.time.num * den + s.time.den * num ≤ 2 * s.time.den * num * k → t.time.kNext ≤ k))

/-- R434, R435, R437, R438: the interrupt controller's two rules hold after every step, whatever the command and the state before it. -/
def Obligations.StepKeepsInterruptRules : Prop :=
  ∀ (s t : State), step s = .next t → t.PendRule ∧ t.OfferRule

/-- A command of a domain that sleeps with MAIN off: wakes, supplies, the reset pin and tamper. -/
def sleepCommand (c : Instr) : Bool := match c with
  | .wakeFrameRx _ _ | .wakePin | .rtcAlarm | .supply12vRise | .supply12vFail | .supply33vLoss | .supply33vRise | .pinReset => true
  | .tamperDetect _ _ | .maintEnd => true
  | _ => false

/-- A command that the resident loader has part in, or what it stands on: the service protocol, port 36, clocks and the security core. -/
def loaderCommand (c : Instr) : Bool := match c with
  | .updOpen _ _ | .updBlock _ _ | .updVerify _ _ | .updVerifyDone | .imageWriteDone _ | .updActivate _ _ => true
  | .updAbort _ _ | .updStatusReq _ _ | .updRecover _ _ | .updSessionTimeout | .pllUnlock _ | .pllRelock _ | .trngHealthFail | .coreWatchdogReset true => true
  | .macFrameRx n _ _ | .pauseRx n _ _ | .pfcRx n _ _ _ | .pauseExpiry n | .leashLimit n | .leashHoldEnd n | .fcXoffSend n _ => n == 36
  | .fcRefresh n _ | .fcXonSend n _ | .macTxFrame n _ _ | .deadlineDrop n | .macLinkChange n _ => n == 36
  | _ => false

/-- R39, R35: while the MAIN domain does not run, a command of that domain changes nothing: every command but those of the sleeping
domains. R537: in RECOVERY, where only the service protocol runs, no other command does anything but those and the loader's. -/
def mainOffNoEffect : Prop :=
  (∀ (s : State) (c : Instr), s.mainRuns = false → sleepCommand c = false → ∃ t, exec c s = .next t ∧ State.Differs [] s t)
  ∧ (∀ (s : State) (c : Instr), s.upd.recovery = true → sleepCommand c = false → loaderCommand c = false →
    ∃ t, exec c s = .next t ∧ State.Differs [] s t)

/-- R35, R39, R537: every command answers a next state; while MAIN does not work, its commands change nothing. -/
def Obligations.EveryCommandAnswers : Prop := everyCommandAnswers ∧ mainOffNoEffect

/-- Canonical memories (R5, R26): what a host writes to DRAM or lets the device write to its memory, and what a ring's owner is written, keeps the
memories' canonical form. -/
def memoryStaysCanonical : Prop :=
  (∀ (s : State) (r a : Nat) (l : Bytes), s.MemRule → (s.ownWrite r a l).MemRule ∧ (s.wrBytes a l).MemRule)
  ∧ (∀ (s t : State) (r i o n : Nat) (f : Bool) (w : Option Bytes) (p : Peer) (m : Bytes) (c : Instr), s.MemRule →
    c ∈ [Instr.nop r, .dmaComplete r i f, .bar4Access o w n, .updBlock p m, .intcModRelease i] → exec c s = .next t → t.MemRule)

/-- R7, R64: the time that a write of nanoseconds and seconds names, in units of 2⁻¹⁶ ns; seconds have 48 bits. -/
def writtenTime (ns lo hi : Word) : Int :=
  (((hi.toNat % 65536 * 2 ^ 32 + lo.toNat) * 1000000000 + ns.toNat : Nat) : Int) * State.uNs

/-- R74–R77, R92, R96, R99, R64: what the writes of show time do when they are accepted. TIME_RATE loads RATE and the integrator with
local time continuous; TIME_STEP and TIME_SET move OFFSET, set STEP and count; a valid period enters the shadows of NUM and DEN;
TIME_EPOCH_ADJ takes its value while the epoch in effect stays; a HEEL_OUT target joins its pin's queue, is discarded as late when it
comes to the head of the queue in the past, and is dropped with WDROP when it is no time or the queue is full. -/
def Obligations.TimeWrites : Prop :=
  (∀ (s : State) (v : BitVec 40), s.mainOn = true → -s.rateLimit ≤ v.toInt → v.toInt ≤ s.rateLimit →
    ∃ t, exec (.timeRateWrite v) s = .next t ∧ t.time.rate = v.toInt ∧ t.time.integ = v.toInt ∧ t.lt = s.lt
      ∧ State.Differs [] { s with time := t.time, latch := t.latch } t)
  ∧ (∀ (s : State) (d : Word), s.mainOn = true → s.stepRefused = false →
    ∃ t, exec (.timeStepWrite d) s = .next t ∧ t.lt = s.lt + d.toInt * State.uNs ∧ t.flag R.TIME_STATUS 3 = true
      ∧ t.reg R.TIME_STEP_CNT = s.reg R.TIME_STEP_CNT + 1)
  ∧ (∀ (s : State) (ns lo hi : Word), s.mainOn = true → s.stepRefused = false → ns.toNat < 1000000000 →
    ∃ t, exec (.timeSetWrite ns lo hi) s = .next t
      ∧ t.lt = writtenTime ns lo hi
      ∧ t.flag R.TIME_STATUS 3 = true)
  ∧ (∀ (s : State) (num den : Word), s.mainOn = true → State.pairOk (fld num 19 0) (fld den 19 0) = true →
    ∃ t, exec (.framePeriodWrite num den) s = .next t ∧ t.sh R.TIME_FRAME_NUM = w32 (fld num 19 0)
      ∧ t.sh R.TIME_FRAME_DEN = w32 (fld den 19 0) ∧ t.time = s.time)
  ∧ (∀ (s : State) (v : Word), s.mainOn = true → s.inShow = false →
    ∃ t, exec (.epochAdjWrite v) s = .next t ∧ t.reg R.TIME_EPOCH_ADJ = v
      ∧ State.Differs [R.TIME_EPOCH_ADJ] { s with badLive := t.badLive } t)
  ∧ (∀ (s : State) (n : Nat) (ns lo hi : Word), s.mainOn = true → n < 8 → ns.toNat < 1000000000 → (s.hoOf n).queue.length < 4 →
    (s.hoOf n).queue ≠ [] ∨ s.lt < writtenTime ns lo hi →
    ∃ t, exec (.hoTargetPush n ns lo hi) s = .next t ∧ (t.hoOf n).queue = (s.hoOf n).queue ++ [writtenTime ns lo hi]
      ∧ State.Differs [] { s with time := t.time, latch := t.latch } t)
  ∧ (∀ (s : State) (n : Nat) (ns lo hi : Word), s.mainOn = true → n < 8 → ns.toNat < 1000000000 → (s.hoOf n).queue = [] →
    s.hoMode n ≠ 2 → writtenTime ns lo hi ≤ s.lt →
    ∃ t, exec (.hoTargetPush n ns lo hi) s = .next t ∧ (t.hoOf n).queue = [] ∧ t.flag R.TIME_STATUS 7 = true
      ∧ (t.hoOf n).lateCnt = min 65535 ((s.hoOf n).lateCnt + 1)
      ∧ State.Differs [R.TIME_STATUS] { s with time := t.time, latch := t.latch } t)
  ∧ (∀ (s : State) (n : Nat) (ns lo hi : Word), s.mainOn = true → n < 8 → 1000000000 ≤ ns.toNat ∨ 4 ≤ (s.hoOf n).queue.length →
    ∃ t, exec (.hoTargetPush n ns lo hi) s = .next t ∧ t.flag (Block.time.status 0).1 (Block.time.status 0).2.1 = true
      ∧ State.Differs [(Block.time.status 0).1] { s with latch := t.latch } t)

/-- R76, R78, R88–R90: measurements and references. A software measurement that the servo accepts is in TIME_LAST_ERR; a 1PPS edge and a
10 MHz edge are captured; silent references and a received or lost LTC set their bits; HOLDOVER leaves RATE at the integrator. -/
def Obligations.TimeReferences : Prop :=
  (∀ (s : State) (e : Word), s.mainOn = true → s.servoSrc = 0 → s.flag R.TIME_CTRL 3 = true → s.time.servo = .acquire →
    e.toInt.natAbs ≤ (s.reg R.TIME_STEP_LIMIT).toNat →
    ∃ t, exec (.timeMeasWrite e) s = .next t ∧ t.reg R.TIME_LAST_ERR = e ∧ t.time.measFrc = s.time.frc
      ∧ t.time.integ = clampInt (-s.rateLimit) s.rateLimit (s.time.integ + e.toInt * (s.reg R.TIME_KI).toNat)
      ∧ t.time.rate = clampInt (-s.rateLimit) s.rateLimit (t.time.integ + e.toInt * (s.reg R.TIME_KP).toNat))
  ∧ (∀ (s : State) (up : Bool) (held : Nat), s.mainOn = true → held < 8 * s.field R.TIME_PPS_CTRL 15 8 ∨ s.time.ppsGlitch = some up →
    ∃ t, exec (.ppsCapture ⟨up, held⟩) s = .next t ∧ t.time.ppsGlitch = (if s.time.ppsGlitch = some up then none else some (!up))
      ∧ State.Differs [] { s with time := { s.time with ppsGlitch := t.time.ppsGlitch } } t)
  ∧ (∀ (s : State) (up : Bool) (held : Nat), s.mainOn = true → 8 * s.field R.TIME_PPS_CTRL 15 8 ≤ held → s.time.ppsGlitch ≠ some up →
    s.flag R.TIME_PPS_CTRL 0 = false ∨ s.flag R.TIME_PPS_CTRL 4 ≠ up →
    ∃ t, exec (.ppsCapture ⟨up, held⟩) s = .next t ∧ State.Differs [] { s with time := { s.time with ppsGlitch := none } } t)
  ∧ (∀ (s : State) (up : Bool) (held : Nat), s.mainOn = true → s.flag R.TIME_PPS_CTRL 0 = true → s.flag R.TIME_PPS_CTRL 4 = up →
    8 * s.field R.TIME_PPS_CTRL 15 8 ≤ held → s.time.ppsGlitch ≠ some up → s.flag R.TIME_CTRL 3 = false →
    ∃ t, exec (.ppsCapture ⟨up, held⟩) s = .next t ∧ t.reg R.TIME_PPS_CAP_NS = w32 s.now80.ns ∧ t.reg R.TIME_PPS_CAP_SEC_LO = w32 s.now80.sec
      ∧ t.reg R.TIME_PPS_CAP_SEC_HI = w32 (s.now80.sec / 2 ^ 32) ∧ t.time.ppsGap = false
      ∧ State.Differs [R.TIME_PPS_CAP_NS, R.TIME_PPS_CAP_SEC_LO, R.TIME_PPS_CAP_SEC_HI] { s with time := t.time } t)
  ∧ (∀ s : State, s.mainOn = true → s.flag R.TIME_PPS_CTRL 0 = true → s.time.ppsGap = false →
    ∃ t, exec .ppsMissing s = .next t ∧ t.flag R.TIME_STATUS 8 = true ∧ t.time.frc = max s.time.frc (s.time.ppsFrc + 1375000000)
      ∧ t.time.ppsGap = true ∧ State.Differs [R.TIME_STATUS] { s with time := t.time } t)
  ∧ (∀ s : State, s.mainOn = true → s.flag R.TIME_REF10M_CTRL 0 = true → s.flag R.TIME_CTRL 3 = false →
    ∃ t, exec .ref10mMeasure s = .next t ∧ t.reg R.TIME_REF10M_PHASE = i32 (s.refPhase / 256) ∧ t.time.refGap = false
      ∧ State.Differs [R.TIME_REF10M_PHASE] { s with time := t.time } t)
  ∧ (∀ s : State, s.mainOn = true → s.flag R.TIME_REF10M_CTRL 0 = true → s.time.refGap = false →
    ∃ t, exec .ref10mMissing s = .next t ∧ t.flag R.TIME_STATUS 9 = true ∧ t.time.frc = max s.time.frc (s.time.refEdge + 12500)
      ∧ t.time.refGap = true ∧ State.Differs [R.TIME_STATUS] { s with time := t.time } t)
  ∧ (∀ s : State, s.mainOn = true → s.time.servo = .locked →
    ∃ t, exec .holdoverTimeout s = .next t ∧ t.time.servo = .holdover ∧ t.time.rate = s.time.integ ∧ t.flag R.TIME_STATUS 1 = true
      ∧ t.flag R.TIME_STATUS 2 = true ∧ State.Differs [R.TIME_STATUS] { s with time := t.time } t)
  ∧ (∀ (s : State) (tc ub : Word) (ago : Nat), s.mainOn = true → s.flag R.TIME_LTCI_CTRL 0 = true →
    ∃ t, exec (.ltcFrameRx tc ub ago) s = .next t ∧ t.reg R.TIME_LTCI_TC = tc ∧ t.reg R.TIME_LTCI_UB = ub
      ∧ t.reg R.TIME_LTCI_TS_NS = w32 (State.ts80Of (s.ltThen (s.time.frc - ago))).ns
      ∧ t.reg R.TIME_LTCI_TS_SEC_LO = w32 (State.ts80Of (s.ltThen (s.time.frc - ago))).sec
      ∧ t.reg R.TIME_LTCI_TS_SEC_HI = w32 ((State.ts80Of (s.ltThen (s.time.frc - ago))).sec / 2 ^ 32)
      ∧ t.time.ltcFrc = s.time.frc
      ∧ State.Differs [R.TIME_LTCI_TC, R.TIME_LTCI_UB, R.TIME_LTCI_TS_NS, R.TIME_LTCI_TS_SEC_LO, R.TIME_LTCI_TS_SEC_HI] { s with time := t.time } t)
  ∧ (∀ s : State, s.mainOn = true → s.flag R.TIME_LTCI_CTRL 0 = true →
    ∃ t, exec .ltcLoss s = .next t ∧ t.flag R.TIME_STATUS 10 = true ∧ t.time.frc = max s.time.frc (s.time.ltcFrc + 2 * s.time.ltcPeriod)
      ∧ State.Differs [R.TIME_STATUS] { s with time := t.time } t)

/-- R79, R80, R85, R86, R91, R97–R99: what show time sends and hands out. A two-step Sync on the slave port waits for its Follow_Up; a
Delay_Resp for the request in flight gives a path delay; a master port queues Sync and the slave
port Delay_Req for the MAC (queue 6), at its interval; LTC frames leave at their grid's instants;
TIME_TSQ_CMD pops the oldest software stamp and the oldest lost tag; a HEEL_OUT pin's queued target becomes an edge, and a
pulse ends: on its ball where PINS_MUX gives it that, else with HO_HIDDEN (R564). -/
def Obligations.TimeTraffic : Prop :=
  (∀ (s : State) (p ph q d : Nat) (t1 : Ts) (c : Int), s.mainOn = true → s.ptpHeard p d = true → s.isSlave p = true →
    t1.ns < 1000000000 →
    ∃ t, exec (.ptpSyncRx p ph q d true t1 c) s = .next t ∧ t.time.ptp.waiting = some (q, s.rxStamp p ph, c)
      ∧ State.Differs [] { s with time := t.time } t)
  ∧ (∀ (s : State) (p ph q d : Nat) (two : Bool) (t1 : Ts) (c : Int), s.mainOn = true → s.ptpHeard p d = true → s.isSlave p = true →
    1000000000 ≤ t1.ns →
    ∃ t, exec (.ptpSyncRx p ph q d two t1 c) s = .next t ∧ State.Differs [] s t)
  ∧ (∀ (s : State) (p ph q d : Nat) (t1 : Ts) (c : Int), s.mainOn = true → s.ptpHeard p d = true → s.isSlave p = true →
    t1.ns < 1000000000 → s.servoSrc ≠ 1 →
    ∃ t, exec (.ptpSyncRx p ph q d false t1 c) s = .next t
      ∧ t.time.ptp.lastSync = some (((t1.sec * 1000000000 + t1.ns : Nat) : Int) * State.uNs + c, s.rxStamp p ph)
      ∧ State.Differs [] { s with time := t.time } t)
  ∧ (∀ (s : State) (p ph d q : Nat) (t4 : Ts) (c t3 t1 t2 : Int), s.mainOn = true → s.ptpHeard p d = true → s.isSlave p = true →
    s.flag R.TIME_PTP_CTRL 14 = false → t4.ns < 1000000000 → s.time.ptp.lastSync = some (t1, t2) →
    Sparse.get (0, 0) s.time.ptp.reqSent p = (q, t3) → (s.time.ptp.reqSent.any (fun e => e.1 == p)) = true →
    ∃ t, exec (.ptpMessageRx p ph d (.delayResp q t4 c)) s = .next t
      ∧ t.time.ptp.delays.head? = some (((t2 - t1) + (((t4.sec * 1000000000 + t4.ns : Nat) : Int) * State.uNs - c - t3)) / 2)
      ∧ t.reg R.TIME_PTP_MPD = i32 (t.pathDelay / 256) ∧ State.Differs [R.TIME_PTP_MPD] { s with time := t.time } t)
  ∧ (∀ (s : State) (p : Nat), s.mainOn = true → p < 37 → s.isMaster p = true → s.flag (R.MACn_CTRL p) 0 = true → s.outputsOn = true →
    ∃ t v, exec (.ptpSyncTx p) s = .next t ∧ (t.macOf p).txq = (s.macOf p).txq
        ++ [{ queue := 6, bytes := s.ptpFrame p 0 s.time.ptp.syncSeq v, use := .ptp 0 s.time.ptp.syncSeq 0 0 }]
      ∧ t.time.ptp.syncSeq = (s.time.ptp.syncSeq + 1) % 65536
      ∧ t.time.frc = (s.afterInterval (Sparse.get 0 s.time.ptp.syncAt p) (State.intervalCycles s.logSync)).time.frc
      ∧ State.Differs [] { s with time := t.time, mac := t.mac, freeCtr := t.freeCtr } t)
  ∧ (∀ (s : State) (p : Nat), s.mainOn = true → p < 37 → s.isSlave p = true → s.flag (R.MACn_CTRL p) 0 = true → s.outputsOn = true →
    s.flag R.TIME_PTP_CTRL 14 = false →
    ∃ t v, exec (.delayReqSend p) s = .next t ∧ (t.macOf p).txq = (s.macOf p).txq
        ++ [{ queue := 6, bytes := s.ptpFrame p 1 s.time.ptp.seq v, use := .ptp 1 s.time.ptp.seq 0 0 }]
      ∧ t.time.ptp.seq = (s.time.ptp.seq + 1) % 65536
      ∧ t.time.frc = (s.afterInterval (Sparse.get 0 s.time.ptp.reqAt p) (State.intervalCycles s.logDelay)).time.frc
      ∧ State.Differs [] { s with time := t.time, mac := t.mac, freeCtr := t.freeCtr } t)
  ∧ (∀ s : State, s.mainOn = true → s.flag R.TIME_LTCO_CTRL 0 = true →
    ∃ t tc, exec .ltcOutFrame s = .next t ∧ t.out = [.ltc tc (s.reg R.TIME_LTCO_UB)]
      ∧ (s.flag R.TIME_LTCO_CTRL 8 = false → s.field R.TIME_LTCO_CTRL 6 4 = 1 →
          tc = State.ltcAddress 25 s.ltcNext ((s.reg R.TIME_LTCO_TZ).toInt - (s.field R.TIME_UTC_OFFSET 15 0 : Nat)))
      ∧ t.time.ltcK = some s.ltcNext
      ∧ t.time.frc = max s.time.frc (s.frcAt (State.instantUp s.ltcRate.2 s.ltcRate.1 s.ltcNext))
      ∧ State.Differs [] { s with time := t.time, freeCtr := t.freeCtr } t)
  ∧ (∀ (s : State) (e : Stamp), s.mainOn = true → s.field R.TIME_TSQ_SEL 5 0 < 37 →
    (s.tsqOf (s.field R.TIME_TSQ_SEL 5 0)).entries.find? (fun e => !e.ptp) = some e →
    ∃ t, exec .tsqPop s = .next t ∧ t.reg R.TIME_TSQ_ID = w32 e.id ∧ t.reg R.TIME_TSQ_NS = w32 (State.ts80Of e.time).ns
      ∧ t.flag R.TIME_TSQ_STAT 0 = true
      ∧ (t.tsqOf (s.field R.TIME_TSQ_SEL 5 0)).entries = (s.tsqOf (s.field R.TIME_TSQ_SEL 5 0)).entries.erase e)
  ∧ (∀ (s : State) (i : Nat) (l : List Nat), s.mainOn = true → s.field R.TIME_TSQ_SEL 5 0 < 37 →
    (s.tsqOf (s.field R.TIME_TSQ_SEL 5 0)).lost = i :: l →
    ∃ t, exec .tsqLostPop s = .next t ∧ t.reg R.TIME_TSQ_LOST_ID = w32 i ∧ t.flag R.TIME_TSQ_STAT 1 = true
      ∧ (t.tsqOf (s.field R.TIME_TSQ_SEL 5 0)).lost = l)
  ∧ (∀ (s : State) (n : Nat) (x : Int) (q : List Int), s.mainOn = true → n < 8 → s.hoMode n = 1 → (s.hoOf n).queue = x :: q →
    s.flag (R.TIME_HOn_CTRL n) 4 = false ∨ (s.hoOf n).away = false →
    (∀ y, q.head? = some y → s.ltAt (max s.time.frc (s.launchNow (s.hoLaunch n (x, 1))).1) < y) →
    ∃ t, exec (.heelOutEdge n) s = .next t ∧ (t.hoOf n).queue = q
      ∧ t.time.frc = max s.time.frc (s.launchNow (s.hoLaunch n (x, 1))).1
      ∧ (t.hoOf n).away = (if s.flag (R.TIME_HOn_CTRL n) 4 then true else !(s.hoOf n).away)
      ∧ t.out = (if s.flag R.PINS_MUX n then [.edge n ((if s.flag (R.TIME_HOn_CTRL n) 4 then true else !(s.hoOf n).away)
            != s.flag (R.TIME_HOn_CTRL n) 5) (s.launchNow (s.hoLaunch n (x, 1))).1 (s.launchNow (s.hoLaunch n (x, 1))).2] else [])
      ∧ t.flag R.PINS_STATUS 0 = (s.flag R.PINS_STATUS 0 || !s.flag R.PINS_MUX n)
      ∧ (t.hoOf n).pulse = (if s.flag (R.TIME_HOn_CTRL n) 4
          then some ((s.hoLaunch n (x, 1)).1 + ((s.hoWidth n : Nat) * State.uNs) * (s.hoLaunch n (x, 1)).2, (s.hoLaunch n (x, 1)).2) else none)
      ∧ State.Differs [R.PINS_STATUS] { s with time := t.time } t)
  ∧ (∀ (s : State) (n : Nat) (l : Int × Nat), s.mainOn = true → n < 8 → (s.hoOf n).pulse = some l → (s.hoOf n).away = true →
    ∃ t, exec (.heelOutPulseEnd n) s = .next t
      ∧ t.out = (if s.flag R.PINS_MUX n then [.edge n (s.flag (R.TIME_HOn_CTRL n) 5) (s.launchNow l).1 (s.launchNow l).2] else [])
      ∧ t.flag R.PINS_STATUS 0 = (s.flag R.PINS_STATUS 0 || !s.flag R.PINS_MUX n)
      ∧ t.time.frc = max s.time.frc (s.launchNow l).1
      ∧ (t.hoOf n).away = false ∧ (t.hoOf n).pulse = none ∧ State.Differs [R.PINS_STATUS] { s with time := t.time } t)

/-- R104, R369: a packet with these header fields reaches receiver n by path `pathB`: the receiver runs, the port receives, it is one of
the receiver's own and not brace's, and the addresses agree. -/
abbrev videoReaches (s : State) (n : Nat) (h : RtpHdr) (pathB : Bool) : Prop :=
  s.rxOn n = true ∧ s.rxReady h.port = true ∧ s.streamPath n false h.port = some pathB ∧ s.bracePort h.port = false ∧ s.streamHears n false h = true

/-- R107, R109, R118: the frame with this timestamp belongs to instant k, and its epoch is open for writing. -/
abbrev videoOpen (s : State) (n : Nat) (ts : Word) (k : Nat) : Prop :=
  s.matchInstant n ts = some k
    ∧ later (s.ingestEpoch n k - BitVec.ofNat 32 (s.rxLag n)) s.time.epoch = false
    ∧ later s.time.epoch (s.ingestEpoch n k) = false ∧ s.slotHeld n (s.ingestEpoch n k) = false

/-- R104–R118: video. A malformed packet and a later copy are counted and discarded; an unmatched frame is counted once (R107); an accepted one is counted on its path and
remembered (the path is heard by each of them); and a 16-bit key sample inside the crop, whose placement is on top, lands little-endian at its canvas address and at no
other byte. -/
def Obligations.VideoIngest : Prop :=
  (∀ (s : State) (n : Nat) (h : RtpHdr) (pathB : Bool) (seq ts : Word) (m : Bool) (l : List Srd), s.mainOn = true →
    videoReaches s n h pathB → s.videoBad n l = true →
    ∃ t, exec (.videoPacketRx n h seq ts m l) s = .next t ∧ t.reg (R.INGn_V_MALFORMED_CNT n) = s.reg (R.INGn_V_MALFORMED_CNT n) + 1
      ∧ t.flag (R.INGn_STATUS n) 5 = true ∧ State.Differs [R.INGn_V_MALFORMED_CNT n, R.INGn_STATUS n] { s with ingest := t.ingest } t)
  ∧ (∀ (s : State) (n : Nat) (h : RtpHdr) (pathB : Bool) (seq ts : Word) (m : Bool) (l : List Srd), s.mainOn = true →
    videoReaches s n h pathB → s.videoBad n l = false → s.streamMerge n false = true → seq.toNat ∈ (s.rxOf n).seen →
    ∃ t, exec (.videoPacketRx n h seq ts m l) s = .next t ∧ t.reg (R.INGn_V_DUP_CNT n) = s.reg (R.INGn_V_DUP_CNT n) + 1
      ∧ State.Differs [R.INGn_V_DUP_CNT n] { s with ingest := t.ingest } t)
  ∧ (∀ (s : State) (n : Nat) (h : RtpHdr) (pathB : Bool) (seq ts : Word) (m : Bool) (l : List Srd), s.mainOn = true →
    videoReaches s n h pathB → s.videoBad n l = false → s.streamMerge n false = false → s.matchInstant n ts = none → m = false →
    ∃ t, exec (.videoPacketRx n h seq ts m l) s = .next t ∧ t.flag (R.INGn_STATUS n) 4 = (s.flag (R.INGn_STATUS n) 4 || !(s.rxOf n).missTs.contains ts)
      ∧ t.reg (R.INGn_V_TSMISS_CNT n) = s.reg (R.INGn_V_TSMISS_CNT n) + (if (s.rxOf n).missTs.contains ts then 0 else 1)
      ∧ ts ∈ (t.rxOf n).missTs ∧ (t.rxOf n).seen = (s.rxOf n).seen
      ∧ State.Differs [R.INGn_V_TSMISS_CNT n, R.INGn_STATUS n] { s with ingest := t.ingest } t)
  ∧ (∀ (s : State) (n k : Nat) (h : RtpHdr) (pathB : Bool) (seq ts : Word) (m : Bool), s.mainOn = true →
    videoReaches s n h pathB → s.streamMerge n false = false → videoOpen s n ts k → s.placeClips n = false →
    ∃ t, exec (.videoPacketRx n h seq ts m []) s = .next t ∧ seq.toNat ∈ (t.rxOf n).seen
      ∧ (m = false → (t.rxOf n).seen = seq.toNat :: (s.rxOf n).seen)
      ∧ t.reg (if pathB then R.INGn_V_PATHB_CNT n else R.INGn_V_PATHA_CNT n)
          = s.reg (if pathB then R.INGn_V_PATHB_CNT n else R.INGn_V_PATHA_CNT n) + 1
      ∧ State.Differs [if pathB then R.INGn_V_PATHB_CNT n else R.INGn_V_PATHA_CNT n] { s with ingest := t.ingest } t)
  ∧ (∀ (s : State) (n k x y : Nat) (h : RtpHdr) (pathB : Bool) (seq ts : Word) (m : Bool) (hi lo : Byte), s.mainOn = true →
    videoReaches s n h pathB → s.streamMerge n false = false → videoOpen s n ts k →
    s.rxSampling n = 3 → s.rxDepth n = 16 → s.canvComps = 4 → x < s.rxW n → y < s.rxH n →
    s.cropX n ≤ x → s.cropY n ≤ y → x < s.cropX n + s.cropW n → y < s.cropY n + s.cropH n →
    s.dstX n + x - s.cropX n < s.canvW → s.dstY n + y - s.cropY n < s.canvH →
    s.topPlace true (s.dstX n + x - s.cropX n) (s.dstY n + y - s.cropY n) = some n →
    State.canvAddr s (s.slotOf (s.ingestEpoch n k)) (s.dstX n + x - s.cropX n) (s.dstY n + y - s.cropY n) 3 + 1 < State.dramSize →
    ∃ t, exec (.videoPacketRx n h seq ts m [{ row := y, offset := x, length := 2, data := [hi, lo] }]) s = .next t
      ∧ t.rd8 (s.canvAddr (s.slotOf (s.ingestEpoch n k)) (s.dstX n + x - s.cropX n) (s.dstY n + y - s.cropY n) 3) = lo
      ∧ t.rd8 (s.canvAddr (s.slotOf (s.ingestEpoch n k)) (s.dstX n + x - s.cropX n) (s.dstY n + y - s.cropY n) 3 + 1) = hi
      ∧ (∀ a, a ≠ s.canvAddr (s.slotOf (s.ingestEpoch n k)) (s.dstX n + x - s.cropX n) (s.dstY n + y - s.cropY n) 3 →
          a ≠ s.canvAddr (s.slotOf (s.ingestEpoch n k)) (s.dstX n + x - s.cropX n) (s.dstY n + y - s.cropY n) 3 + 1 → t.rd8 a = s.rd8 a))

/-- R104, R106, R120, R121: audio. An accepted packet is counted and drives the envelope; a gap feeds it silence; the lags of a second
enter LAG_MIN and LAG_MAX; a path that has been silent for PATH_TMO sets its bit. -/
def Obligations.AudioIngest : Prop :=
  (∀ (s : State) (n : Nat) (h : RtpHdr) (pathB : Bool) (seq : BitVec 16) (ts : Word) (l : Bytes), s.mainOn = true →
    s.audOn n = true → s.rxReady h.port = true → s.streamPath n true h.port = some pathB → s.bracePort h.port = false → s.streamHears n true h = true →
    s.streamMerge n true = false → l.length = s.audChannels n * s.audBytes n * s.audSamples n →
    ∃ t, exec (.audioPacketRx n h seq ts l) s = .next t ∧ t.reg (R.INGn_A_PKT_CNT n) = s.reg (R.INGn_A_PKT_CNT n) + 1
      ∧ (t.rxOf n).env = ((List.range (s.audSamples n)).map (s.magOf n l)).foldl
          (State.envStep (s.field (R.INGn_A_ENV_CFG n) 19 16) (s.field (R.INGn_A_ENV_CFG n) 23 20)) (s.rxOf n).env
      ∧ State.Differs [R.INGn_A_PKT_CNT n] { s with ingest := t.ingest } t)
  ∧ (∀ (s : State) (n : Nat), s.mainOn = true → s.audOn n = true →
    ∃ t, exec (.audioGap n) s = .next t ∧ t.reg (R.INGn_A_GAP_CNT n) = s.reg (R.INGn_A_GAP_CNT n) + 1 ∧ t.flag (R.INGn_STATUS n) 2 = true
      ∧ (t.rxOf n).env = (List.replicate (s.audSamples n) 0).foldl
          (State.envStep (s.field (R.INGn_A_ENV_CFG n) 19 16) (s.field (R.INGn_A_ENV_CFG n) 23 20)) (s.rxOf n).env
      ∧ t.time.frc = max s.time.frc ((s.rxOf n).aAt + s.packetTime n) ∧ (t.rxOf n).aAt = (s.rxOf n).aAt + s.packetTime n
      ∧ State.Differs [R.INGn_A_GAP_CNT n, R.INGn_STATUS n] { s with ingest := t.ingest, time := t.time } t)
  ∧ (∀ (s : State), s.mainOn = true →
    ∃ t, exec .audioLagSecond s = .next t ∧ t.time.frc = max s.time.frc (s.frcAt (-(-s.lt / State.uSec) * State.uSec))
      ∧ ∀ n a b, s.audOn n = true → (s.rxOf n).lag = some (a, b) →
        t.reg (R.INGn_A_LAG_MIN n) = i32 a ∧ t.reg (R.INGn_A_LAG_MAX n) = i32 b ∧ (t.rxOf n).lag = none)
  ∧ (∀ (s : State) (n f : Nat) (audio pathB : Bool), s.mainOn = true → s.pathUsed n audio pathB = true →
    (s.rxOf n).heardAt.lookup (2 * b2n audio + b2n pathB) = some f →
    ∃ t, exec (.pathTimeout n audio pathB) s = .next t ∧ t.flag (R.INGn_STATUS n) (if audio then 3 else 1) = true
      ∧ t.time.frc = max s.time.frc (f + max 1 (s.field (R.INGn_V_PATH_TMO n) 15 0) * 1250000)
      ∧ (t.rxOf n).heardAt.lookup (2 * b2n audio + b2n pathB) = none
      ∧ State.Differs [R.INGn_STATUS n] { s with ingest := t.ingest, time := t.time } t)

/-- R123–R126: the raster. With EN = 0 nothing is fetched; a fetched line is there for its pixels, as DRAM held them at the fetch; a pixel that falls due inside a line is pushed, the last one again
when its line was not fetched; a full source FIFO makes the raster hold, and the held cycles are counted. -/
def rasterPace : Prop :=
  (∀ (s : State) (line : Nat), s.mainOn = true → s.flag R.RASTER_CTRL 0 = false →
    ∃ t, exec (.rasterFetchDone line) s = .next t ∧ State.Differs [] s t)
  ∧ (∀ (s : State) (line : Nat), s.mainOn = true → s.flag R.RASTER_CTRL 0 = true → s.ingest.raster.run = true → s.ingest.raster.done = false →
    s.ingest.raster.line ≤ line → line ≤ s.ingest.raster.line + 1 → line < s.rasterTiming.vAct → s.ingest.raster.fetched.lookup line = none →
    s.fetchFrom line < s.boundaryFrc →
    ∃ t, exec (.rasterFetchDone line) s = .next t ∧ t.ingest.raster = { s.ingest.raster with
        fetched := (line, (List.range s.rasterTiming.hAct).map (fun x => s.canvPixel s.ingest.raster.frame x line)) :: s.ingest.raster.fetched }
      ∧ t.time.frc = max s.time.frc (s.fetchFrom line) ∧ State.Differs [] { s with ingest := t.ingest, time := t.time } t)
  ∧ (∀ s : State, s.mainOn = true → s.ingest.raster.run = true → s.ingest.raster.done = false → s.ingest.raster.hold = none →
    s.pixelDue < s.boundaryFrc → s.rasterFull = false → s.ingest.raster.col + 1 < s.rasterTiming.hAct →
    s.ingest.raster.part.length + 1 < ((s.fifoDesc s.rasterFifo).map FifoDesc.elems).getD 64 →
    ∃ t, exec .rasterPixelDue s = .next t ∧ t.time.frc = max s.time.frc s.pixelDue
      ∧ t.ingest.raster.part = s.ingest.raster.part ++ [s.pixelValue.1] ∧ t.ingest.raster.col = s.ingest.raster.col + 1
      ∧ t.reg R.RASTER_UNDERRUN_CNT = (if s.pixelValue.2 then s.reg R.RASTER_UNDERRUN_CNT + 1 else s.reg R.RASTER_UNDERRUN_CNT)
      ∧ State.Differs [R.RASTER_UNDERRUN_CNT, R.RASTER_STATUS] { s with ingest := t.ingest, time := t.time } t)
  ∧ (∀ s : State, s.mainOn = true → s.ingest.raster.run = true → s.ingest.raster.done = false → s.ingest.raster.hold = none →
    s.pixelDue < s.boundaryFrc → s.rasterFull = true →
    ∃ t, exec .rasterPixelDue s = .next t ∧ t.ingest.raster = { s.ingest.raster with hold := some (max s.time.frc s.pixelDue) }
      ∧ State.Differs [] { s with ingest := t.ingest, time := t.time } t)
  ∧ (∀ (s : State) (f : Nat), s.mainOn = true → s.ingest.raster.hold = some f → s.rasterFull = false → s.ingest.raster.eofWait = false →
    ∃ t, exec .rasterHoldRelease s = .next t ∧ t.ingest.raster.hold = none
      ∧ t.reg R.RASTER_HOLD_CYC = s.reg R.RASTER_HOLD_CYC + BitVec.ofNat 32 ((s.time.frc - f) / 2)
      ∧ State.Differs [R.RASTER_HOLD_CYC] { s with ingest := t.ingest } t)

/-- R37, R127–R130, R134, R135: the preview outputs and their AUX channels. HPD trains the link where the output's PLL is locked, the pixel
rate fits and training succeeds; its fall ends it; a pixel that was not fetched repeats the last one; an AUX command leaves, and its end is recorded. -/
def previewOutputs : Prop :=
  (∀ (s : State) (n : Nat) (ok : Bool), s.mainOn = true → n < 2 → s.flag (R.PVn_CTRL n) 0 = true →
    ∃ t, exec (.previewHpd n ok) s = .next t ∧ t.hpdOf n = true
      ∧ t.trainedOf n = (ok && !s.unitLost (.displayPort n) && decide (s.pvClock n * 3 * s.pvBits n * 10 ≤ s.pvLanes n * s.pvRate n * 8))
      ∧ (t.trainedOf n = false → t.flag R.RASTER_STATUS (7 + n) = true)
      ∧ State.Differs [R.RASTER_STATUS] { s with ingest := t.ingest } t)
  ∧ (∀ (s : State) (n : Nat), s.mainOn = true → n < 2 → s.hpdOf n = true →
    ∃ t, exec (.previewHpdDrop n) s = .next t ∧ t.hpdOf n = false ∧ t.trainedOf n = false ∧ t.flag R.RASTER_STATUS (5 + n) = true
      ∧ State.Differs [R.RASTER_STATUS] { s with ingest := t.ingest } t)
  ∧ (∀ (s : State) (n : Nat) (v : List Nat), s.mainOn = true → n < 2 → (s.previewOf n).run = true → (s.previewOf n).done = false →
    (s.previewOf n).last = some v → s.previewDue n < s.boundaryFrc →
    ∃ t, exec (.previewPixelDue n false) s = .next t ∧ t.out = [.pixel n (s.previewOf n).line (s.previewOf n).col v]
      ∧ t.time.frc = max s.time.frc (s.previewDue n)
      ∧ t.reg (R.PVn_UNDERRUN_CNT n) = s.reg (R.PVn_UNDERRUN_CNT n) + 1 ∧ t.flag R.RASTER_STATUS (3 + n) = true
      ∧ State.Differs [R.PVn_UNDERRUN_CNT n, R.RASTER_STATUS] { s with ingest := t.ingest, time := t.time } t)
  ∧ (∀ (s : State) (n : Nat) (v : Word), s.mainOn = true → n < 2 → fld v 31 28 = 9 →
    ∃ t, exec (.pvAuxCmd n v) s = .next t ∧ t.out = [.aux n 9 (fld v 27 8) []] 
      ∧ t.reg (R.PVn_AUX_CMD n) = setFld v 7 4 (s.field (R.PVn_AUX_CMD n) 7 4)
      ∧ State.Differs [R.PVn_AUX_CMD n] { s with ingest := t.ingest } t)
  ∧ (∀ (s : State) (n : Nat), s.mainOn = true → n < 2 → Sparse.get false s.ingest.auxBusy n = true →
    ∃ t, exec (.auxDone n .timeout []) s = .next t ∧ t.field (R.PVn_AUX_CMD n) 7 4 = 3 ∧ t.flag R.RASTER_STATUS 9 = true
      ∧ Sparse.get false t.ingest.auxBusy n = false ∧ State.Differs [R.PVn_AUX_CMD n, R.RASTER_STATUS] { s with ingest := t.ingest } t)

/-- R124–R130, R134, R135: the raster and the preview outputs. -/
def Obligations.RasterAndPreviews : Prop := rasterPace ∧ previewOutputs

/-- R149, R152–R156: the grains. A node with one input whose next record is there and whose outputs have room forms its next grain; an
engine's TAKE gets the grain that R154 chooses, or lets the engine sleep; a TEE's grain that completes frees its engine. -/
def Obligations.Grains : Prop :=
  (∀ (s : State) (g : Graph) (i a : Nat) (n : Node), s.mainOn = true → s.kennel.graph = some g → g.nodes[i]? = some n → n.ins = [a] →
    s.grainsRun = true → s.inputHere g a = true → s.outputsFit g i n = true → s.inFlight < 4096 →
    (n.ordered = true → (s.nodeRun i).formed - (s.nodeRun i).released < 64) → (∀ e, (s.engineOf e).asleep = false) →
    ∃ t, exec (.grainReady i) s = .next t
      ∧ t.kennel.ready = s.kennel.ready ++ [{ node := i, ins := [a * 2 ^ 32 + (s.fifoOf a).taken], seq := (s.nodeRun i).formed, readyAt := s.time.frc }]
      ∧ (t.nodeRun i).formed = (s.nodeRun i).formed + 1 ∧ State.Differs [] { s with kennel := t.kennel, regs := t.regs } t)
  ∧ (∀ (s : State) (g : Graph) (e : Nat) (n : Node) (x : Grain), s.mainOn = true → s.engineFree e = true → s.kennel.graph = some g →
    s.grainsRun = true → s.takeChoice g e = some (n, x) →
    ∃ t, exec (.grainTake e) s = .next t ∧ (t.engineOf e).running = some { x with startAt := s.time.frc, countedAt := s.time.frc, late := x.ins.filter (fun k => (s.recAt k).isNone) }
      ∧ (t.engineOf e).asleep = false ∧ (t.engineOf e).lastNode = some x.node
      ∧ State.Differs [] { s with kennel := t.kennel, regs := t.regs } t)
  ∧ (∀ (s : State) (g : Graph) (e : Nat), s.mainOn = true → s.engineFree e = true → s.kennel.graph = some g →
    s.takeChoice g e = none →
    ∃ t, exec (.grainTake e) s = .next t ∧ (t.engineOf e).asleep = true ∧ State.Differs [] { s with kennel := t.kennel } t)
  ∧ (∀ (s : State) (g : Graph) (e : Nat) (n : Node) (x : Grain) (r : Rec), s.mainOn = true → s.kennel.graph = some g → s.grainsRun = true →
    (s.engineOf e).running = some x → g.nodes[x.node]? = some n → n.op = 0x14 → n.ordered = false → s.grainRecs x = some [r] → n.ins.length = 1 →
    ∃ t, exec (.grainComplete e) s = .next t ∧ (t.engineOf e).running = none)

/-- R145, R164: the strobed graph's image is there once it has been copied; a parameter word waits in the pending copy for step 7. -/
def graphAndParameters : Prop :=
  (∀ (s : State) (g : Graph), s.mainOn = true → s.kennel.next = some (.good g) →
    ∃ t, exec .graphCopyDone s = .next t ∧ t.kennel = { s.kennel with copied := true } ∧ State.Differs [] { s with kennel := t.kennel } t)
  ∧ (∀ (s : State) (v : Word), s.mainOn = true →
    ∃ t, exec (.paramDataWrite v) s = .next t ∧ Sparse.get 0 t.kennel.pendParams (s.field R.KNL_PARAM_IDX 11 0) = v
      ∧ s.field R.KNL_PARAM_IDX 11 0 ∈ t.kennel.dirty ∧ t.kennel.params = s.kennel.params ∧ State.Differs [] { s with kennel := t.kennel } t)

/-- R159, R160: a frame whose sinks have all received EOF completes; one that has not at its deadline is dropped: the drop is counted
with its epoch, and the FIFOs and ready grains are flushed. FIXTURE is off here: what it composes then has its own statements. -/
def frameEnds : Prop :=
  (∀ s : State, s.mainOn = true → s.frameWhole_ = true → s.fixEn = false →
    ∃ t, exec .frameComplete s = .next t ∧ t.kennel.complete = true ∧ t.reg R.KNL_FRAME_DONE_CNT = s.reg R.KNL_FRAME_DONE_CNT + 1
      ∧ t.reg R.KNL_DONE_TIME = w32 ((s.time.frc - s.kennel.start) * 4 / 5) ∧ t.calib.work = some true)
  ∧ (∀ s : State, s.mainOn = true → s.frameRuns = true → s.frameWhole_ = false → s.fixEn = false →
    ∃ t, exec .frameDeadline s = .next t ∧ t.kennel.dropped = true ∧ t.kennel.ready = [] ∧ t.kennel.fifos = []
      ∧ t.reg R.KNL_FRAME_DROP_CNT = s.reg R.KNL_FRAME_DROP_CNT + 1 ∧ t.reg R.KNL_LAST_DROP_EPOCH = s.kennel.epoch
      ∧ t.flag R.KNL_STATUS 0 = true ∧ t.time.frc = max s.time.frc (s.frcAt s.deadline) ∧ t.calib.work = some false)

/-- R150, R162, R163, R179: an engine's watchdog holds the engine and reports it, the cycles up to then counted as busy or stalled; RESTART lets it run again; an error in its local store is
reported, corrected or not. -/
def engineFaults : Prop :=
  (∀ (s : State) (e : Nat) (x : Grain), s.mainOn = true → e < 16 → (s.engineOf e).running = some x →
    ∃ t, exec (.engineWatchdog e) s = .next t ∧ (t.engineOf e).running = none ∧ (t.engineOf e).held = true
      ∧ t.flag (R.REn_STATUS e) 0 = true ∧ t.flag R.KNL_STATUS 6 = true
      ∧ t.reg (R.REn_BUSY_CYC e) + t.reg (R.REn_STALL_CYC e)
          = s.reg (R.REn_BUSY_CYC e) + s.reg (R.REn_STALL_CYC e) + BitVec.ofNat 32 (t.time.frc - x.countedAt)
      ∧ State.Differs ([R.REn_STATUS e, R.KNL_STATUS, R.REn_BUSY_CYC e, R.REn_STALL_CYC e] ++ x.late.map (fun k => R.KNL_FIFOf_STALL_CYC (k / 2 ^ 32)))
          { s with kennel := t.kennel, time := t.time, brace := t.brace, freeCtr := t.freeCtr } t)
  ∧ (∀ (s : State) (e : Nat), s.mainOn = true → e < 16 → s.flag (R.REn_STATUS e) 0 = true →
    ∃ t, exec (.engineRestart e) s = .next t ∧ t.flag (R.REn_STATUS e) 0 = false ∧ (t.engineOf e).held = false
      ∧ State.Differs [R.REn_STATUS e] { s with kennel := t.kennel } t)
  ∧ (∀ (s : State) (e : Nat), s.mainOn = true → e < 16 →
    ∃ t, exec (.localStoreError e true) s = .next t ∧ t.reg (R.REn_LS_CE_CNT e) = s.reg (R.REn_LS_CE_CNT e) + 1
      ∧ t.flag (R.REn_STATUS e) 1 = true ∧ State.Differs [R.REn_LS_CE_CNT e, R.REn_STATUS e] s t)
  ∧ (∀ (s : State) (e : Nat), s.mainOn = true → e < 16 → s.frameRuns = false →
    ∃ t, exec (.localStoreError e false) s = .next t ∧ t.flag (R.REn_STATUS e) 2 = true ∧ t.flag R.KNL_STATUS 6 = true
      ∧ (t.engineOf e).running = none
      ∧ State.Differs ([R.REn_STATUS e, R.KNL_STATUS, R.REn_BUSY_CYC e, R.REn_STALL_CYC e]
            ++ (((s.engineOf e).running.map Grain.late).getD []).map (fun k => R.KNL_FIFOf_STALL_CYC (k / 2 ^ 32)))
          { s with kennel := t.kennel, brace := t.brace, freeCtr := t.freeCtr } t)

/-- R145, R159, R160, R162–R164, R179: the graph's copy and parameters, how a frame ends, and engine faults. -/
def Obligations.FramesAndEngines : Prop := graphAndParameters ∧ frameEnds ∧ engineFaults

/-- R197, R198: the bank commands, as register commands. COPY and COMMIT start and read RUNNING; a COPY leaves the pending bank as the live
one was and no other byte changed; a COMMIT is stale, validates, or fails its validation; CANCEL with nothing running is OK, and
stops a running COMMIT with ABORTED. -/
def Obligations.BankCommands : Prop :=
  (∀ s : State, s.mainOn = true → s.calib.run = none → s.calib.valid = true →
    ∃ t, exec .calibCopy s = .next t ∧ t.calib.run = some .copy ∧ t.flag R.CALIB_CMD_STAT 8 = true
      ∧ State.Differs [R.CALIB_CMD_STAT] { s with calib := t.calib } t)
  ∧ (∀ s : State, s.mainOn = true → s.calib.run = some .copy → s.calib.owner = none → s.bankBase (!s.calib.bankB) + s.bankSize ≤ State.dramSize →
    ∃ t, exec .calibCopyDone s = .next t ∧ t.calib.run = none ∧ t.flag R.CALIB_STATUS 2 = true ∧ t.reg R.CALIB_CMD_STAT = 0
      ∧ (∀ o, o < s.bankSize → t.rd8 (s.bankBase (!s.calib.bankB) + o) = s.rd8 (s.bankBase s.calib.bankB + o))
      ∧ (∀ a, a < s.bankBase (!s.calib.bankB) ∨ s.bankBase (!s.calib.bankB) + s.bankSize ≤ a → t.rd8 a = s.rd8 a)
      ∧ State.Differs [R.CALIB_STATUS, R.CALIB_CMD_STAT] { s with calib := t.calib, dram := t.dram } t)
  ∧ (∀ s : State, s.mainOn = true → s.calib.run = none →
    ∃ t, exec (.calibCommit false) s = .next t ∧ t.calib.run = some (.commit none false) ∧ t.flag R.CALIB_CMD_STAT 8 = true
      ∧ State.Differs [R.CALIB_CMD_STAT] { s with calib := t.calib } t)
  ∧ (∀ s : State, s.mainOn = true → s.calib.run = none → later (s.reg R.CALIB_COMMIT_EPOCH) s.time.epoch = false →
    ∃ t, exec (.calibCommit true) s = .next t ∧ t.calib = s.calib ∧ t.flag R.CALIB_STATUS 1 = true ∧ t.reg R.CALIB_CMD_STAT = 11
      ∧ State.Differs [R.CALIB_STATUS, R.CALIB_CMD_STAT] s t)
  ∧ (∀ (s : State) (e : Option Epoch), s.mainOn = true → s.calib.run = some (.commit e false) →
    s.bankCheck (s.bankBase (!s.calib.bankB)) = none →
    ∃ t, exec .commitValidated s = .next t ∧ t.calib = { s.calib with run := some (.commit e true) }
      ∧ State.Differs [] { s with calib := t.calib } t)
  ∧ (∀ (s : State) (e : Option Epoch) (st idx : Nat), s.mainOn = true → s.calib.run = some (.commit e false) → s.calib.owner = none →
    s.bankCheck (s.bankBase (!s.calib.bankB)) = some (st, idx) →
    ∃ t, exec .commitValidated s = .next t ∧ t.calib.run = none ∧ t.flag R.CALIB_STATUS 1 = true
      ∧ t.reg R.CALIB_CMD_STAT = w32 (idx * 65536 + st) ∧ State.Differs [R.CALIB_STATUS, R.CALIB_CMD_STAT] { s with calib := t.calib } t)
  ∧ (∀ s : State, s.mainOn = true → s.calib.run = none →
    ∃ t, exec .calibCancel s = .next t ∧ t.reg R.CALIB_CMD_STAT = 0 ∧ State.Differs [R.CALIB_CMD_STAT] s t)
  ∧ (∀ (s : State) (e : Option Epoch) (ok : Bool), s.mainOn = true → s.calib.run = some (.commit e ok) → s.calib.owner = none →
    ∃ t, exec .calibCancel s = .next t ∧ t.calib.run = none ∧ t.reg R.CALIB_CMD_STAT = 12
      ∧ State.Differs [R.CALIB_CMD_STAT] { s with calib := t.calib } t)

/-- R193, R194, R200: gains and coefficients. The gain work leaves each zone's power gain for the boundary; a safety input is stored
with the epoch of its write; a class 0 or 2 coefficient acts at once in IDLE and waits in SHOW; a class 1 one acts at its lane's gap. -/
def gainsAndCoefficients : Prop :=
  (∀ s : State, s.mainOn = true → s.calib.work = some true → s.calib.ready = false →
    ∃ t, exec .calibGainsDone s = .next t ∧ t.calib.ready = true
      ∧ (∀ z, z < 256 → Sparse.get 65536 t.calib.nextPower z
          = State.powerGain (s.zoneOf z) (Sparse.get 0 s.calib.lastSum z % 2 ^ 48) (s.powerOf z))
      ∧ State.Differs [] { s with calib := t.calib } t)
  ∧ (∀ (s : State) (z : Nat) (v : Word), s.mainOn = true → z < 256 →
    ∃ t, exec (.safeInWrite z v) s = .next t ∧ t.reg (R.CALIB_SAFE_INz z) = v &&& 0x1FFFF ∧ t.calib.safeAt.lookup z = some s.time.epoch
      ∧ State.Differs [R.CALIB_SAFE_INz z] { s with calib := t.calib } t)
  ∧ (∀ (s : State) (a c : Nat) (v : Word), s.mainOn = true → canonOf a = a → State.scClass a = some c → c = 0 ∨ c = 2 → s.inShow = false →
    ∃ t, exec (.scCoeffWrite a v) s = .next t ∧ t.reg a = blend (s.reg a) v (State.scMask a) ∧ t.calib.scPend.lookup a = none
      ∧ State.Differs [a] { s with calib := t.calib, badLive := t.badLive } t)
  ∧ (∀ (s : State) (a c : Nat) (v : Word), s.mainOn = true → canonOf a = a → State.scClass a = some c → c = 0 ∨ c = 2 → s.inShow = true →
    ∃ t, exec (.scCoeffWrite a v) s = .next t ∧ t.calib.scPend.lookup a = some v ∧ State.Differs [] { s with calib := t.calib } t)
  ∧ (∀ (s : State) (a : Nat) (v : Word), s.mainOn = true → s.calib.scPend = [(a, v)] → State.scClass a = some 1 → s.inShow = false →
    ∃ t, exec (.scApplyIfg (State.scLane a)) s = .next t ∧ t.reg a = blend (s.reg a) v (State.scMask a) ∧ t.calib.scPend = []
      ∧ State.Differs [a] { s with calib := t.calib, badLive := t.badLive } t)

/-- R227, R228: LED diagnosis. CLEAR runs, and when it is done every entry reads zero and none is measured; an entry older than
PLAN_DIAG_MAXAGE is unmeasured again; PLAN_LED_FAULT and PLAN_LED_UNMEAS count the table's entries. -/
def ledDiagnosis : Prop :=
  (∀ s : State, s.mainOn = true → s.plan.clearing = false →
    ∃ t, exec .planDiagClear s = .next t ∧ t.plan.clearing = true ∧ t.reg R.PLAN_DIAG_STAT = 0x100
      ∧ State.Differs [R.PLAN_DIAG_STAT] { s with plan := t.plan } t)
  ∧ (∀ s : State, s.mainOn = true → s.plan.clearing = true →
    ∃ t, exec .planDiagClearDone s = .next t ∧ t.plan.clearing = false ∧ t.reg R.PLAN_DIAG_STAT = 0 ∧ t.flag R.PLAN_STATUS 7 = true
      ∧ t.ledUnmeas = s.ledCount ∧ t.ledFaults = 0
      ∧ (∀ a, t.rd8 a = if s.ledTable ≤ a ∧ a < s.ledTable + 8 * s.ledCount then 0 else s.rd8 a)
      ∧ State.Differs [R.PLAN_DIAG_STAT, R.PLAN_STATUS] { s with plan := t.plan, dram := t.dram } t)
  ∧ (∀ (s : State) (led : Nat), s.mainOn = true → led < s.ledCount → s.rdLE (s.ledTable + 8 * led + 4) 1 % 4 ≠ 0 →
    s.diagMaxAge < (s.time.epoch - BitVec.ofNat 32 (s.rdLE (s.ledTable + 8 * led) 4)).toNat →
    s.ledTable + 8 * led + 4 < State.dramSize →
    ∃ t, exec (.ledStatusAge led) s = .next t
      ∧ t.rdLE (s.ledTable + 8 * led + 4) 1 = s.rdLE (s.ledTable + 8 * led + 4) 1 / 4 * 4
      ∧ (∀ a, a ≠ s.ledTable + 8 * led + 4 → t.rd8 a = s.rd8 a)
      ∧ t.reg R.PLAN_AGED_CNT = s.reg R.PLAN_AGED_CNT + 1
      ∧ t.flag R.PLAN_STATUS 8 = true
      ∧ State.Differs [R.PLAN_AGED_CNT, R.PLAN_STATUS] { s with dram := t.dram } t)
  ∧ (∀ s : State, s.readWord R.PLAN_LED_FAULT = w32 s.ledFaults ∧ s.readWord R.PLAN_LED_UNMEAS = w32 s.ledUnmeas)

/-- R193, R194, R200, R227, R228: gains, self-calibration coefficients and LED diagnosis. -/
def Obligations.GainsAndDiagnosis : Prop := gainsAndCoefficients ∧ ledDiagnosis

/-- R243, R369: frame l, which this port receives, passes checks 1 to 5, without authentication, as x. -/
abbrev vcnAccepts (s : State) (port : Nat) (l : Bytes) (x : VcnRx) : Prop :=
  s.vcnEn = true ∧ s.vcnPort port = true ∧ s.rxReady port = true ∧ s.vcnAuth = 0 ∧ (s.rxCheck l).1 = some x

/-- R259, R292, R458: what stands around an ECHO is plain: the tile is heard on its own port, its endpoint entry is not a tile's, and
brace is off. -/
abbrev plainEcho (s : State) (port : Nat) (x : VcnRx) : Prop :=
  (s.routeOf x.src).port = port ∧ s.rdLE (s.eptBase + 32 * x.src) 1 ≠ 1 ∧ s.brace.state ≠ .active ∧ s.braceOn = false

/-- R232, R234, R237, R247: the Ethernet frame of fragment f of plan p on a port, in layer-2 mode without a tag of R240. -/
def fragFrame (s : State) (port : Nat) (f : Frag) (p : TilePlan) : Bytes :=
  let data := s.rdBytes (s.stageBase f.epoch + (s.routeOf f.tile).stageOff + (p.span f.idx).1) ((p.span f.idx).2 - (p.span f.idx).1)
  let body := s.vcnHeader 2 (64 * b2n f.resend) 0 data.length f.tile f.epoch (s.vcnCount f.tile f.epoch) f.idx p.frags (p.span f.idx).1 ++ data
  s.ether port (s.routeOf f.tile).mac
    (if s.flag R.VCN_CTRL 4 then some (s.field R.VCN_VLAN 18 16 * 8192 + s.field R.VCN_VLAN 11 0) else none) (s.field R.VCN_ETHERTYPE 15 0)
    (body ++ beBytes 4 (crc32c body))

/-- R246–R249, R241: plans on their way out. The sink stages a BYTES record at its tile's place and nowhere else, and
discards one that reaches beyond the PLAN_LEN it carries; a fragment that becomes
ready joins its port's queue; the next one goes to its port's MAC with the next sequence number, and stays in Vocon where Vocon does not
run on the port; at T less the guard the epoch's fragments are discarded; and at the limits of the key's age the key is old, and lost. -/
def Obligations.VoconFragments : Prop :=
  (∀ (s : State) (f : Nat) (r : Rec), s.mainOn = true → s.vcnEn = true → s.sinkHead 1 = some (f, r) →
    r.kind = 2 → r.tag < 65536 → (s.routeOf r.tag).valid = true → s.vcnPort (s.routeOf r.tag).port = true →
    s.tilePlan r.tag s.kennel.epoch = none → r.y * 65536 + r.x + r.payload.length ≤ (s.routeOf r.tag).stageLen →
    s.stageBase s.kennel.epoch + (s.routeOf r.tag).stageOff + (r.y * 65536 + r.x) + r.payload.length ≤ State.dramSize →
    (r.y * 65536 + r.x ≤ 4 → 8 ≤ r.y * 65536 + r.x + r.payload.length →
      r.y * 65536 + r.x + r.payload.length ≤ beNat (slice r.payload (4 - (r.y * 65536 + r.x)) 4)) →
    ∃ t p, exec .voconSinkRecord s = .next t ∧ t.tilePlan r.tag s.kennel.epoch = some p
      ∧ p.port = (s.routeOf r.tag).port ∧ p.ranges = [(r.y * 65536 + r.x, r.y * 65536 + r.x + r.payload.length)]
      ∧ t.rdBytes (s.stageBase s.kennel.epoch + (s.routeOf r.tag).stageOff + (r.y * 65536 + r.x)) r.payload.length = r.payload
      ∧ (∀ a, a < s.stageBase s.kennel.epoch + (s.routeOf r.tag).stageOff + (r.y * 65536 + r.x)
          ∨ s.stageBase s.kennel.epoch + (s.routeOf r.tag).stageOff + (r.y * 65536 + r.x) + r.payload.length ≤ a → t.rd8 a = s.rd8 a))
  ∧ (∀ (s : State) (f : Nat) (r : Rec), s.mainOn = true → s.vcnEn = true → s.sinkHead 1 = some (f, r) →
    r.kind = 2 → r.tag < 65536 → (s.routeOf r.tag).valid = true → s.vcnPort (s.routeOf r.tag).port = true →
    s.tilePlan r.tag s.kennel.epoch = none → r.y * 65536 + r.x + r.payload.length ≤ (s.routeOf r.tag).stageLen →
    s.stageBase s.kennel.epoch + (s.routeOf r.tag).stageOff + (r.y * 65536 + r.x) + r.payload.length ≤ State.dramSize →
    r.y * 65536 + r.x ≤ 4 → 8 ≤ r.y * 65536 + r.x + r.payload.length →
    beNat (slice r.payload (4 - (r.y * 65536 + r.x)) 4) < r.y * 65536 + r.x + r.payload.length →
    ∃ t p, exec .voconSinkRecord s = .next t ∧ t.tilePlan r.tag s.kennel.epoch = some p ∧ p.void = true
      ∧ t.reg R.VCN_ROUTE_ERR_CNT = s.reg R.VCN_ROUTE_ERR_CNT + 1 ∧ t.flag R.VCN_STATUS 3 = true ∧ t.dram = s.dram)
  ∧ (∀ (s : State) (tile idx : Nat) (e : Epoch) (p : TilePlan), s.mainOn = true → s.vcnEn = true → s.tilePlan tile e = some p → p.void = false →
    s.isVoid e = false → idx < p.frags → idx ∉ p.ready → p.has (p.span idx).1 (p.span idx).2 = true → s.windowOpen e = true → s.sendsEpoch e = true →
    ∃ t, exec (.fragmentReady tile e idx) s = .next t
      ∧ t.vcnQueue p.port = s.vcnQueue p.port ++ [{ tile := tile, epoch := e, idx := idx, resend := false }]
      ∧ State.Differs [] { s with vocon := t.vocon } t)
  ∧ (∀ (s : State) (port : Nat) (f : Frag) (rest : List Frag) (p : TilePlan), s.mainOn = true → s.vcnEn = true → s.vcnAuth = 0 → s.vcnUdp = false →
    s.vcnPort port = true → s.vcnQueue port = f :: rest → f.resend = false → s.sendsEpoch f.epoch = true → s.tilePlan f.tile f.epoch = some p →
    (p.span f.idx).2 - (p.span f.idx).1 ≤ 1400 → s.vcnCount f.tile f.epoch < 65536 →
    ∃ t, exec (.planFragmentSend port) s = .next t ∧ t.vcnQueue port = rest
      ∧ t.vcnCount f.tile f.epoch = s.vcnCount f.tile f.epoch + 1
      ∧ (t.macOf port).txq = (s.macOf port).txq
          ++ [{ queue := 3, bytes := fragFrame s port f p, use := .plan f.tile f.epoch f.idx false }]
      ∧ State.Differs [] { s with vocon := t.vocon, mac := t.mac } t)
  ∧ (∀ (s : State) (port : Nat), s.mainOn = true → s.vcnPort port = false →
    ∃ t, exec (.planFragmentSend port) s = .next t ∧ State.Differs [] s t)
  ∧ (∀ (s : State) (e : Epoch) (T : Int), s.mainOn = true → s.vocon.windows.getLast? = some (e, T) →
    ∃ t, exec .resendWindowClose s = .next t ∧ t.vocon.windows = s.vocon.windows.dropLast
      ∧ t.time.frc = max s.time.frc (s.frcAt (T - s.planGuard * State.uNs))
      ∧ ∀ port f, f ∈ t.vcnQueue port → f.epoch ≠ e)
  ∧ (∀ s : State, s.mainOn = true → s.vocon.slot.isSome = true → 2 ^ 31 ≤ s.keyAge → s.keyAge < 2 ^ 32 - 65536 →
    ∃ t, exec .vcnKeyAgeLimit s = .next t ∧ t.flag R.VCN_KEY_STATE 0 = true ∧ t.flag R.VCN_STATUS 10 = true
      ∧ State.Differs [R.VCN_KEY_STATE, R.VCN_STATUS] s t)
  ∧ (∀ s : State, s.mainOn = true → s.vocon.slot.isSome = true → 2 ^ 32 - 65536 ≤ s.keyAge →
    ∃ t, exec .vcnKeyAgeLimit s = .next t ∧ t.flag R.VCN_KEY_STATE 1 = true ∧ t.flag R.VCN_STATUS 9 = true
      ∧ t.flag R.VCN_KEY_STATE 0 = true ∧ t.flag R.VCN_STATUS 10 = true ∧ State.Differs [R.VCN_KEY_STATE, R.VCN_STATUS] { s with brace := t.brace } t)

/-- R87, R243, R252–R264, R284: frames from the tiles. A malformed frame is counted; a HELLO of a known tile refreshes its route and is answered;
REPORT, LOSS and DETECT do what they carry, a REPORT of an epoch that is not open being counted as stale; a PING is answered; other DIAG frames enter the tile log. -/
def Obligations.VoconReceive : Prop :=
  (∀ (s : State) (port : Nat) (l : Bytes), s.mainOn = true → s.vcnEn = true → s.vcnPort port = true → s.rxReady port = true →
    s.rxShape l = none →
    ∃ t, exec (.helloRx port l) s = .next t ∧ t.reg R.VCN_RX_MALFORMED_CNT = s.reg R.VCN_RX_MALFORMED_CNT + 1 ∧ t.flag R.VCN_STATUS 0 = true
      ∧ State.Differs [R.VCN_RX_MALFORMED_CNT, R.VCN_STATUS] s t)
  ∧ (∀ (s : State) (port : Nat) (l : Bytes) (x : VcnRx), s.mainOn = true → vcnAccepts s port l x → x.type = 1 → x.sub = 0 → x.payload.length = 52 →
    s.fragMax ≤ beAt x.payload 0x10 2 → (s.routeOf x.src).valid = true → (s.routeOf x.src).mac = slice x.payload 0 6 →
    (s.routeOf x.src).port = port → s.routeAddr x.src + 32 ≤ State.dramSize → s.outputsOn = true → s.vcnUdp = false →
    s.vcnCount x.src s.time.epoch < 65536 →
    ∃ t b, exec (.helloRx port l) s = .next t ∧ (s.vcnFrame 1 0 1 x.src s.time.epoch 0 0 0 (beBytes 2 s.fragMax
        ++ beBytes 2 (clampNat 1 3600 (s.field R.VCN_HELLO_PERIOD 11 0)) ++ beBytes 4 0)).1 = some b ∧ t.rdLE (s.routeAddr x.src + 0x14) 4 = s.time.epoch.toNat
      ∧ (∀ a, a < s.routeAddr x.src + 0x14 ∨ s.routeAddr x.src + 0x18 ≤ a → t.rd8 a = s.rd8 a)
      ∧ (t.macOf port).txq = (s.macOf port).txq ++ [{ queue := 3, bytes := (s.vcnToTile port x.src b).1, use := .cfg none 0 }])
  ∧ (∀ (s : State) (port : Nat) (l : Bytes) (x : VcnRx), s.mainOn = true → vcnAccepts s port l x → plainEcho s port x → x.type = 4 → x.sub = 0 →
    State.repOk x.payload = true → beAt x.payload 0x0C 2 ≠ 0x8000 → s.verEn = false → s.sheafEn = false → beAt x.payload 0x0A 1 % 2 = 0 →
    (s.verBank x.epoch).opened = true → (s.verBank x.epoch).epoch = x.epoch →
    ∃ t, exec (.echoReportRx port l) s = .next t ∧ t.reg R.VCN_RX_ECHO_CNT = s.reg R.VCN_RX_ECHO_CNT + 1
      ∧ t.calib.report.lookup x.src = some (signed 16 (beAt x.payload 0x0C 2), x.epoch)
      ∧ (x.src, w32 (beAt x.payload 0 4)) ∈ t.plan.latched
      ∧ Sparse.get [] t.vocon.health x.src = slice x.payload 0x2C 20
      ∧ Sparse.get 0 t.vocon.latches x.src = ts32Extend (s.lt / State.uNs) (w32 (beAt x.payload 4 4))
      ∧ Sparse.get 0 t.vocon.stamps x.src = ts32Extend (s.lt / State.uNs) x.ts
      ∧ State.Differs [R.VCN_RX_ECHO_CNT] { s with calib := t.calib, plan := t.plan, vocon := t.vocon } t)
  ∧ (∀ (s : State) (port : Nat) (l : Bytes) (x : VcnRx), s.mainOn = true → vcnAccepts s port l x → plainEcho s port x → x.type = 4 → x.sub = 0 →
    State.repOk x.payload = true → s.sheafEn = false → (s.verBank x.epoch).opened = false ∨ (s.verBank x.epoch).epoch ≠ x.epoch →
    ∃ t, exec (.echoReportRx port l) s = .next t ∧ t.reg R.VER_STALE_CNT = s.reg R.VER_STALE_CNT + 1 ∧ t.flag R.VER_STATUS 2 = true
      ∧ State.Differs [R.VCN_RX_ECHO_CNT, R.VER_STALE_CNT, R.VER_STATUS] { s with calib := t.calib, plan := t.plan, vocon := t.vocon } t)
  ∧ (∀ (s : State) (port j : Nat) (l : Bytes) (x : VcnRx) (p : TilePlan), s.mainOn = true → vcnAccepts s port l x → plainEcho s port x →
    x.type = 4 → x.sub = 1 → State.lossOk x.payload = true → State.lossRanges x.payload = [(j, 1)] → s.sendsEpoch x.epoch = true →
    s.tilePlan x.src x.epoch = some p → j < p.frags → s.isVoid x.epoch = false → s.windowOpen x.epoch = true → p.void = false → j ∈ p.ready →
    p.resent < s.field R.VCN_RESEND_MAX 15 0 →
    ∃ t, exec (.echoLossRx port l) s = .next t
      ∧ t.vcnQueue port = (s.vcnQueue port).takeWhile (·.resend)
          ++ { tile := x.src, epoch := x.epoch, idx := j, resend := true } :: (s.vcnQueue port).dropWhile (·.resend)
      ∧ State.Differs [R.VCN_RX_ECHO_CNT] { s with vocon := t.vocon } t)
  ∧ (∀ (s : State) (port kind line chain nbits led0 : Nat) (o z l : Bytes) (x : VcnRx) (y : Layout), s.mainOn = true → vcnAccepts s port l x →
    plainEcho s port x → x.type = 4 → x.sub = 2 →
    State.detRecords (x.payload.length + 1) x.payload = some [(kind, line, chain, nbits, o, z)] →
    s.planOf x.src = some (y, true, led0) → s.flag R.PLAN_CTRL 0 = true → s.plan.clearing = false → led0 + 3 * y.w * y.h ≤ s.ledCount →
    nbits = y.p * y.c → line < y.l → chain < y.k → s.flagClaimed x.src kind x.epoch = true → (x.src, x.epoch) ∈ s.plan.latched → kind = 0 →
    ∃ t, exec (.echoDetectRx port l) s = .next t ∧ t.reg R.PLAN_REPORT_CNT = s.reg R.PLAN_REPORT_CNT + 1
      ∧ t.reg R.VCN_RX_ECHO_CNT = s.reg R.VCN_RX_ECHO_CNT + 1 ∧ t.reg R.PLAN_REPORT_DROP_CNT = s.reg R.PLAN_REPORT_DROP_CNT)
  ∧ (∀ (s : State) (port : Nat) (l : Bytes) (x : VcnRx), s.mainOn = true → vcnAccepts s port l x → x.type = 8 → x.sub = 0 → x.payload.length ≤ 64 →
    s.outputsOn = true → s.vcnUdp = false → s.vcnCount x.src s.time.epoch < 65536 →
    ∃ t b, exec (.diagPingRx port l) s = .next t
      ∧ (s.vcnFrame 8 0 1 x.src s.time.epoch 0 0 0 (beBytes 4 s.nowTs32.toNat ++ x.payload)).1 = some b
      ∧ (t.macOf port).txq = (s.macOf port).txq ++ [{ queue := 3, bytes := (s.vcnToTile port x.src b).1, use := .cfg none 0 }]
      ∧ State.Differs [] { s with vocon := t.vocon, mac := t.mac } t)
  ∧ (∀ (s : State) (port : Nat) (l : Bytes) (x : VcnRx), s.mainOn = true → vcnAccepts s port l x → x.type = 8 → 2 ≤ x.sub →
    (s.field R.VCN_LOG_HEAD 11 0 + 1) % 4096 ≠ s.field R.VCN_LOG_TAIL 11 0 →
    ∃ t, exec (.diagTileRx port l) s = .next t ∧ t.reg R.VCN_LOG_HEAD = w32 ((s.field R.VCN_LOG_HEAD 11 0 + 1) % 4096)
      ∧ t.flag R.VCN_STATUS 11 = true ∧ State.Differs [R.VCN_LOG_HEAD, R.VCN_STATUS] { s with dram := t.dram, vocon := t.vocon } t)

/-- R268–R274: the HEEL. Copy 0 of an epoch leaves on every Vocon port in queue 7 at its time and is counted; a frame that still runs then is
dropped, and void in all copies; one whose time lies too near T, or was stepped over, is skipped, and the epoch is missed; with no copy due
nothing happens. -/
def Obligations.HeelCopies : Prop :=
  (∀ (s : State) (x : HeelEp), s.mainOn = true → s.nextCopy = some x → x.copy = 0 → s.flag R.HEEL_CTRL 0 = true → s.vcnEn = true →
    s.vcnAuth = 0 → s.vcnUdp = false → s.heelCopyTime x 0 ≤ x.t - 10000 * State.uNs → 0 ∉ x.passed → s.sendsEpoch x.epoch = true →
    s.sheaf.carry = none → s.vcnCount 0xFFFF x.epoch < 65536 → s.frameRuns = false ∨ x.epoch ≠ s.kennel.epoch →
    ∃ t b, exec .heelCopySend s = .next t ∧ t.time.frc = max s.time.frc (s.frcAt (s.heelCopyTime x 0))
      ∧ t.reg R.HEEL_COPY_CNT = s.reg R.HEEL_COPY_CNT + 1 ∧ t.reg R.HEEL_SENT_CNT = s.reg R.HEEL_SENT_CNT + 1
      ∧ t.reg R.HEEL_FLAGS = w32 (b2n (s.isVoid x.epoch))
      ∧ (∀ p, s.vcnPort p = true → (t.macOf p).txq
          = (s.macOf p).txq ++ [{ queue := 7, bytes := s.heelFrame 0 p b, use := .heel x.epoch x.t }])
      ∧ (∀ p, s.vcnPort p = false → t.macOf p = s.macOf p))
  ∧ (∀ (s : State) (x : HeelEp), s.mainOn = true → s.nextCopy = some x → x.copy = 0 → s.flag R.HEEL_CTRL 0 = true → s.vcnEn = true →
    s.vcnAuth = 0 → s.vcnUdp = false → s.heelCopyTime x 0 ≤ x.t - 10000 * State.uNs → 0 ∉ x.passed → s.sendsEpoch x.epoch = true →
    s.sheaf.carry = none → s.vcnCount 0xFFFF x.epoch < 65536 → s.frameRuns = true → s.frameWhole_ = false → x.epoch = s.kennel.epoch →
    s.fixEn = false →
    ∃ t, exec .heelCopySend s = .next t ∧ t.kennel.dropped = true ∧ t.isVoid x.epoch = true ∧ t.reg R.HEEL_FLAGS = 1
      ∧ t.reg R.HEEL_VOID_CNT = s.reg R.HEEL_VOID_CNT + 1 ∧ t.reg R.KNL_FRAME_DROP_CNT = s.reg R.KNL_FRAME_DROP_CNT + 1)
  ∧ (∀ (s : State) (x : HeelEp), s.mainOn = true → s.nextCopy = some x → x.copy = 0 → s.flag R.HEEL_CTRL 0 = true → s.vcnEn = true →
    (x.t - 10000 * State.uNs < s.heelCopyTime x 0 ∨ 0 ∈ x.passed) → s.sheaf.carry = none →
    ∃ t, exec .heelCopySend s = .next t ∧ t.reg R.HEEL_SKIP_CNT = s.reg R.HEEL_SKIP_CNT + 1
      ∧ t.reg R.HEEL_MISSED_CNT = s.reg R.HEEL_MISSED_CNT + 1 ∧ t.flag R.HEEL_STATUS 0 = true ∧ t.flag R.HEEL_STATUS 1 = true ∧ t.mac = s.mac)
  ∧ (∀ s : State, s.mainOn = true → s.nextCopy = none → ∃ t, exec .heelCopySend s = .next t ∧ State.Differs [] s t)

/-- R282–R286: the verification of the picture. A window's expected CRC is kept for its open epoch; an open epoch closes at its time with its
result, VER_DONE_EPOCH and DONE; with no record waiting, and with no epoch open, nothing happens. -/
def Obligations.HeelAndVerification : Prop :=
  (∀ (s : State) (f : Nat) (r : Rec), s.mainOn = true → s.verEn = true → s.sinkHead 3 = some (f, r) → r.kind = 2 → r.payload.length = 8 →
    (s.verBank s.kennel.epoch).opened = true → (s.verBank s.kennel.epoch).epoch = s.kennel.epoch →
    ∃ t, exec .verifySinkRecord s = .next t
      ∧ (t.verBank s.kennel.epoch).expected.lookup (leAt r.payload 0 2) = some (w32 (leAt r.payload 4 4)))
  ∧ (∀ (s : State) (T : Int) (b : VerBank) (l : List (Int × VerBank)), s.mainOn = true → s.verDue = (T, b) :: l →
    ∃ t, exec .verifyClose s = .next t ∧ t.time.frc = max s.time.frc (s.frcAt T) ∧ (t.verBank b.epoch).opened = false
      ∧ t.reg R.VER_DONE_EPOCH = b.epoch ∧ t.flag R.VER_STATUS 7 = true)
  ∧ (∀ s : State, s.mainOn = true → s.sinkHead 3 = none → ∃ t, exec .verifySinkRecord s = .next t ∧ State.Differs [] s t)
  ∧ (∀ s : State, s.mainOn = true → s.verDue = [] → ∃ t, exec .verifyClose s = .next t ∧ State.Differs [] s t)

/-- R297, R300–R303: fixture records and sACN output. The sink keeps a universe's graph part; the next queued universe leaves as a data
packet of R300 in queue 2, or is discarded late; at the guard time late packets are discarded; a synchronisation packet leaves on every sACN port; and a
stopped universe sends its Stream_Terminated packets, 1 ms apart. -/
def Obligations.SacnOutput : Prop :=
  (∀ (s : State) (f : Nat) (r : Rec), s.mainOn = true → s.fixEn = true → s.sinkHead 2 = some (f, r) → r.kind = 2 → r.tag < s.outCount →
    (s.outUni r.tag).en = true → (s.outUni r.tag).source = 0 ∨ (s.outUni r.tag).source = 2 → 2 ≤ r.payload.length → r.payload.length ≤ 513 →
    s.graphPart r.tag s.kennel.epoch = none →
    ∃ t, exec .fixtureSinkRecord s = .next t ∧ t.graphPart r.tag s.kennel.epoch = some r.payload)
  ∧ (∀ (s : State) (u : Nat) (r : Epoch) (rest : List (Nat × Epoch)), s.mainOn = true → s.fixture.queue = (u, r) :: rest → s.sacnLate r = false →
    s.sendsEpoch r = true →
    ∃ t h, exec .sacnPacketSend s = .next t ∧ t.fixture.queue = rest ∧ t.uniSeq u = (s.uniSeq u + 1) % 256 ∧ h.length = 42
      ∧ (t.macOf (s.outUni u).port).txq = (s.macOf (s.outUni u).port).txq ++ 
          [{ queue := 2, use := .sacn (some r),
             bytes := h ++ sacnData s.fixCid (s.words4 R.FIX_NAMEw 16) (s.outUni u).prio s.syncUniv (s.uniSeq u)
                (128 * b2n (s.outUni u).preview) (s.outUni u).uni (s.readImage (s.imageAddr u r)) }]
      ∧ State.Differs [] { s with fixture := t.fixture, mac := t.mac, freeCtr := t.freeCtr } t)
  ∧ (∀ (s : State) (u : Nat) (r : Epoch) (rest : List (Nat × Epoch)), s.mainOn = true → s.fixture.queue = (u, r) :: rest → s.sacnLate r = true →
    ∃ t, exec .sacnPacketSend s = .next t ∧ t.fixture = { s.fixture with queue := rest }
      ∧ t.reg R.FIX_SACN_LATE_CNT = s.reg R.FIX_SACN_LATE_CNT + 1 ∧ t.flag R.FIX_STATUS 0 = true
      ∧ State.Differs [R.FIX_SACN_LATE_CNT, R.FIX_STATUS] { s with fixture := t.fixture } t)
  ∧ (∀ (s : State), s.mainOn = true →
    ∃ t, exec .sacnGuardExpiry s = .next t ∧ t.fixture.queue = s.fixture.queue.filter (fun q => !t.sacnLate q.2)
      ∧ (∀ p, (t.macOf p).txq = (s.macOf p).txq.filter (fun f => !t.frameLate f))
      ∧ (∀ r, t.sacnLate r = match s.heel.eps.find? (fun y => y.epoch == r) with
          | some x => decide (x.t - s.sacnGuard * State.uNs ≤ t.lt)
          | none => s.heel.eps.any (fun y => later y.epoch r))
      ∧ State.Differs [R.FIX_SACN_LATE_CNT, R.FIX_STATUS] { s with fixture := t.fixture, mac := t.mac, time := t.time } t)
  ∧ (∀ (s : State) (x : HeelEp), s.mainOn = true → s.fixOut = true → s.syncUniv ≠ 0 → s.heel.eps = [x] → x.missed = false →
    s.fixture.syncSent = none → s.sendsEpoch x.epoch = true →
    ∃ t, exec .sacnSyncSend s = .next t ∧ t.fixture.syncSent = some x.epoch
      ∧ t.fixture.syncSeq = (s.fixture.syncSeq + 1) % 256 ∧ t.time.frc = max s.time.frc (s.frcAt (x.t + s.syncAdj * State.uNs))
      ∧ ∀ p, p ∈ s.sacnPorts → ∃ h, (t.macOf p).txq = (s.macOf p).txq ++ 
          [{ queue := 7, use := .sync (x.t + s.syncAdj * State.uNs),
             bytes := h ++ sacnSync s.fixCid s.fixture.syncSeq s.syncUniv (s.flag R.FIX_SYNC 16) }]
        ∧ State.Differs [] { s with fixture := t.fixture, mac := t.mac, time := t.time, freeCtr := t.freeCtr } t)
  ∧ (∀ (s : State) (u n : Nat) (rest : List (Nat × Nat)), s.mainOn = true → s.fixture.term = (u, n) :: rest → s.outputsOn = true →
    (s.outUni u).port ≤ 35 → s.bracePort (s.outUni u).port = false →
    ∃ t h, exec .streamTerminatedSend s = .next t ∧ t.fixture.term = rest ++ (if n ≤ 1 then [] else [(u, n - 1)])
      ∧ t.uniSeq u = (s.uniSeq u + 1) % 256 ∧ t.time.frc = max s.time.frc (Sparse.get 0 s.fixture.termAt u)
      ∧ (1 < n → Sparse.get 0 t.fixture.termAt u = t.time.frc + 1250000)
      ∧ (t.macOf (s.outUni u).port).txq = (s.macOf (s.outUni u).port).txq ++ 
          [{ queue := 2, use := .sacn none,
             bytes := h ++ sacnData s.fixCid (s.words4 R.FIX_NAMEw 16) (s.outUni u).prio s.syncUniv (s.uniSeq u)
                (128 * b2n (s.outUni u).preview + 64) (s.outUni u).uni (s.readImage (s.imageAddr u s.time.epoch)) }])

/-- R304–R307: sACN input. A data packet of a new source joins its universe's sources; held data enters the merge when its
synchronisation packet arrives or its hold ends; a silent source leaves. -/
def sacnInputs : Prop :=
  (∀ (s : State) (p i : Nat) (l : Bytes) (x : SacnIn), s.mainOn = true → s.sacnPort p = true → s.rxReady p = true → sacnDiscovery l = false → sacnRead l = some x →
    s.sacnIndices x = [i] → x.terminated = false → s.sourcesOf i = [] → ((s.inUni i).2.1 = false ∨ x.sync = 0) →
    ∃ t, exec (.sacnInputRx p l) s = .next t
      ∧ t.sourcesOf i = [{ cid := x.cid, prio := x.prio, seq := x.seq, data := x.values, held := none, order := s.fixture.arrivals }]
      ∧ t.reg R.FIX_IN_RX_CNT = s.reg R.FIX_IN_RX_CNT + 1 ∧ State.Differs [R.FIX_IN_RX_CNT] { s with fixture := t.fixture } t)
  ∧ (∀ (s : State) (p a : Nat) (l : Bytes), s.mainOn = true → s.sacnPort p = true → s.rxReady p = true → sacnSyncRead l = some a →
    ∃ t, exec (.sacnInputSyncRx p l) s = .next t
      ∧ (∀ i y d, y ∈ s.sourcesOf i → y.held = some (a, d) → { y with data := d, held := none } ∈ t.sourcesOf i)
      ∧ State.Differs [] { s with fixture := t.fixture } t)
  ∧ (∀ (s : State) (i cid : Nat) (y : SacnSource), s.mainOn = true → y ∈ s.sourcesOf i → y.cid = cid →
    ∃ t, exec (.sacnSourceLoss i cid) s = .next t ∧ t.sourcesOf i = (s.sourcesOf i).filter (fun z => z.cid != cid)
      ∧ t.flag R.FIX_STATUS 4 = true ∧ State.Differs [R.FIX_STATUS] { s with fixture := t.fixture } t)
  ∧ (∀ (s : State) (i cid : Nat), s.mainOn = true →
    ∃ t, exec (.sacnSyncHoldExpiry i cid) s = .next t
      ∧ (∀ y a d, y ∈ s.sourcesOf i → y.cid = cid → y.held = some (a, d) → { y with data := d, held := none } ∈ t.sourcesOf i)
      ∧ State.Differs [] { s with fixture := t.fixture } t)

/-- R293, R299: an endpoint that has been silent for too long is marked and counted, and no byte but its health changes; an override is
queued for the next boundary. -/
def endpointsAndOverrides : Prop :=
  (∀ (s : State) (i : Nat), s.mainOn = true → i < 262144 → s.rdLE (s.eptBase + 32 * i) 1 = 1 → s.rdLE (s.eptBase + 32 * i + 0x14) 1 % 4 = 1 →
    atLeast1 (s.reg R.FIX_EPT_SILENT).toNat < (s.time.epoch - w32 (s.rdLE (s.eptBase + 32 * i + 0x10) 4)).toNat →
    s.eptBase + 32 * i + 0x14 < State.dramSize →
    ∃ t, exec (.eptAge i) s = .next t
      ∧ t.rdLE (s.eptBase + 32 * i + 0x14) 1 = s.rdLE (s.eptBase + 32 * i + 0x14) 1 / 4 * 4 + 2
      ∧ (∀ a, a ≠ s.eptBase + 32 * i + 0x14 → t.rd8 a = s.rd8 a)
      ∧ t.reg R.FIX_EPT_SILENT_CNT = s.reg R.FIX_EPT_SILENT_CNT + 1 ∧ t.flag R.FIX_STATUS 9 = true
      ∧ State.Differs [R.FIX_EPT_SILENT_CNT, R.FIX_STATUS] { s with dram := t.dram } t)
  ∧ (∀ (s : State) (v : Word), s.mainOn = true → s.fixture.overs.length < 4096 →
    ∃ t, exec (.fixOvrDataWrite v) s = .next t
      ∧ t.fixture.overs = s.fixture.overs ++ [(s.field R.FIX_OVR_ADDR 23 9, s.field R.FIX_OVR_ADDR 8 0, bit v 8, fld v 7 0)]
      ∧ State.Differs [] { s with fixture := t.fixture } t)
  ∧ (∀ (s : State) (v : Word), s.mainOn = true → 4096 ≤ s.fixture.overs.length →
    ∃ t, exec (.fixOvrDataWrite v) s = .next t ∧ t.fixture = s.fixture ∧ t.reg R.FIX_OVR_DROP_CNT = s.reg R.FIX_OVR_DROP_CNT + 1
      ∧ t.flag R.FIX_STATUS 8 = true ∧ State.Differs [R.FIX_OVR_DROP_CNT, R.FIX_STATUS] s t)

/-- R293, R299, R304–R307: sACN sources, endpoints that fall silent, and overrides. -/
def Obligations.FixtureInput : Prop := sacnInputs ∧ endpointsAndOverrides

/-- R309, R331, R334: what leaves port p when it sends bytes behind a break: nothing while its driver is off. -/
def dmxOut (s : State) (p brk : Nat) (l : Bytes) : List Sent :=
  if ((s.driveFrom p).setUart p { s.uartOf p with driver := (s.uartOf p).driver || s.field (R.UARTn_CTRL p) 7 6 == 0 }).uartDriving p
  then [.dmx p brk (s.dmxMab p) l] else []

/-- R318, R326, R327, R324: the registers of port p that count what it hears of its own packets. -/
def heardRegs (p : Nat) : List Nat :=
  [R.UARTn_BRK_CNT p, R.UARTn_RX_CNT p, R.UARTn_OVR_CNT p, R.UARTn_FE_CNT p, R.UARTn_PE_CNT p, R.UARTn_NOISE_CNT p, R.UARTn_BRK_LEN p, R.UARTn_STATUS p]

/-- R303, R308–R312: DMX512-A and RDM. A free port sends its image at T, and counts it whether or not its driver is on; a received packet feeds
its input universe, and a silent one leaves it; an RDM request leaves with its checksum, and a second one without a packet between
them waits; with the outputs off a request ends at once with a status; a valid response and a timeout complete it. -/
def Obligations.DmxAndRdm : Prop :=
  (∀ (s : State) (p : Nat) (x : HeelEp), s.mainOn = true → s.dmxOn p = true → s.fixOut = true →
    s.flag (R.FIX_DMXp_CFG p) 30 = false → s.rdmOf p = .none → s.heel.eps = [x] → x.missed = false → s.lt ≤ x.t →
    s.dmxFreeAt p + State.usTicks (s.field (R.FIX_DMXp_TIM p) 11 0) ≤ s.frcAt x.t →
    ∃ t, exec (.dmxPacketStart p) s = .next t ∧ t.out = dmxOut s p (s.dmxBreak p) (s.dmxImage p x.epoch)
      ∧ t.reg (R.FIX_DMXp_PKT_CNT p) = s.reg (R.FIX_DMXp_PKT_CNT p) + 1 ∧ t.time.frc = max s.time.frc (s.frcAt x.t)
      ∧ t.dmxFreeAt p = t.time.frc + State.usTicks (s.dmxBreak p + s.dmxMab p + 44 * (s.dmxImage p x.epoch).length)
      ∧ ((s.uartOf p).packets = [] ∨ s.uartOwn p = false →
          State.Differs [R.FIX_DMXp_PKT_CNT p, R.UARTn_TX_CNT p] { s with time := t.time, fixture := t.fixture, uart := t.uart } t)
      ∧ (s.unitFor p 2 = none → s.uartOwner p = 2 →
          State.Differs ([R.FIX_DMXp_PKT_CNT p, R.UARTn_TX_CNT p] ++ heardRegs p) { s with time := t.time, fixture := t.fixture, uart := t.uart } t))
  ∧ (∀ (s : State) (p brk mab : Nat) (l : Bytes), s.mainOn = true → s.dmxOn p = true → s.flag (R.FIX_DMXp_CFG p) 30 = true →
    88000 ≤ brk → 8000 ≤ mab → l ≠ [] → l.length ≤ 513 → l.getD 0 0 = 0 → (s.inUni (s.field (R.FIX_DMXp_CFG p) 11 0)).1 = true →
    s.sourcesOf (s.field (R.FIX_DMXp_CFG p) 11 0) = [] →
    ∃ t, exec (.dmxPacketRx p brk mab false l) s = .next t ∧ t.reg (R.FIX_DMXp_PKT_CNT p) = s.reg (R.FIX_DMXp_PKT_CNT p) + 1
      ∧ t.sourcesOf (s.field (R.FIX_DMXp_CFG p) 11 0)
          = [{ cid := 2 ^ 128 + p, prio := 100, seq := 0, data := l, held := none, order := s.fixture.arrivals }]
      ∧ State.Differs [R.FIX_DMXp_PKT_CNT p] { s with fixture := t.fixture } t)
  ∧ (∀ (s : State) (p : Nat) (y : SacnSource), s.mainOn = true → y ∈ s.sourcesOf (s.field (R.FIX_DMXp_CFG p) 11 0) → y.cid = 2 ^ 128 + p →
    ∃ t, exec (.dmxSourceLoss p) s = .next t ∧ t.flag R.FIX_STATUS 4 = true
      ∧ t.sourcesOf (s.field (R.FIX_DMXp_CFG p) 11 0) = (s.sourcesOf (s.field (R.FIX_DMXp_CFG p) 11 0)).filter (fun z => z.cid != 2 ^ 128 + p)
      ∧ State.Differs [R.FIX_STATUS] { s with fixture := t.fixture } t)
  ∧ (∀ (s : State) (p len : Nat) (m : Bytes), s.mainOn = true → s.dmxOn p = true → p < 32 → s.flag R.FIX_RDM_GO_LO p = false →
    s.flag (R.FIX_DMXp_CFG p) 30 = false → s.flag (R.FIX_DMXp_CFG p) 29 = true → p ∉ s.fixture.rdmRan →
    s.rdLE (s.rdmArea p + 2) 2 = len → 24 ≤ len → len ≤ 255 → s.rdBytes (s.rdmArea p + 0x40) len = m → s.rdLE (s.rdmArea p + 0x40) 1 = 0xCC →
    s.rdLE (s.rdmArea p + 0x42) 1 = len → s.outputsOn = true →
    ∃ t, exec (.rdmGo p) s = .next t ∧ t.out = dmxOut s p (max 176 (s.dmxBreak p)) (m ++ beBytes 2 (rdmSum m))
      ∧ t.flag R.FIX_RDM_GO_LO p = true ∧ t.rdmOf p ≠ .none ∧ t.rdmOf p ≠ .queued ∧ p ∈ t.fixture.rdmRan
      ∧ ((s.uartOf p).packets = [] ∨ s.uartOwn p = false →
          State.Differs [R.FIX_RDM_GO_LO, R.UARTn_TX_CNT p] { s with dram := t.dram, fixture := t.fixture, uart := t.uart } t)
      ∧ (s.unitFor p 2 = none → s.uartOwner p = 2 →
          State.Differs ([R.FIX_RDM_GO_LO, R.UARTn_TX_CNT p] ++ heardRegs p) { s with dram := t.dram, fixture := t.fixture, uart := t.uart } t))
  ∧ (∀ (s : State) (p : Nat), s.mainOn = true → p < 32 → s.flag R.FIX_RDM_GO_LO p = false → s.outputsOn = false →
    s.rdmArea p + 1024 ≤ State.dramSize →
    ∃ t, exec (.rdmGo p) s = .next t ∧ t.out = [] ∧ t.rdmOf p = .none ∧ t.flag R.FIX_RDM_GO_LO p = false ∧ t.flag R.FIX_RDM_DONE_LO p = true
      ∧ t.rdLE (s.rdmArea p) 1 ≠ 0 ∧ t.rdLE (s.rdmArea p + 4) 2 = 0
      ∧ State.Differs [R.FIX_RDM_GO_LO, R.FIX_RDM_DONE_LO, R.FIX_STATUS] { s with dram := t.dram, fixture := t.fixture } t)
  ∧ (∀ (s : State) (p len : Nat), s.mainOn = true → s.dmxOn p = true → p < 32 → s.flag R.FIX_RDM_GO_LO p = false →
    s.flag (R.FIX_DMXp_CFG p) 30 = false → s.flag (R.FIX_DMXp_CFG p) 29 = true → p ∈ s.fixture.rdmRan →
    s.rdLE (s.rdmArea p + 2) 2 = len → 24 ≤ len → len ≤ 255 → s.rdLE (s.rdmArea p + 0x40) 1 = 0xCC → s.rdLE (s.rdmArea p + 0x42) 1 = len →
    s.outputsOn = true →
    ∃ t, exec (.rdmGo p) s = .next t ∧ t.out = [] ∧ t.rdmOf p = .queued ∧ t.flag R.FIX_RDM_GO_LO p = true
      ∧ State.Differs [R.FIX_RDM_GO_LO] { s with fixture := t.fixture } t)
  ∧ (∀ (s : State) (p ago : Nat) (l : Bytes), s.mainOn = true → s.outputsOn = true → p < 32 → s.rdmOf p = .response false → rdmOk l = true → l.length ≤ 257 →
    s.rdLE (s.rdmArea p + 8) 4 < 32768 → s.rdmArea p + 1024 ≤ State.dramSize →
    ∃ t, exec (.rdmResponseRx p ago false l) s = .next t ∧ t.rdmOf p = .none ∧ t.flag R.FIX_RDM_GO_LO p = false
      ∧ t.flag R.FIX_RDM_DONE_LO p = true ∧ t.flag R.FIX_STATUS 7 = true ∧ t.rdLE (s.rdmArea p) 1 = 0
      ∧ t.rdLE (s.rdmArea p + 4) 2 = l.length ∧ t.rdBytes (s.rdmArea p + 0x200) l.length = l
      ∧ (∀ a, a < s.rdmArea p ∨ s.rdmArea p + 1024 ≤ a → t.rd8 a = s.rd8 a))
  ∧ (∀ (s : State) (p : Nat) (d : Bool), s.mainOn = true → s.outputsOn = true → p < 32 → s.rdmOf p = .response d →
    s.rdmArea p + 1024 ≤ State.dramSize →
    ∃ t, exec (.rdmTimeout p) s = .next t ∧ t.rdmOf p = .none ∧ t.flag R.FIX_RDM_GO_LO p = false ∧ t.flag R.FIX_RDM_DONE_LO p = true
      ∧ t.rdLE (s.rdmArea p) 1 = 7 ∧ t.rdLE (s.rdmArea p + 4) 2 = 0
      ∧ t.time.frc = max s.time.frc (s.dmxFreeAt p + State.usTicks 2800)
      ∧ State.Differs [R.FIX_RDM_GO_LO, R.FIX_RDM_DONE_LO, R.FIX_STATUS] { s with dram := t.dram, fixture := t.fixture, time := t.time } t)

/-- A serial port whose entries go to its raw owner, with no check unit on its receive side and room in its receive FIFO. -/
abbrev plainPort (s : State) (p : Nat) : Prop :=
  p < 64 ∧ s.uartOwner p = 0 ∧ s.unitFor p 2 = none ∧ (s.uartOf p).rx.length < 256

/-- t is s but for serial port p, whose state is u, and the live registers of l. -/
def portOnly (s : State) (p : Nat) (u : Uart) (l : List Nat) (t : State) : Prop :=
  t.uartOf p = u ∧ (∀ q, q ≠ p → t.uartOf q = s.uartOf q ∧ (q ∈ t.uart.waiting ↔ q ∈ s.uart.waiting)) ∧ State.Differs l { s with uart := t.uart } t

/-- R320: the parity bit of a character is wrong under a format. -/
def wrongParity (f : Word) (data : Nat) (parity : Bool) : Bool := State.fmtParity f data == some (!parity)

/-- R319, R320: the FRC ticks of a number of character times at the port's format and rate, rounded up; a bit period is DIV / 32. -/
def charTicks (s : State) (p n : Nat) : Nat := State.quarterTicks (s.uartDiv p) (4 * n * State.charBits (s.reg (R.UARTn_FMT p)))

/-- The machine whose clock stands at a later cycle. -/
def clockAt (s : State) (f : Nat) : State := { s with time := { s.time with frc := max s.time.frc f } }

/-- R321–R329: the receiver. The majority of three filtered samples decides each bit; a mark there at the start bit is a false start. A
character enters the receive FIFO with its error bits and the time of its start edge, and counts; a held character becomes a break one
character time behind its start edge, or an entry with a framing error where the line rises before; a break ends with its length; a line
low for BRK_MAX behind its falling edge is stuck, stops the receiver and is armed again; a false start counts; RX_TMO character times
behind the last push and read make RX_REQ. -/
def Obligations.UartReceive : Prop :=
  (∀ (s : State) (p ago : Nat) (bits : List Samples) (parity stop first : Samples), s.mainOn = true → plainPort s p → s.uartHears p = true → (s.uartOf p).stuck = false →
    (s.uartOf p).inBreak = false → (s.uartOf p).held = none →
    let f := s.formatAt p (s.time.frc - ago)
    (s.uartOf p).enAt ≤ s.time.frc - ago → State.lineBit f first = false → State.lineBit f stop = true →
    let data := State.lineData f bits; let pe := wrongParity f data (State.lineBit f parity); let noise := State.charNoisy f bits parity stop first
    ∃ t, exec (.uartCharRx p bits parity stop first ago) s = .next t
      ∧ portOnly s p { s.uartOf p with
          rx := (s.uartOf p).rx ++ [(data + 1024 * b2n pe
            + 4096 * b2n (s.uartOf p).ovrNext + 8192 * b2n noise, s.ltThen (s.time.frc - ago))],
          ovrNext := false, timedOut := false, quiet := s.time.frc, line := true,
          summary := (s.uartOf p).summary ||| (2 * b2n pe + 16 * b2n noise),
          armed := (s.uartOf p).armed &&& (31 - (2 * b2n pe + 16 * b2n noise)) }
          [R.UARTn_RX_CNT p, R.UARTn_PE_CNT p, R.UARTn_NOISE_CNT p] t
      ∧ t.reg (R.UARTn_RX_CNT p) = s.reg (R.UARTn_RX_CNT p) + 1
      ∧ t.reg (R.UARTn_PE_CNT p) = s.reg (R.UARTn_PE_CNT p) + w32 (b2n pe)
      ∧ t.reg (R.UARTn_NOISE_CNT p) = s.reg (R.UARTn_NOISE_CNT p) + w32 (b2n noise))
  ∧ (∀ (s : State) (p ago : Nat) (bits : List Samples) (parity stop first : Samples), s.mainOn = true → p < 64 → s.uartHears p = true → (s.uartOf p).stuck = false →
    (s.uartOf p).inBreak = false → (s.uartOf p).held = none →
    let f := s.formatAt p (s.time.frc - ago)
    (s.uartOf p).enAt ≤ s.time.frc - ago → State.lineBit f first = false → State.lineBit f stop = false → State.lineData f bits = 0 →
    (State.fmtParity f 0 = none ∨ State.lineBit f parity = false) →
    let pe := wrongParity f 0 (State.lineBit f parity); let noise := State.charNoisy f bits parity stop first
    ∃ t, exec (.uartCharRx p bits parity stop first ago) s = .next t
      ∧ portOnly s p { s.uartOf p with held := some (8192 * b2n noise + 1024 * b2n pe, s.time.frc - ago), line := false } [] t)
  ∧ (∀ (s : State) (p : Nat) (noise pe : Bool) (start : Nat), s.mainOn = true → plainPort s p → R.UARTn_RXTRIM p ∉ s.calib.scDue →
    (s.uartOf p).held = some (8192 * b2n noise + 1024 * b2n pe, start) →
    ∃ t, exec (.uartBreakDetect p) s = .next t ∧ (t.uartOf p).inBreak = true ∧ (t.uartOf p).held = none
      ∧ t.time.frc = max s.time.frc (start + charTicks s p 1)
      ∧ (t.uartOf p).rx = (s.uartOf p).rx ++ [(2560 + 4096 * b2n (s.uartOf p).ovrNext + 8192 * b2n noise, s.ltThen start)]
      ∧ (t.uartOf p).summary = (s.uartOf p).summary ||| (5 + 16 * b2n noise)
      ∧ t.reg (R.UARTn_BRK_CNT p) = s.reg (R.UARTn_BRK_CNT p) + 1 ∧ t.reg (R.UARTn_FE_CNT p) = s.reg (R.UARTn_FE_CNT p) + 1
      ∧ State.Differs [R.UARTn_BRK_CNT p, R.UARTn_FE_CNT p, R.UARTn_RX_CNT p, R.UARTn_NOISE_CNT p]
          { clockAt s t.time.frc with uart := t.uart } t)
  ∧ (∀ (s : State) (p : Nat) (noise pe : Bool) (start : Nat), s.mainOn = true → plainPort s p → R.UARTn_RXTRIM p ∉ s.calib.scDue →
    (s.uartOf p).held = some (8192 * b2n noise + 1024 * b2n pe, start) → s.time.frc < start + charTicks s p 1 →
    ∃ t, exec (.lineRiseHeldCharacter p) s = .next t ∧ (t.uartOf p).held = none ∧ (t.uartOf p).line = true
      ∧ (t.uartOf p).rx = (s.uartOf p).rx
          ++ [(512 + 1024 * b2n pe + 4096 * b2n (s.uartOf p).ovrNext + 8192 * b2n noise, s.ltThen start)]
      ∧ t.reg (R.UARTn_FE_CNT p) = s.reg (R.UARTn_FE_CNT p) + 1
      ∧ State.Differs [R.UARTn_FE_CNT p, R.UARTn_RX_CNT p, R.UARTn_PE_CNT p, R.UARTn_NOISE_CNT p] { s with uart := t.uart } t)
  ∧ (∀ (s : State) (p cycles : Nat), s.mainOn = true → p < 64 → (s.uartOf p).inBreak = true → (s.uartOf p).stuck = false →
    ∃ t, exec (.uartBreakEnd p cycles) s = .next t ∧ portOnly s p { s.uartOf p with inBreak := false, line := true } [R.UARTn_BRK_LEN p] t
      ∧ t.reg (R.UARTn_BRK_LEN p) = w32 (min 0xFFFFFFFF cycles))
  ∧ (∀ (s : State) (p : Nat), s.mainOn = true → p < 64 → s.uartHears p = true → (s.uartOf p).stuck = false →
    (s.uartOf p).held = none → s.field (R.UARTn_BRK_MAX p) 23 0 ≠ 0 →
    let low := if (s.uartOf p).inBreak
      then (s.uartOf p).breakFrom + max (1250 * s.field (R.UARTn_BRK_MAX p) 23 0) (charTicks s p 1) else 0
    ∃ t, exec (.uartLineStuck p) s = .next t
      ∧ portOnly (clockAt s low) p { s.uartOf p with stuck := true, line := false } [R.UARTn_BRK_LEN p, R.UARTn_STATUS p] t
      ∧ t.reg (R.UARTn_BRK_LEN p) = 0xFFFFFFFF ∧ t.flag (R.UARTn_STATUS p) 0 = true)
  ∧ (∀ (s : State) (p : Nat), s.mainOn = true → (s.uartOf p).stuck = true →
    ∃ t, exec (.uartStuckRearm p) s = .next t ∧ portOnly s p { s.uartOf p with stuck := false, inBreak := false, line := true } [] t)
  ∧ (∀ (s : State) (p : Nat), s.mainOn = true → p < 64 → s.uartEn p = true → s.uartOwner p = 0 → s.field (R.UARTn_FIFO_CTRL p) 23 16 ≠ 0 →
    (s.uartOf p).rx ≠ [] →
    ∃ t, exec (.uartRxTimeout p) s = .next t ∧ t.uartRxReq p = true
      ∧ portOnly (clockAt s ((s.uartOf p).quiet + charTicks s p (s.field (R.UARTn_FIFO_CTRL p) 23 16))) p
          { s.uartOf p with timedOut := true } [] t)
  ∧ (∀ (s : State) (p : Nat), s.mainOn = true → p < 64 → s.uartHears p = true → (s.uartOf p).stuck = false →
    ∃ t, exec (.uartFalseStart p) s = .next t ∧ t.reg (R.UARTn_FSTART_CNT p) = s.reg (R.UARTn_FSTART_CNT p) + 1
      ∧ State.Differs [R.UARTn_FSTART_CNT p] s t)
  ∧ (∀ (s : State) (p ago : Nat) (bits : List Samples) (parity stop first : Samples), s.mainOn = true → p < 64 → s.uartHears p = true →
    (s.uartOf p).stuck = false → (s.uartOf p).enAt ≤ s.time.frc - ago → State.lineBit (s.formatAt p (s.time.frc - ago)) first = true →
    ∃ t, exec (.uartCharRx p bits parity stop first ago) s = .next t ∧ t.reg (R.UARTn_FSTART_CNT p) = s.reg (R.UARTn_FSTART_CNT p) + 1
      ∧ State.Differs [R.UARTn_FSTART_CNT p] s t)
  ∧ (∀ (s : State) (p : Nat) (noise pe : Bool) (start : Nat), s.mainOn = true → plainPort s p → (s.uartOf p).stuck = false →
    (s.uartOf p).held = some (8192 * b2n noise + 1024 * b2n pe, start) → start + charTicks s p 1 ≤ s.time.frc →
    ∃ t, exec (.lineRiseHeldCharacter p) s = .next t ∧ (t.uartOf p).held = none ∧ (t.uartOf p).inBreak = false ∧ (t.uartOf p).line = true
      ∧ (t.uartOf p).rx = (s.uartOf p).rx ++ [(2560 + 4096 * b2n (s.uartOf p).ovrNext + 8192 * b2n noise, s.ltThen start)]
      ∧ t.reg (R.UARTn_BRK_CNT p) = s.reg (R.UARTn_BRK_CNT p) + 1 ∧ t.reg (R.UARTn_BRK_LEN p) = w32 (min 0xFFFFFFFF ((s.time.frc - start) / 8)))
  ∧ (∀ (s : State) (p start : Nat) (v : Word), s.mainOn = true → plainPort s p → (s.uartOf p).held = some (0, start) →
    R.UARTn_RXTRIM p ∈ s.calib.scDue → s.calib.scPend.lookup (R.UARTn_RXTRIM p) = some v →
    ∃ t, exec (.uartBreakDetect p) s = .next t ∧ t.field (R.UARTn_RXTRIM p) 5 0 = fld v 5 0 ∧ R.UARTn_RXTRIM p ∉ t.calib.scDue)
  ∧ (∀ (s : State) (p ago : Nat) (bits : List Samples) (parity stop first : Samples), s.mainOn = true → s.time.frc - ago < (s.uartOf p).enAt →
    ∃ t, exec (.uartCharRx p bits parity stop first ago) s = .next t ∧ portOnly s p (s.uartOf p) [] t)
  ∧ (∀ (s : State) (p : Nat) (noise pe : Bool) (start : Nat), s.mainOn = true → plainPort s p → s.uartHears p = true →
    (s.uartOf p).stuck = false → (s.uartOf p).held = some (8192 * b2n noise + 1024 * b2n pe, start) →
    s.field (R.UARTn_BRK_MAX p) 23 0 ≠ 0 →
    ∃ t, exec (.uartLineStuck p) s = .next t ∧ (t.uartOf p).stuck = true ∧ (t.uartOf p).held = none
      ∧ (t.uartOf p).rx = (s.uartOf p).rx ++ [(2560 + 4096 * b2n (s.uartOf p).ovrNext + 8192 * b2n noise, s.ltThen start)]
      ∧ t.reg (R.UARTn_BRK_CNT p) = s.reg (R.UARTn_BRK_CNT p) + 1 ∧ t.reg (R.UARTn_BRK_LEN p) = 0xFFFFFFFF)

/-- R331: the cycle in which the next entry starts: DE_LEAD quarter-bits from now where automatic mode has the driver still off; with the
driver on, in the tail at the first bit boundary behind the entry before it; never before that entry has ended. -/
def entryStart (s : State) (p : Nat) : Nat :=
  let u := s.uartOf p
  if s.field (R.UARTn_CTRL p) 7 6 = 0 ∧ u.driver = false then
    max (s.time.frc + State.quarterTicks (s.uartDiv p) (s.field (R.UARTn_DE p) 15 0)) u.sentEnds
  else if s.field (R.UARTn_CTRL p) 7 6 = 0 then
    u.sentEnds + State.quarterTicks u.sentDiv (4 * ((32 * (s.time.frc - u.sentEnds) + u.sentDiv - 1) / u.sentDiv))
  else u.sentEnds

/-- R319, R330: how long an entry takes on the line. -/
def entryTicks (s : State) (p e : Nat) : Nat :=
  if e / 2048 % 2 = 1 then
    (5 * (max (s.charTimeNs p) (1000 * s.field (R.UARTn_TXBRK p) 15 0) + 1000 * s.field (R.UARTn_TXBRK p) 31 16) + 3) / 4
  else charTicks s p 1

/-- R318, R327–R333: the host's side of a serial port and the transmitter. DATA reads the oldest entry, or VALID = 0 at an empty FIFO, and
clears the summary bits LSR showed; LSR arms them; DATA writes queue an entry; the flushes empty a FIFO; an entry starts on the
line with the driver on, or shifts without it, at its time, and the line's end leaves the port idle after the tail. A full receive FIFO loses the character. -/
def Obligations.UartHost : Prop :=
  (∀ (s : State) (p e : Nat) (start : Int) (rest : List (Nat × Int)), s.mainOn = true → p < 64 → s.uartOwner p = 0 → s.uartInert p = false →
    (s.uartOf p).rx = (e, start) :: rest →
    ∃ t, exec (.uartDataRead p) s = .next t ∧ t.bus = w32 e
      ∧ portOnly { s with bus := t.bus } p { s.uartOf p with
          rx := rest, armed := 0, timedOut := false, quiet := s.time.frc, summary := (s.uartOf p).summary &&& (31 - (s.uartOf p).armed) } [] t)
  ∧ (∀ (s : State) (p : Nat), s.mainOn = true → p < 64 → (s.uartOf p).rx = [] →
    ∃ t, exec (.uartDataRead p) s = .next t ∧ t.bus = 0x10000
      ∧ portOnly { s with bus := t.bus } p { s.uartOf p with
          armed := 0, timedOut := false, quiet := s.time.frc, summary := (s.uartOf p).summary &&& (31 - (s.uartOf p).armed) } [] t)
  ∧ (∀ (s : State) (p : Nat), s.mainOn = true → p < 64 →
    ∃ t, exec (.uartLsrRead p) s = .next t ∧ t.bus = s.uartLsr p
      ∧ portOnly { s with bus := t.bus } p { s.uartOf p with armed := fld (s.uartLsr p) 4 0 } [] t)
  ∧ (∀ (s : State) (p : Nat) (v : Word), s.mainOn = true → p < 64 → s.posted.lookup (State.uartKey p) = none → s.uartOwner p = 0 →
    s.uartInert p = false → (s.uartOf p).tx.length < 256 → s.unitFor p 1 = none →
    ∃ t, exec (.uartDataWrite p v) s = .next t
      ∧ portOnly s p { s.uartOf p with armed := 0, tx := (s.uartOf p).tx ++ [2048 * b2n (bit v 11) + fld v 8 0], idleSeen := false } [] t)
  ∧ (∀ (s : State) (p : Nat), s.mainOn = true → p < 64 → s.posted.lookup (State.uartKey p) = none →
    ∃ t, exec (.flushRx p) s = .next t ∧ portOnly s p { s.uartOf p with armed := 0, rx := [] } [] t)
  ∧ (∀ (s : State) (p : Nat), s.mainOn = true → p < 64 → s.posted.lookup (State.uartKey p) = none → (s.uartOf p).shifter.isSome = true →
    ∃ t, exec (.flushTx p) s = .next t ∧ portOnly s p { s.uartOf p with armed := 0, tx := [] } [] t)
  ∧ (∀ (s : State) (p : Nat), s.mainOn = true → p < 64 → s.posted.lookup (State.uartKey p) = none → (s.uartOf p).shifter = none →
    (s.uartOf p).driver = false → (s.uartOf p).idleSeen = false →
    ∃ t, exec (.flushTx p) s = .next t ∧ t.flag (R.UARTn_STATUS p) 1 = true
      ∧ portOnly s p { s.uartOf p with armed := 0, tx := [], idleSeen := true } [R.UARTn_STATUS p] t)
  ∧ (∀ (s : State) (p : Nat), s.mainOn = true → p < 64 → (s.posted.lookup (State.uartKey p)).isSome = true →
    ∃ t, exec (.flushTx p) s = .next t ∧ t.flag (R.UARTn_STATUS p) 5 = true
      ∧ portOnly s p { s.uartOf p with armed := 0 } [R.UARTn_STATUS p] t)
  ∧ (∀ (s : State) (p e : Nat) (rest : List Nat), s.mainOn = true → p < 64 → s.uartEn p = true → (s.uartOf p).packets = [] → (s.uartOf p).tx = e :: rest →
    s.outputsOn = true → s.flag (R.UARTn_CTRL p) 4 = false → s.flag (R.UARTn_CTRL p) 5 = false → s.field (R.UARTn_CTRL p) 7 6 = 0 →
    ∃ t, exec (.uartTxEntryStart p) s = .next t ∧ t.out = [s.uartSent p e]
      ∧ portOnly (clockAt s (entryStart s p)) p { s.uartOf p with
          tx := rest, shifter := some e, sentAt := t.time.frc, sentEnds := t.time.frc + entryTicks s p e, sentDiv := s.uartDiv p
          sentBrk := s.brkTimes p, driver := true, idleSeen := false } [R.UARTn_TX_CNT p] t
      ∧ p ∉ t.uart.waiting
      ∧ t.reg (R.UARTn_TX_CNT p) = s.reg (R.UARTn_TX_CNT p) + 1)
  ∧ (∀ (s : State) (p e : Nat) (rest : List Nat), s.mainOn = true → p < 64 → s.uartEn p = true → (s.uartOf p).packets = [] → (s.uartOf p).tx = e :: rest →
    s.outputsOn = false ∨ s.flag (R.UARTn_CTRL p) 4 = true → (s.uartOf p).shifter = none →
    ∃ t, exec (.uartTxEntryStart p) s = .next t ∧ t.out = [] ∧ (t.uartOf p).tx = rest ∧ (t.uartOf p).shifter = some e
      ∧ t.reg (R.UARTn_TX_CNT p) = s.reg (R.UARTn_TX_CNT p) + 1 ∧ State.Differs [R.UARTn_TX_CNT p] { clockAt s (entryStart s p) with uart := t.uart } t)
  ∧ (∀ (s : State) (p : Nat), s.mainOn = true → p < 64 → (s.uartOf p).tx = [] → (s.uartOf p).packets = [] → (s.uartOf p).idleSeen = false →
    s.flag (R.UARTn_CTRL p) 4 = false → s.flag (R.UARTn_CTRL p) 5 = false →
    let u := s.uartOf p
    let tail := if s.field (R.UARTn_CTRL p) 7 6 = 0 then State.quarterTicks u.sentDiv (s.field (R.UARTn_DE p) 31 16) else 0
    ∃ t, exec (.uartTxDone p) s = .next t ∧ t.uartTxIdle p = true ∧ t.flag (R.UARTn_STATUS p) 1 = true
      ∧ portOnly (clockAt s (if u.shifter.isSome then u.sentEnds + tail else 0)) p { s.uartOf p with shifter := none, driver := false, idleSeen := true } [R.UARTn_STATUS p] t)
  ∧ (∀ (s : State) (p ago : Nat) (bits : List Samples) (parity stop first : Samples), s.mainOn = true → p < 64 → s.uartOwner p = 0 →
    s.unitFor p 2 = none → (s.uartOf p).rx.length = 256 → s.uartHears p = true → (s.uartOf p).stuck = false → (s.uartOf p).inBreak = false →
    (s.uartOf p).held = none → (s.uartOf p).enAt ≤ s.time.frc - ago → State.lineBit (s.formatAt p (s.time.frc - ago)) first = false →
    State.lineBit (s.formatAt p (s.time.frc - ago)) stop = true →
    ∃ t, exec (.uartCharRx p bits parity stop first ago) s = .next t ∧ (t.uartOf p).rx = (s.uartOf p).rx ∧ (t.uartOf p).ovrNext = true
      ∧ t.reg (R.UARTn_OVR_CNT p) = s.reg (R.UARTn_OVR_CNT p) + 1
      ∧ State.Differs [R.UARTn_OVR_CNT p] { s with uart := t.uart } t)

/-- R341, R345–R350, R354: Clodar's sentences. A complete, well-formed sentence with a right checksum that rule n, of those live at its LF, is the
first to match is counted and, without selection and rate limit, joins the transmit queue of the rule's destination port; one with a wrong
checksum, or malformed, is discarded and counted; one that no rule matches counts so; the first of the highest priority moves
into the port's transmit FIFO; the tables' copy ends with what its validation found. -/
def Obligations.HubSentences : Prop :=
  (∀ (s : State) (p q n : Nat) (x : Sentence) (r : Rule) (rest : List Sentence), s.mainOn = true → s.hub.ready = x :: rest → x.port = p →
    sentenceOk x.chars = true → sentenceSum x.chars = some true → x.chars.length ≤ 82 →
    (List.range x.rules.length).find? (fun i => match x.rules[i]? with
      | some y => y.matches (keyOf x.chars) p
      | none => false) = some n →
    x.rules[n]? = some r → r.sel = 0 → r.minIvl = 0 → r.action = 1 → q < 64 → r.dstPorts = 2 ^ q → s.notHub q = false →
    (s.txqOf q).length < 8 →
    ∃ t, exec (.sentenceComplete p) s = .next t ∧ t.txqOf q = s.txqOf q ++ [(r.prio, x.chars)]
      ∧ (∀ k, k ≠ q → t.txqOf k = s.txqOf k) ∧ t.hub.ready = rest ∧ t.hub.passed.lookup n = some x.time
      ∧ t.reg R.HUB_RX_CNT = s.reg R.HUB_RX_CNT + 1 ∧ State.Differs [R.HUB_RX_CNT] { s with hub := t.hub } t)
  ∧ (∀ (s : State) (p : Nat) (x : Sentence) (rest : List Sentence), s.mainOn = true → s.hub.ready = x :: rest → x.port = p →
    sentenceOk x.chars = true → sentenceSum x.chars = some false →
    ∃ t, exec (.sentenceComplete p) s = .next t ∧ t.hub = { s.hub with ready := rest }
      ∧ t.reg R.HUB_CKSUM_CNT = s.reg R.HUB_CKSUM_CNT + 1 ∧ t.flag R.HUB_STATUS 1 = true
      ∧ State.Differs [R.HUB_CKSUM_CNT, R.HUB_STATUS] { s with hub := t.hub } t)
  ∧ (∀ (s : State) (p : Nat) (x : Sentence) (rest : List Sentence), s.mainOn = true → s.hub.ready = x :: rest → x.port = p →
    sentenceOk x.chars = false →
    ∃ t, exec (.sentenceComplete p) s = .next t ∧ t.hub = { s.hub with ready := rest }
      ∧ t.reg R.HUB_MALFORMED_CNT = s.reg R.HUB_MALFORMED_CNT + 1 ∧ t.flag R.HUB_STATUS 0 = true
      ∧ State.Differs [R.HUB_MALFORMED_CNT, R.HUB_STATUS] { s with hub := t.hub } t)
  ∧ (∀ (s : State) (p : Nat) (x : Sentence) (rest : List Sentence), s.mainOn = true → s.hub.ready = x :: rest → x.port = p →
    sentenceOk x.chars = true → sentenceSum x.chars = some true → x.chars.length ≤ 82 → x.rules = [] → s.flag R.HUB_CTRL 4 = false →
    ∃ t, exec (.sentenceComplete p) s = .next t ∧ t.hub = { s.hub with ready := rest }
      ∧ t.reg R.HUB_RX_CNT = s.reg R.HUB_RX_CNT + 1 ∧ t.reg R.HUB_NOMATCH_CNT = s.reg R.HUB_NOMATCH_CNT + 1
      ∧ State.Differs [R.HUB_RX_CNT, R.HUB_NOMATCH_CNT] { s with hub := t.hub } t)
  ∧ (∀ (s : State) (p prio : Nat) (l : Bytes) (rest : List (Nat × Bytes)), s.mainOn = true → s.txqOf p = (prio, l) :: rest →
    (∀ y ∈ rest, y.1 ≤ prio) → s.notHub p = false → (s.uartOf p).tx.length + l.length ≤ 256 →
    ∃ t, exec (.hubTxqMove p) s = .next t ∧ t.txqOf p = rest ∧ (∀ k, k ≠ p → t.txqOf k = s.txqOf k)
      ∧ portOnly { s with hub := t.hub } p { s.uartOf p with tx := (s.uartOf p).tx ++ l.map (·.toNat), idleSeen := false } [] t)
  ∧ (∀ (s : State) (b : HubLoad), s.mainOn = true → s.hub.next = some b → b.ruleErr = none → b.mapErr = none →
    ∃ t, exec .ruleCopyDone s = .next t ∧ t.hub = { s.hub with next := some { b with copied := true } }
      ∧ State.Differs [] { s with hub := t.hub } t)
  ∧ (∀ (s : State) (b : HubLoad) (c i : Nat), s.mainOn = true → s.hub.next = some b → b.ruleErr = some (c, i) → b.mapErr = none →
    ∃ t, exec .ruleCopyDone s = .next t ∧ t.reg R.HUB_RULE_ERR = w32 (i * 65536 + c) ∧ t.flag R.HUB_STATUS 9 = true
      ∧ State.Differs [R.HUB_RULE_ERR, R.HUB_STATUS] { s with hub := t.hub } t)

/-- R355–R361: the Signal Map. A pass that reaches every entry counts and leaves nothing late; one that does not leaves the late mark for
the boundary, with SIGMAP_PASS_TIME at the lead. An entry whose source is neither invalid nor stale puts its clamped value
where it names: here a composer's field. -/
def Obligations.SignalMap : Prop :=
  (∀ (s : State) (k : Nat), s.mainOn = true → s.flag R.SIGMAP_CTRL 0 = true → s.hub.live.entries = [] →
    ∃ t, exec (.sigmapPass k) s = .next t ∧ t.hub = { s.hub with results := [], fields := [], late := false }
      ∧ t.reg R.SIGMAP_PASS_CNT = s.reg R.SIGMAP_PASS_CNT + 1 ∧ (t.reg R.SIGMAP_PASS_TIME).toNat ≤ 20000
      ∧ t.time.frc = max s.time.frc (s.frcAt (s.nextInstant - s.mapLead * State.uNs))
      ∧ State.Differs [R.SIGMAP_PASS_CNT, R.SIGMAP_PASS_TIME] { s with hub := t.hub, time := t.time, freeCtr := t.freeCtr } t)
  ∧ (∀ (s : State) (k : Nat) (m : MapEntry), s.mainOn = true → s.flag R.SIGMAP_CTRL 0 = true → s.hub.live.entries = [m] → 1 ≤ k →
    m.srcKind = 4 → m.dstKind = 4 → m.maxAge = 0 → m.lo ≤ m.hi → m.srcA < 8 → s.flag (R.INGn_A_CTRL m.srcA) 0 = true →
    ∃ t, exec (.sigmapPass k) s = .next t
      ∧ t.hub.fields = [(m.dstAddr / 256 % 64 * 16 + m.dstAddr % 16,
          clampInt m.lo m.hi (State.mapScale m ((s.field (R.INGn_A_ENV m.srcA) 15 0 * 65536 : Nat) : Int)))]
      ∧ t.hub.late = false ∧ t.reg R.SIGMAP_PASS_CNT = s.reg R.SIGMAP_PASS_CNT + 1)
  ∧ (∀ (s : State) (k : Nat), s.mainOn = true → s.flag R.SIGMAP_CTRL 0 = true → k < s.hub.live.entries.length →
    ∃ t, exec (.sigmapPass k) s = .next t ∧ t.hub.late = true ∧ t.reg R.SIGMAP_PASS_TIME = w32 s.mapLead
      ∧ t.reg R.SIGMAP_PASS_CNT = s.reg R.SIGMAP_PASS_CNT)

/-- R508, R510, R466: a feed or command to unit n is carried out: a host, and the partner, reach units 4 to 7 only. -/
abbrev checkReaches (i : Initiator) (n : Nat) : Prop := n < 8 ∧ (i = .host ∨ i = .partner → 4 ≤ n)

/-- R505, R506: the check value: RESULT after feeding the nine ASCII bytes "123456789" from INIT, for each fixed algorithm; and the
parameters of every algorithm. -/
def checkValues : Prop :=
  (∀ (s : State) (n a r : Nat), s.field (R.CHECKn_CTRL n) 2 0 = a →
    (a, r) ∈ [(0, 0xCBF43926), (1, 0xE3069283), (2, 0x29B1), (3, 0xF4), (4, 0x31), (5, 0x01DD), (7, 0xE3069283)] →
    (([0x31, 0x32, 0x33, 0x34, 0x35, 0x36, 0x37, 0x38, 0x39] : List Nat).foldl (fun u b => u.checkFeed n b) (s.checkInit n)).checkResult n = r)
  ∧ (∀ (s : State) (n a : Nat) (x : CheckAlg), s.field (R.CHECKn_CTRL n) 2 0 = a →
    (a, x) ∈ [(0, ⟨32, 0x04C11DB7, 0xFFFFFFFF, true, true, 0xFFFFFFFF⟩), (1, ⟨32, 0x1EDC6F41, 0xFFFFFFFF, true, true, 0xFFFFFFFF⟩),
      (2, ⟨16, 0x1021, 0xFFFF, false, false, 0⟩), (3, ⟨8, 0x07, 0, false, false, 0⟩), (4, ⟨8, 0, 0, false, false, 0⟩),
      (5, ⟨16, 0, 0, false, false, 0⟩), (7, ⟨32, 0x1EDC6F41, 0xFFFFFFFF, true, true, 0xFFFFFFFF⟩)] →
    s.checkAlg n = x)
  ∧ (∀ (s : State) (n w : Nat), s.field (R.CHECKn_CTRL n) 2 0 = 6 → s.field (R.CHECKn_CTRL n) 21 16 = w → 0 < w → w ≤ 32 →
    s.checkAlg n = ⟨w, (s.reg (R.CHECKn_POLY n)).toNat % 2 ^ w, (s.reg (R.CHECKn_INIT n)).toNat % 2 ^ w, s.flag (R.CHECKn_CTRL n) 8,
      s.flag (R.CHECKn_CTRL n) 9, (s.reg (R.CHECKn_XOROUT n)).toNat % 2 ^ w⟩)
  ∧ (∀ (s : State) (n b : Nat), b < 256 → s.field (R.CHECKn_CTRL n) 2 0 = 4 →
      (s.checkFeed n b).reg (R.CHECKn_VALUE n) = w32 ((s.reg (R.CHECKn_VALUE n)).toNat % 2 ^ 8 ^^^ b))
  ∧ (∀ (s : State) (n b : Nat), b < 256 → s.field (R.CHECKn_CTRL n) 2 0 = 5 →
      (s.checkFeed n b).reg (R.CHECKn_VALUE n) = w32 (((s.reg (R.CHECKn_VALUE n)).toNat + b) % 2 ^ 16))

/-- R511: the cycle in which the line has been mark for GAP character times after the last character. -/
def checkEnd (s : State) (n : Nat) (u : CheckUnit) : Nat := u.last + charTicks s u.port (1 + max 1 (s.field (R.CHECKn_GAP n) 7 0))

/-- R506, R508, R510, R511: check units. A feed of one byte advances VALUE by the unit's algorithm and counts it; two and four bytes are
one-byte feeds from the least significant; INIT loads the initial value; APPEND queues the K bytes of RESULT on the served port
(not on one joined to its neighbour, whose FIFOs stay empty) and loads INIT; a received frame ends in a match, and fails where the held bytes differ from RESULT; a feed to a unit that is
off, and any host write to units 0 to 3, only sets WDROP. -/
def checkUnitCommands : Prop :=
  (∀ (s : State) (i : Initiator) (n : Nat) (v : Word), s.mainOn = true → checkReaches i n → s.flag (R.CHECKn_CTRL n) 31 = true →
    (s.unitOf n).dir = 0 →
    ∃ t, exec (.checkFeed8 i n v) s = .next t
      ∧ t.reg (R.CHECKn_VALUE n) = w32 (let r := (s.reg (R.CHECKn_VALUE n)).toNat % 2 ^ (s.checkAlg n).w
          match s.checkAlgNo n with
          | 4 => r ^^^ (v.toNat % 256)
          | 5 => (r + v.toNat % 256) % 65536
          | _ => checkByte (s.checkAlg n) r (v.toNat % 256))
      ∧ t.reg (R.CHECKn_BYTES n) = s.reg (R.CHECKn_BYTES n) + 1
      ∧ State.Differs [R.CHECKn_VALUE n, R.CHECKn_BYTES n] s t)
  ∧ (∀ (s : State) (i : Initiator) (n : Nat) (v : Word), s.mainOn = true → checkReaches i n → s.flag (R.CHECKn_CTRL n) 31 = true →
    (s.unitOf n).dir = 0 →
    ∃ t, exec (.checkFeed16 i n v) s = .next t
      ∧ t.reg (R.CHECKn_VALUE n) = ((s.checkFeed n (v.toNat % 256)).checkFeed n (v.toNat / 256 % 256)).reg (R.CHECKn_VALUE n)
      ∧ t.reg (R.CHECKn_BYTES n) = s.reg (R.CHECKn_BYTES n) + 2
      ∧ State.Differs [R.CHECKn_VALUE n, R.CHECKn_BYTES n] s t)
  ∧ (∀ (s : State) (i : Initiator) (n : Nat) (v : Word), s.mainOn = true → checkReaches i n → s.flag (R.CHECKn_CTRL n) 31 = true →
    (s.unitOf n).dir = 0 →
    ∃ t, exec (.checkFeed32 i n v) s = .next t
      ∧ t.reg (R.CHECKn_VALUE n) = ((((s.checkFeed n (v.toNat % 256)).checkFeed n (v.toNat / 256 % 256)).checkFeed n
          (v.toNat / 65536 % 256)).checkFeed n (v.toNat / 16777216)).reg (R.CHECKn_VALUE n)
      ∧ t.reg (R.CHECKn_BYTES n) = s.reg (R.CHECKn_BYTES n) + 4
      ∧ State.Differs [R.CHECKn_VALUE n, R.CHECKn_BYTES n] s t)
  ∧ (∀ (s : State) (i : Initiator) (n : Nat), s.mainOn = true → checkReaches i n →
    ∃ t, exec (.checkInit i n) s = .next t ∧ t.reg (R.CHECKn_VALUE n) = w32 (s.checkAlg n).init ∧ t.reg (R.CHECKn_BYTES n) = 0
      ∧ State.Differs [R.CHECKn_VALUE n, R.CHECKn_BYTES n] s t)
  ∧ (∀ (s : State) (i : Initiator) (n p : Nat), s.mainOn = true → checkReaches i n → s.unitOf n = { s.unitOf n with dir := 1, port := p } →
    s.uartInert p = false → (s.uartOf p).tx.length + s.checkK n ≤ 256 →
    ∃ t, exec (.checkAppend i n) s = .next t ∧ t.reg (R.CHECKn_VALUE n) = w32 (s.checkAlg n).init ∧ t.reg (R.CHECKn_BYTES n) = 0
      ∧ portOnly s p { s.uartOf p with
          tx := (s.uartOf p).tx ++ (s.checkOrder n (s.checkResult n)).map (·.toNat), idleSeen := false } [R.CHECKn_VALUE n, R.CHECKn_BYTES n] t)
  ∧ (∀ (s : State) (i : Initiator) (n p : Nat), s.mainOn = true → checkReaches i n → s.unitOf n = { s.unitOf n with dir := 1, port := p } →
    s.uartInert p = true →
    ∃ t, exec (.checkAppend i n) s = .next t ∧ t.reg (R.CHECKn_VALUE n) = w32 (s.checkAlg n).init ∧ t.reg (R.CHECKn_BYTES n) = 0
      ∧ State.Differs [R.CHECKn_VALUE n, R.CHECKn_BYTES n] s t)
  ∧ (∀ (s : State) (i : Initiator) (n p : Nat), s.mainOn = true → checkReaches i n → s.unitOf n = { s.unitOf n with dir := 1, port := p } →
    s.uartInert p = false → 256 < (s.uartOf p).tx.length + s.checkK n →
    ∃ t, exec (.checkAppend i n) s = .next t ∧ t.flag (R.CHECKn_STATUS n) 2 = true ∧ State.Differs [R.CHECKn_STATUS n] s t)
  ∧ (∀ (s : State) (n : Nat) (u : CheckUnit), s.mainOn = true → n < 8 → s.unitOf n = u → u.dir = 2 → s.checkK n < u.chars → u.bad = false →
    u.held.map (fun x => BitVec.ofNat 8 x.1) = s.checkOrder n (s.checkResult n) →
    ∃ t, exec (.checkFrameEnd n) s = .next t ∧ t.reg (R.CHECKn_MATCH_CNT n) = s.reg (R.CHECKn_MATCH_CNT n) + 1
      ∧ t.flag (R.CHECKn_STATUS n) 0 = true ∧ t.unitOf n = { u with held := [], chars := 0 }
      ∧ t.reg (R.CHECKn_VALUE n) = w32 (s.checkAlg n).init
      ∧ t.time.frc = max s.time.frc (checkEnd s n u)
      ∧ State.Differs [R.CHECKn_MATCH_CNT n, R.CHECKn_STATUS n, R.CHECKn_VALUE n, R.CHECKn_BYTES n] { s with check := t.check, time := t.time } t)
  ∧ (∀ (s : State) (n : Nat) (u : CheckUnit), s.mainOn = true → n < 8 → s.unitOf n = u → u.dir = 2 → 0 < u.chars →
    (u.chars ≤ s.checkK n ∨ u.bad = true ∨ u.held.map (fun x => BitVec.ofNat 8 x.1) ≠ s.checkOrder n (s.checkResult n)) →
    ∃ t, exec (.checkFrameEnd n) s = .next t ∧ t.reg (R.CHECKn_FAIL_CNT n) = s.reg (R.CHECKn_FAIL_CNT n) + 1
      ∧ t.flag (R.CHECKn_STATUS n) 1 = true ∧ t.unitOf n = { u with held := [], chars := 0, bad := false }
      ∧ t.time.frc = max s.time.frc (checkEnd s n u)
      ∧ State.Differs [R.CHECKn_FAIL_CNT n, R.CHECKn_STATUS n, R.CHECKn_VALUE n, R.CHECKn_BYTES n] { s with check := t.check, time := t.time } t)
  ∧ (∀ (s : State) (i : Initiator) (n : Nat) (v : Word), s.mainOn = true → i = .host ∨ i = .partner → n < 4 →
    ∃ t, exec (.checkFeed8 i n v) s = .next t ∧ t.flag (R.CHECKn_STATUS n) 5 = true ∧ State.Differs [R.CHECKn_STATUS n] s t)
  ∧ (∀ (s : State) (i : Initiator) (n : Nat) (v : Word), s.mainOn = true → checkReaches i n → s.flag (R.CHECKn_CTRL n) 31 = false →
    ∃ t, exec (.checkFeed32 i n v) s = .next t ∧ t.flag (R.CHECKn_STATUS n) 5 = true ∧ State.Differs [R.CHECKn_STATUS n] s t)

/-- R505, R506, R508, R510, R511: the check values of the fixed algorithms, and the commands of the check units. -/
def Obligations.CheckUnits : Prop := checkValues ∧ checkUnitCommands

/-- t is s but for ring r, which is x, and the live registers of l. -/
def ringOnly (s : State) (r : Nat) (x : Ring) (l : List Nat) (t : State) : Prop :=
  t.ringOf r = x ∧ (∀ q, q ≠ r → t.ringOf q = s.ringOf q) ∧ State.Differs l { s with host := { s.host with ring := t.host.ring } } t

/-- The address of the completion that ring r writes next. -/
def cplAddr (s : State) (r : Nat) : Nat := s.cplBase r + 32 * ((s.ringOf r).cplTail % 2 ^ s.ringK r)

/-- Command c is the one that ring r holds, the ring takes completions, and the next one lies where the ring's owner may write. -/
abbrev onlyCmd (s : State) (r : Nat) (c : Cmd) : Prop :=
  r < 64 ∧ (s.ringOf r).cmds = [c] ∧ (s.ringOf r).err ≠ 3 ∧ (s.coreOwned r = true → cplAddr s r + 32 ≤ State.fwBase)

/-- Command c stands ready on ring r for a row of opcode op. -/
abbrev readyCmd (s : State) (r op : Nat) (c : Cmd) : Prop := onlyCmd s r c ∧ c.started = false ∧ c.desc.opcode = op

/-- t is s with command c of ring r completed: its completion lies at the ring's next place, CPL_TAIL has advanced, the command is gone,
DONE_CNT has counted, and nothing else has changed but the live registers of l. -/
def completedAs (s : State) (r : Nat) (c : Cmd) (status r0 r1 detail : Nat) (l : List Nat) (t : State) : Prop :=
  let irq := c.desc.irq || s.flag (R.HOST_RINGr_CTRL r) 1
  let u := s.ownWrite r (cplAddr s r) (s.cplBytes (s.ringK r) (s.ringOf r).cplTail irq c status r0 r1 detail)
  State.Differs (R.HOST_RINGr_DONE_CNT r :: l) { u with host := { u.host with ring := t.host.ring } } t
    ∧ t.reg (R.HOST_RINGr_DONE_CNT r) = s.reg (R.HOST_RINGr_DONE_CNT r) + 1
    ∧ { t.ringOf r with irqs := [] } = { s.ringOf r with cmds := [], cplTail := ((s.ringOf r).cplTail + 1) % 65536, irqs := [] }
    ∧ ((s.ringOf r).cplTail ∈ (t.ringOf r).irqs ↔ irq = true)
    ∧ (∀ q, q ≠ r → t.ringOf q = s.ringOf q)

/-- R5, R396: bytes written to a ring owner's memory read back, and no other byte changes: a PCIe host's memory is 2⁶⁴ bytes; a core's
is the DRAM below the firmware's region, but for the calibration banks that R199 protects, which take no byte (log entry 62). -/
def ownerMemory : Prop :=
  (∀ (s : State) (r a : Nat) (l : Bytes), l.length ≤ 2 ^ 64 →
    (s.coreOwned r = true → a + l.length ≤ State.fwBase ∧ ∀ k, k < l.length → s.protectedAt (a + k) = false) →
    (s.ownWrite r a l).ownRead r a l.length = l)
  ∧ (∀ (s : State) (r a b : Nat) (l : Bytes), s.coreOwned r = true → (b < a ∨ a + l.length ≤ b ∨ State.fwBase ≤ b) →
    (s.ownWrite r a l).rd8 b = s.rd8 b)
  ∧ (∀ (s : State) (r a b : Nat) (l : Bytes), s.coreOwned r = true → s.protectedAt b = true → (s.ownWrite r a l).rd8 b = s.rd8 b)
  ∧ (∀ (s : State) (r a b : Nat) (l : Bytes), s.coreOwned r = false → (∀ k, k < l.length → (a + k) % 2 ^ 64 ≠ b % 2 ^ 64) →
    (s.ownWrite r a l).hostRd8 b = s.hostRd8 b ∧ (s.ownWrite r a l).dram = s.dram)

/-- R5, R26, R396: a ring owner's memory, and the canonical form of both memories. -/
def Obligations.Memories : Prop := ownerMemory ∧ memoryStaysCanonical

/-- R397, R400, R403: a ring's doorbells and its EN. A tail within the ring is taken and one beyond it stops the ring with error 1; CPL_HEAD
likewise with error 2; on a ring that does not run both are ignored, with their flag; EN starts a disabled ring whose bases are aligned and
refuses one whose command base is not; clearing EN drains a ring that runs; a doorbell reads back the last value taken. -/
def Obligations.RingDoorbells : Prop :=
  (∀ (s : State) (r : Nat) (v : BitVec 16), s.mainOn = true → r < 64 → (s.ringOf r).state = .running →
    (v.toNat + 65536 - (s.ringOf r).fetch) % 65536 ≤ 2 ^ s.ringK r →
    ∃ t, exec (.cmdTailWrite r v) s = .next t ∧ ringOnly s r { s.ringOf r with cmdTail := v.toNat } [] t)
  ∧ (∀ (s : State) (r : Nat) (v : BitVec 16), s.mainOn = true → r < 64 → (s.ringOf r).state = .running →
    2 ^ s.ringK r < (v.toNat + 65536 - (s.ringOf r).fetch) % 65536 →
    ∃ t, exec (.cmdTailWrite r v) s = .next t ∧ ringOnly s r { s.ringOf r with state := .stopped, err := 1 } [R.HOST_STATUS] t
      ∧ t.flag R.HOST_STATUS 0 = true)
  ∧ (∀ (s : State) (r : Nat) (v : BitVec 16), s.mainOn = true → r < 64 → (s.ringOf r).state = .running →
    ((s.ringOf r).cplTail + 65536 - v.toNat) % 65536 ≤ 2 ^ s.ringK r →
    ∃ t, exec (.cplHeadWrite r v) s = .next t ∧ ringOnly s r { s.ringOf r with cplHead := v.toNat } [] t)
  ∧ (∀ (s : State) (r : Nat) (v : BitVec 16), s.mainOn = true → r < 64 → (s.ringOf r).state ≠ .running →
    ∃ t, exec (.cplHeadWrite r v) s = .next t ∧ t.flag R.HOST_STATUS 3 = true ∧ State.Differs [R.HOST_STATUS] s t)
  ∧ (∀ (s : State) (r : Nat), s.mainOn = true → r < 64 → (s.ringOf r).state = .disabled → s.cmdBase r % 64 = 0 → s.cplBase r % 32 = 0 →
    (s.coreOwned r = true → s.cmdBase r + 64 * 2 ^ s.ringK r ≤ State.fwBase ∧ s.cplBase r + 32 * 2 ^ s.ringK r ≤ State.fwBase) →
    ∃ t, exec (.ringEnable r) s = .next t ∧ ringOnly s r { state := .running } [R.HOST_RINGr_CTRL r] t
      ∧ t.flag (R.HOST_RINGr_CTRL r) 0 = true)
  ∧ (∀ (s : State) (r : Nat), s.mainOn = true → r < 64 → (s.ringOf r).state = .disabled → s.cmdBase r % 64 ≠ 0 →
    ∃ t, exec (.ringEnable r) s = .next t ∧ ringOnly s r { s.ringOf r with err := 4 } [] t)
  ∧ (∀ (s : State) (r : Nat), s.mainOn = true → r < 64 → (s.ringOf r).state = .running →
    (∀ c ∈ (s.ringOf r).cmds, c.started = false) →
    ∃ t, exec (.ringDisable r) s = .next t ∧ ringOnly s r { s.ringOf r with state := .draining } [R.HOST_RINGr_CTRL r] t
      ∧ t.flag (R.HOST_RINGr_CTRL r) 0 = false)
  ∧ (∀ (s : State) (r : Nat) (v : BitVec 16), s.mainOn = true → r < 64 → (s.ringOf r).state ≠ .running →
    ∃ t, exec (.cmdTailWrite r v) s = .next t ∧ t.flag R.HOST_STATUS 3 = true ∧ State.Differs [R.HOST_STATUS] s t)
  ∧ (∀ (s : State) (r : Nat), s.mainOn = true → (s.ringOf r).state ≠ .disabled → ∃ t, exec (.ringEnable r) s = .next t ∧ State.Differs [] s t)
  ∧ (∀ (s : State) (r : Nat), s.mainOn = true → (s.ringOf r).state ≠ .running → (s.ringOf r).state ≠ .stopped →
    ∃ t, exec (.ringDisable r) s = .next t ∧ State.Differs [] s t)
  ∧ (∀ (s : State) (r : Nat), r < 64 → s.doorbellRead (0x1000 * r) = w32 (s.ringOf r).cmdTail
    ∧ s.doorbellRead (0x1000 * r + 4) = w32 (s.ringOf r).cplHead)

/-- R399, R402, R403: a ring fetches and drains. An empty draining ring, or one under error 3, is disabled and owns no frame, no CALIB or update command and no
far operation any more, where no other ring's far pieces wait; a fetch takes the descriptor at the fetch index; a failed fetch over PCIe stops
the ring with error 3; with no ring to serve, and on a ring that does not drain, nothing happens. -/
def Obligations.RingLife : Prop :=
  (∀ (s : State) (r : Nat), s.mainOn = true → r < 64 → (s.ringOf r).state = .draining → ((s.ringOf r).cmds = [] ∨ (s.ringOf r).err = 3) →
    (∀ o ∈ s.far.ops, o.owner.map (·.1) = some r ∨ (o.posted = false ∧ State.opOver o = false ∧ ∀ p ∈ o.pieces, p.sentAt.isSome = true)) →
    ∃ t, exec (.ringDrained r) s = .next t ∧ t.ringOf r = { s.ringOf r with state := .disabled, cmds := [] }
      ∧ (∀ q, q ≠ r → t.ringOf q = s.ringOf q) ∧ t.far.ops = s.far.ops.filter (fun o => o.owner.map (·.1) != some r)
      ∧ (∀ n f i, f ∈ (t.macOf n).txq → f.use ≠ .host r i) ∧ (∀ i, t.calib.owner ≠ some (r, i)) ∧ (∀ i, t.brace.owner ≠ some (r, i)) ∧ (∀ i, t.upd.asker ≠ some (.ring r i))
      ∧ t.calib.run = s.calib.run ∧ (∀ n, (t.macOf n).txq.map TxFrame.bytes = (s.macOf n).txq.map TxFrame.bytes)
      ∧ State.Differs [] { s with host := t.host, far := t.far, mac := t.mac, calib := t.calib, sheaf := t.sheaf, upd := t.upd, brace := t.brace } t)
  ∧ (∀ (s : State) (r : Nat) (f : Bool), s.mainOn = true → s.fetchRing = some r → (s.coreOwned r = true ∨ (f = false ∧ s.host.up = true)) →
    (∀ c ∈ (s.ringOf r).cmds, c.started = true) →
    State.opcodeKnown (State.descOf (s.ownRead r (s.cmdBase r + 64 * ((s.ringOf r).fetch % 2 ^ s.ringK r)) 64)).opcode = true →
    ∃ t, exec (.descriptorFetch f) s = .next t
      ∧ t.ringOf r = { s.ringOf r with
          fetch := ((s.ringOf r).fetch + 1) % 65536
          cmds := (s.ringOf r).cmds ++ [{ idx := (s.ringOf r).fetch
                                          desc := State.descOf (s.ownRead r (s.cmdBase r + 64 * ((s.ringOf r).fetch % 2 ^ s.ringK r)) 64)
                                          seq := s.host.fetched }] }
      ∧ (∀ q, q ≠ r → t.ringOf q = s.ringOf q) ∧ t.host.mem = s.host.mem ∧ State.Differs [] { s with host := t.host } t)
  ∧ (∀ (s : State) (r : Nat), s.mainOn = true → s.fetchRing = some r → s.coreOwned r = false →
    ∃ t, exec (.descriptorFetch true) s = .next t ∧ t.ringOf r = { s.ringOf r with state := .stopped, err := 3 }
      ∧ t.flag R.HOST_STATUS 0 = true ∧ State.Differs [R.HOST_STATUS] { s with host := t.host } t)
  ∧ (∀ (s : State) (f : Bool), s.mainOn = true → s.fetchRing = none → ∃ t, exec (.descriptorFetch f) s = .next t ∧ State.Differs [] s t)
  ∧ (∀ (s : State) (r : Nat), s.mainOn = true → (s.ringOf r).state ≠ .draining → s.far.ops = [] →
    ∃ t, exec (.ringDrained r) s = .next t ∧ State.Differs [] s t)

/-- R401, R405–R409: the opcodes of the host interface. NOP, a PARAM_WRITE of one word and a CANCEL of nothing complete with OK; a DMA
starts with the bytes it read and completes when they have landed; CALIB COPY starts, UPDATE stages its groups and waits, EPOCH_WAIT,
TX_FRAME and RX_POST wait; an EPOCH_WAIT for a past epoch completes with STALE_EPOCH and a DMA of no bytes with BAD_LENGTH; a transfer that fails over PCIe stops
the ring with error 3, without a completion. -/
def Obligations.RingOpcodes : Prop :=
  (∀ (s : State) (r : Nat) (c : Cmd), s.mainOn = true → readyCmd s r 1 c →
    ∃ t, exec (.nop r) s = .next t ∧ completedAs s r c 0 0 0 0 [] t)
  ∧ (∀ (s : State) (r : Nat) (c : Cmd), s.mainOn = true → readyCmd s r 2 c → c.desc.len = 4 →
    ∃ t, exec (.paramWrite r) s = .next t
      ∧ Sparse.get 0 t.kennel.pendParams (fld (State.arg c 0) 11 0) = w32 (leNat (s.ownRead r c.desc.addr 4))
      ∧ (∀ i, i ≠ fld (State.arg c 0) 11 0 → Sparse.get 0 t.kennel.pendParams i = Sparse.get 0 s.kennel.pendParams i)
      ∧ { t.kennel with pendParams := [], dirty := [] } = { s.kennel with pendParams := [], dirty := [] }
      ∧ completedAs { s with kennel := t.kennel } r c 0 0 0 0 [] t)
  ∧ (∀ (s : State) (r : Nat) (c : Cmd), s.mainOn = true → readyCmd s r 3 c → 0 < c.desc.len → c.desc.len ≤ 0x40000000 →
    c.desc.addr2 + c.desc.len ≤ State.fwBase → (s.coreOwned r = true → c.desc.addr + c.desc.len ≤ State.fwBase) →
    s.protectedRange c.desc.addr2 c.desc.len = false →
    ∃ t, exec (.dmaToDevice r) s = .next t
      ∧ ringOnly s r { s.ringOf r with
          cmds := [{ c with started := true, work := .dma (s.ownRead r c.desc.addr c.desc.len) 0 }] } [] t)
  ∧ (∀ (s : State) (r : Nat) (c : Cmd), s.mainOn = true → readyCmd s r 4 c → 0 < c.desc.len → c.desc.len ≤ 0x40000000 →
    c.desc.addr2 + c.desc.len ≤ State.fwBase → s.coreOwned r = false →
    ∃ t, exec (.dmaFromDevice r) s = .next t
      ∧ ringOnly s r { s.ringOf r with
          cmds := [{ c with started := true, work := .dma (s.rdBytes c.desc.addr2 c.desc.len) 0 }] } [] t)
  ∧ (∀ (s : State) (r : Nat) (c : Cmd), s.mainOn = true → readyCmd s r 3 c → c.desc.len = 0 →
    ∃ t, exec (.dmaToDevice r) s = .next t ∧ completedAs s r c 2 0 0 0 [] t)
  ∧ (∀ (s : State) (r d0 : Nat) (c : Cmd) (l : Bytes), s.mainOn = true → onlyCmd s r c → c.started = true → c.work = .dma l d0 →
    c.desc.opcode = 3 → (s.coreOwned r = true ∨ s.host.up = true) → c.desc.addr2 + l.length ≤ State.fwBase →
    (∀ k, k < l.length → s.protectedAt (c.desc.addr2 + k) = false) →
    ∃ t, exec (.dmaComplete r c.idx false) s = .next t ∧ completedAs (s.wrBytes c.desc.addr2 l) r c 0 l.length 0 0 [] t)
  ∧ (∀ (s : State) (r d0 : Nat) (c : Cmd) (l : Bytes), s.mainOn = true → onlyCmd s r c → c.started = true → c.work = .dma l d0 →
    c.desc.opcode = 4 → s.coreOwned r = false → s.host.up = true →
    ∃ t, exec (.dmaComplete r c.idx false) s = .next t ∧ completedAs (s.ownWrite r c.desc.addr l) r c 0 l.length 0 0 [] t)
  ∧ (∀ (s : State) (r d0 : Nat) (c : Cmd) (l : Bytes), s.mainOn = true → onlyCmd s r c → c.started = true → c.work = .dma l d0 →
    s.coreOwned r = false → (s.ringOf r).state = .running →
    ∃ t, exec (.dmaComplete r c.idx true) s = .next t ∧ ringOnly s r { s.ringOf r with state := .stopped, err := 3, cmds := [] } [R.HOST_STATUS] t
      ∧ t.flag R.HOST_STATUS 0 = true)
  ∧ (∀ (s : State) (r : Nat) (c : Cmd), s.mainOn = true → readyCmd s r 5 c → fld (c.desc.args.getD 0 0) 3 0 = 1 → c.desc.atEpoch = false →
    s.calib.run = none → s.calib.valid = true →
    ∃ t, exec (.calibOp r) s = .next t ∧ t.calib = { s.calib with run := some .copy, owner := some (r, c.idx) }
      ∧ t.flag R.CALIB_CMD_STAT 8 = true
      ∧ ringOnly { s with calib := t.calib } r { s.ringOf r with cmds := [{ c with started := true, work := .calib }] } [R.CALIB_CMD_STAT] t)
  ∧ (∀ (s : State) (r : Nat) (c : Cmd), s.mainOn = true → readyCmd s r 5 c → fld (c.desc.args.getD 0 0) 3 0 = 3 → c.desc.atEpoch = false →
    s.calib.run = none →
    ∃ t, exec (.calibOp r) s = .next t ∧ t.reg R.CALIB_CMD_STAT = 0 ∧ completedAs s r c 0 0 0 0 [R.CALIB_CMD_STAT] t)
  ∧ (∀ (s : State) (r : Nat) (c : Cmd), s.mainOn = true → onlyCmd s r c → c.started = false → c.desc.opcode = 6 →
    s.host.ring = [(r, s.ringOf r)] → fld (State.arg c 0) 15 0 ≠ 0 → fld (State.arg c 1) 1 0 ≤ 1 → (s.ringOf r).state = .running →
    ∃ t, exec (.updateOp r) s = .next t
      ∧ t.staged = stagedBy s (fld (State.arg c 0) 15 0) (if fld (State.arg c 1) 1 0 = 0 then .now else .epoch)
      ∧ t.ringOf r = { s.ringOf r with cmds := [{ c with started := true, work := .update (fld (State.arg c 0) 15 0) }] }
      ∧ t.shadow = s.shadow ∧ t.time = s.time)
  ∧ (∀ (s : State) (r : Nat) (c : Cmd), s.mainOn = true → readyCmd s r 7 c → later c.desc.epoch s.time.epoch = true →
    (s.ringOf r).state = .running →
    ∃ t, exec (.epochWait r) s = .next t
      ∧ ringOnly s r { s.ringOf r with cmds := [{ c with started := true, work := .epochWait }] } [] t)
  ∧ (∀ (s : State) (r : Nat) (c : Cmd), s.mainOn = true → readyCmd s r 7 c → later c.desc.epoch s.time.epoch = false →
    ∃ t, exec (.epochWait r) s = .next t ∧ completedAs s r c 11 0 0 0 [] t)
  ∧ (∀ (s : State) (r p q : Nat) (c : Cmd), s.mainOn = true → readyCmd s r 8 c → fld (State.arg c 0) 5 0 = p → fld (State.arg c 1) 2 0 = q →
    bit (State.arg c 2) 31 = false → s.macEn p = true → q ≤ 4 → s.bracePort p = false → 14 ≤ c.desc.len → c.desc.len + 4 ≤ s.maxFrame p →
    ∃ t, exec (.txFrame r) s = .next t
      ∧ t.macOf p = { s.macOf p with
          txq := (s.macOf p).txq ++ [{ queue := q, bytes := s.ownRead r c.desc.addr c.desc.len, use := .host r c.idx }] }
      ∧ (∀ n, n ≠ p → t.macOf n = s.macOf n)
      ∧ ringOnly { s with mac := t.mac } r { s.ringOf r with cmds := [{ c with started := true, work := .tx p q }] } [] t)
  ∧ (∀ (s : State) (r : Nat) (c : Cmd), s.mainOn = true → readyCmd s r 9 c → 64 ≤ c.desc.len → (s.ringOf r).state = .running →
    ∃ t, exec (.rxPost r) s = .next t ∧ ringOnly s r { s.ringOf r with cmds := [{ c with started := true, work := .rxPost }] } [] t)

/-- R26, R393–R395: the PCIe link. A link that comes up shows its generation, width and BAR4; a lost one clears them and stops every
running host ring; a function-level reset drains an empty host ring and clears the MSI-X table; BAR4 writes and reads DRAM through
its window; of the firmware's region a read returns 0, a write is ignored, and both are counted; the function's identity is that of
R392. -/
def Obligations.HostLink : Prop :=
  (∀ (s : State) (gen width b : Nat) (m f : Bool), s.mainOn = true → s.unitLost .pcie = false → gen ∈ [3, 4, 5] → width ∈ [1, 2, 4, 8] → 28 ≤ b → b ≤ 34 →
    ∃ t, exec (.pcieLinkUp gen width b m f) s = .next t
      ∧ t.host = { s.host with up := true, gen := gen, width := width, bar4 := b, msixEn := m, funcMask := f }
      ∧ t.flag R.HOST_STATUS 2 = (s.flag R.HOST_STATUS 2 || !s.host.up) ∧ State.Differs [R.HOST_STATUS] { s with host := t.host } t)
  ∧ (∀ (s : State), s.mainOn = true → s.host.up = true →
    ∃ t, exec .pcieLinkLoss s = .next t ∧ t.host.up = false ∧ t.flag R.HOST_STATUS 2 = true
      ∧ (∀ r, r < 64 → s.coreOwned r = false → (s.ringOf r).state = .running ∨ (s.ringOf r).state = .stopped →
          t.ringOf r = { s.ringOf r with state := .stopped, err := 3 })
      ∧ (∀ r, r < 64 → s.coreOwned r = false → (s.ringOf r).state = .draining → t.ringOf r = { s.ringOf r with err := 3 })
      ∧ (∀ r, s.coreOwned r = true ∨ (s.ringOf r).state = .disabled → t.ringOf r = s.ringOf r)
      ∧ State.Differs [R.HOST_STATUS] { s with host := t.host } t)
  ∧ (∀ (s : State), s.mainOn = true → s.calib.run = none →
    ∃ t, exec .functionLevelReset s = .next t ∧ t.host.msixEn = false ∧ t.host.funcMask = false ∧ t.host.pba = []
      ∧ (∀ a, 0x31000 ≤ a → a < 0x32000 → t.reg a = resetOf a)
      ∧ (∀ r, r < 64 → s.coreOwned r = false → (s.ringOf r).state = .running → (s.ringOf r).cmds = [] →
          t.ringOf r = { s.ringOf r with state := .draining, err := 3 })
      ∧ (∀ r, r < 64 → s.coreOwned r = true → t.ringOf r = s.ringOf r))
  ∧ (∀ (s : State) (o : Nat) (l : Bytes), s.mainOn = true → s.host.up = true → o + l.length ≤ 2 ^ s.host.bar4 → 0 < l.length →
    s.bar4Addr o + l.length ≤ State.fwBase → (∀ k, k < l.length → s.protectedAt (s.bar4Addr o + k) = false) →
    ∃ t, exec (.bar4Access o (some l) 0) s = .next t ∧ t.rdBytes (s.bar4Addr o) l.length = l
      ∧ (∀ a, a < s.bar4Addr o ∨ s.bar4Addr o + l.length ≤ a → t.rd8 a = s.rd8 a) ∧ State.Differs [] { s with dram := t.dram } t)
  ∧ (∀ (s : State) (o : Nat), s.mainOn = true → s.host.up = true → o < 2 ^ s.host.bar4 → s.bar4Addr o + 4 ≤ State.fwBase →
    ∃ t, exec (.bar4Access o none 4) s = .next t ∧ t.bus = w32 (s.rdLE (s.bar4Addr o) 4) ∧ State.Differs [] { s with bus := t.bus } t)
  ∧ (∀ (s : State) (o : Nat) (l : Bytes), s.mainOn = true → s.host.up = true → o < 2 ^ s.host.bar4 → 0 < l.length →
    State.fwBase ≤ s.bar4Addr o →
    ∃ t, exec (.bar4Access o (some l) 0) s = .next t ∧ t.reg R.HOST_FWREGION_CNT = s.reg R.HOST_FWREGION_CNT + 1
      ∧ t.flag R.HOST_STATUS 1 = true ∧ State.Differs [R.HOST_FWREGION_CNT, R.HOST_STATUS] s t)
  ∧ (∀ (s : State) (o n : Nat), s.mainOn = true → s.host.up = true → o < 2 ^ s.host.bar4 → 0 < n → State.fwBase ≤ s.bar4Addr o →
    ∃ t, exec (.bar4Access o none n) s = .next t ∧ t.bus = 0 ∧ t.reg R.HOST_FWREGION_CNT = s.reg R.HOST_FWREGION_CNT + 1
      ∧ t.flag R.HOST_STATUS 1 = true ∧ State.Differs [R.HOST_FWREGION_CNT, R.HOST_STATUS] { s with bus := 0 } t)
  ∧ (∀ (s : State), s.pcieFunction.vendor = 0x1E9B ∧ s.pcieFunction.device = 0x9160 ∧ s.pcieFunction.classCode = 0x048000
    ∧ s.pcieFunction.revision = s.field R.GLOBAL_REV 7 0)
  ∧ (State.fwBase = 0x3F0000000 ∧ State.dramSize = 0x3FFFFFFFF + 1)

/-- The statistics counters of MAC n, their HALF and WRAP bits, and its status register. -/
def macCounters (n : Nat) : List Nat :=
  (List.range 64).map (R.MACn_STATk n) ++ [R.MACn_STAT_HALF_LO n, R.MACn_STAT_HALF_HI n, R.MACn_STAT_WRAP_LO n, R.MACn_STAT_WRAP_HI n, R.MACn_STATUS n]

/-- t is s but for MAC n, which is m, and the live registers of l. -/
def macOnly (s : State) (n : Nat) (m : MacPort) (l : List Nat) (t : State) : Prop :=
  t.macOf n = m ∧ (∀ k, k ≠ n → t.macOf k = s.macOf k) ∧ State.Differs l { s with mac := t.mac } t

/-- The traffic of a control port counts octets received and sent (R385). -/
def heard (n k : Nat) (m : MacPort) : MacPort := if n < 32 then m else { m with dsRx := m.dsRx + k }
def spoke (n k : Nat) (m : MacPort) : MacPort := if n < 32 then m else { m with dsTx := m.dsTx + k }

/-- MAC n receives: enabled, RX_EN = 1, its link up, not in wake-only mode. -/
abbrev macHears (s : State) (n : Nat) : Prop :=
  n < 37 ∧ s.macEn n = true ∧ s.flag (R.MACn_CTRL n) 2 = true ∧ (s.macOf n).up = true ∧ s.isWakeOnly n = false

/-- R369, R382, R383, R410: frames received. A host frame that is good, addressed to the port and claimed by no block is counted and
fills the RX_POST that its ring holds; one with a wrong FCS is counted and reaches nothing; a counter read returns and clears it. -/
def Obligations.MacReceive : Prop :=
  (∀ (s : State) (n r : Nat) (l : Bytes) (c : Cmd), s.mainOn = true → macHears s n → 60 ≤ l.length → l.length + 4 ≤ s.maxFrame n →
    State.etype l ≠ 0x8808 → s.macAccepts n l (s.macAddr n) = true → s.msOn n = false → s.claimed n l = false →
    s.field (R.HOST_PORTp_RXRING n) 7 0 = r → s.flag R.HOST_CTRL 1 = true → (s.ringOf r).state = .running → onlyCmd s r c →
    c.started = true → c.work = .rxPost → l.length ≤ 16384 → l.length ≤ c.desc.len →
    ∃ t, exec (.macFrameRx n l {}) s = .next t
      ∧ completedAs { s.ownWrite r c.desc.addr l with mac := t.mac } r c 0 l.length n 0 (macCounters n) t
      ∧ t.macOf n = heard n (l.length + 4) (s.macOf n) ∧ (∀ k, k ≠ n → t.macOf k = s.macOf k)
      ∧ t.reg (R.MACn_STATk n 0) = s.reg (R.MACn_STATk n 0) + w32 (l.length + 4)
      ∧ t.reg (R.MACn_STATk n 2) = s.reg (R.MACn_STATk n 2) + 1)
  ∧ (∀ (s : State) (n w : Nat) (l : Bytes), s.mainOn = true → macHears s n → 60 ≤ l.length → l.length + 4 ≤ s.maxFrame n → State.etype l ≠ 0x8808 →
    ∃ t, exec (.macFrameRx n l { fcs := false, wire := w }) s = .next t ∧ t.reg (R.MACn_STATk n 0) = s.reg (R.MACn_STATk n 0) + w32 (l.length + 4)
      ∧ t.reg (R.MACn_STATk n 15) = s.reg (R.MACn_STATk n 15) + 1 ∧ macOnly s n (heard n (l.length + 4) (s.macOf n)) (macCounters n) t)
  ∧ (∀ (s : State) (n k : Nat), s.mainOn = true → n < 37 → k < 64 →
    ∃ t, exec (.macStatRead n k) s = .next t ∧ t.bus = s.reg (R.MACn_STATk n k) ∧ t.reg (R.MACn_STATk n k) = 0
      ∧ State.Differs [R.MACn_STATk n k] { s with bus := t.bus } t)

/-- R375–R379: flow control. PAUSE in mode 1 pauses every queue that is not exempt for its time from the frame's end, PFC in mode 2 those it
enables; the pause ends at its time; one that lasts LEASH_LIMIT is broken, held off for LEASH_HOLD, and the hold ends; at XOFF
the port sends its time, sends it again at half the time, and sends 0 below XON. Frames of the flow control belong to no queue, and
are not express. -/
def Obligations.FlowControl : Prop :=
  (∀ (s : State) (n v w q : Nat), s.mainOn = true → macHears s n → s.fcMode n = 1 → s.leashHolds n = false → (s.macOf n).pause = [] →
    v < 65536 → 100 * w < v * 512 * s.bitTime n → q < 8 → s.exempt n q = false →
    ∃ t, exec (.pauseRx n v w) s = .next t
      ∧ (t.macOf n).pause.lookup q = some (s.now10 + 100 * w, s.now10 + v * 512 * s.bitTime n)
      ∧ macOnly s n { heard n 64 (s.macOf n) with pause := (t.macOf n).pause } (macCounters n) t
      ∧ t.reg (R.MACn_STATk n 6) = s.reg (R.MACn_STATk n 6) + 1)
  ∧ (∀ (s : State) (n v w q : Nat) (en : BitVec 8) (times : List Nat), s.mainOn = true → macHears s n → s.fcMode n = 2 → s.leashHolds n = false →
    (s.macOf n).pause = [] → times.getD q 0 = v → (∀ x ∈ times, x < 65536) → 100 * w < v * 512 * s.bitTime n → q < 8 → en.getLsbD q = true →
    s.exempt n q = false →
    ∃ t, exec (.pfcRx n en times w) s = .next t
      ∧ (t.macOf n).pause.lookup q = some (s.now10 + 100 * w, s.now10 + v * 512 * s.bitTime n)
      ∧ (∀ k, en.getLsbD k = false → (t.macOf n).pause.lookup k = none)
      ∧ macOnly s n { heard n 64 (s.macOf n) with pause := (t.macOf n).pause } (macCounters n) t)
  ∧ (∀ (s : State) (n v w : Nat), s.mainOn = true → macHears s n → s.leashHolds n = true →
    ∃ t, exec (.pauseRx n v w) s = .next t ∧ t.reg (R.MACn_LEASH_IGN_CNT n) = s.reg (R.MACn_LEASH_IGN_CNT n) + 1
      ∧ macOnly s n (heard n 64 (s.macOf n)) (R.MACn_LEASH_IGN_CNT n :: macCounters n) t)
  ∧ (∀ (s : State) (n q a e : Nat), s.mainOn = true → (s.macOf n).pause = [(q, (a, e))] →
    ∃ t, exec (.pauseExpiry n) s = .next t ∧ t.time.frc = max s.time.frc ((e + 79) / 80)
      ∧ macOnly { s with time := t.time } n { s.macOf n with pause := [] } [] t)
  ∧ (∀ (s : State) (n q a e : Nat), s.mainOn = true → n < 37 → (s.macOf n).pause = [(q, (a, e))] → s.field (R.MACn_LEASH_LIMIT n) 19 0 ≠ 0 →
    a + s.field (R.MACn_LEASH_LIMIT n) 19 0 * 100000 ≤ e →
    ∃ t, exec (.leashLimit n) s = .next t
      ∧ t.time.frc = max s.time.frc ((a + s.field (R.MACn_LEASH_LIMIT n) 19 0 * 100000 + 79) / 80)
      ∧ t.reg (R.MACn_LEASH_CNT n) = s.reg (R.MACn_LEASH_CNT n) + 1 ∧ t.flag (R.MACn_STATUS n) 3 = true
      ∧ macOnly { s with time := t.time } n { s.macOf n with
          pause := [], hold := some (80 * t.time.frc + s.field (R.MACn_LEASH_HOLD n) 19 0 * 100000) } [R.MACn_LEASH_CNT n, R.MACn_STATUS n] t)
  ∧ (∀ (s : State) (n h : Nat), s.mainOn = true → (s.macOf n).hold = some h →
    ∃ t, exec (.leashHoldEnd n) s = .next t ∧ t.time.frc = max s.time.frc ((h + 79) / 80)
      ∧ macOnly { s with time := t.time } n { s.macOf n with hold := none } [] t)
  ∧ (∀ (s : State) (n k : Nat), s.mainOn = true → s.fcMode n = 1 → s.txReady n = true → s.xoffAt n ≤ k → (s.macOf n).fc = none →
    s.flag (R.MACn_CTRL n) 12 = false →
    ∃ t, exec (.fcXoffSend n k) s = .next t
      ∧ t.out = [.frame n false (State.padded (beBytes 6 0x0180C2000001 ++ s.macAddr n ++ beBytes 2 0x8808 ++ (beBytes 2 1
          ++ beBytes 2 (s.quanta n))))]
      ∧ macOnly s n { spoke n 64 (s.macOf n) with fc := some s.now10 } (macCounters n) t)
  ∧ (∀ (s : State) (n k a : Nat), s.mainOn = true → s.fcMode n = 1 → s.txReady n = true → s.xonAt n ≤ k → (s.macOf n).fc = some a →
    s.flag (R.MACn_CTRL n) 12 = false →
    ∃ t, exec (.fcRefresh n k) s = .next t ∧ t.time.frc = max s.time.frc ((a + s.quanta n * 256 * s.bitTime n + 79) / 80)
      ∧ t.out = [.frame n false (State.padded (beBytes 6 0x0180C2000001 ++ s.macAddr n ++ beBytes 2 0x8808 ++ (beBytes 2 1
          ++ beBytes 2 (s.quanta n))))]
      ∧ macOnly { s with time := t.time } n { spoke n 64 (s.macOf n) with fc := some t.now10 } (macCounters n) t)
  ∧ (∀ (s : State) (n k a : Nat), s.mainOn = true → s.fcMode n = 1 → s.txReady n = true → k < s.xonAt n → (s.macOf n).fc = some a →
    s.flag (R.MACn_CTRL n) 12 = false →
    ∃ t, exec (.fcXonSend n k) s = .next t
      ∧ t.out = [.frame n false (State.padded (beBytes 6 0x0180C2000001 ++ s.macAddr n ++ beBytes 2 0x8808 ++ (beBytes 2 1
          ++ beBytes 2 0)))]
      ∧ macOnly s n { spoke n 64 (s.macOf n) with fc := none } (macCounters n) t)

/-- Port n as frame f leaves it with an empty queue: f starts now, as the one that may be preempted where it is not express. -/
def started (s : State) (n : Nat) (f : TxFrame) : MacPort :=
  { spoke n ((State.padded f.bytes).length + 4) (s.macOf n) with
    txq := [], bulk := !s.isExpress n f.queue, cut := false, fragAt := s.now10, bulkLeft := (State.padded f.bytes).length + 4 }

/-- The only frame that waits at port n is f, of the length and the queue that may leave, without a stamp, MACsec or a loop back. -/
abbrev onlyFrame (s : State) (n : Nat) (f : TxFrame) : Prop :=
  s.txReady n = true ∧ (s.macOf n).txq = [f] ∧ f.queue < 8 ∧ f.stamp = none ∧ s.isPaused n f.queue = false ∧ s.msOn n = false
    ∧ s.flag (R.MACn_CTRL n) 12 = false

/-- R370–R372, R374, R380, R381: frames sent. The only waiting frame of a port that sends leaves, padded, as an express or preemptable frame; a
port whose link is down discards it, and so is one longer than MAX_FRAME; a synchronisation packet counts as sent when it leaves; an
express frame preempts a part-sent one where a point is left; a Vocon frame that may not leave any more (R241, R459) and a late sACN
packet (R301) are discarded; a frame of queue 7 that misses its deadline is discarded and counted. -/
def Obligations.MacTransmit : Prop :=
  (∀ (s : State) (n : Nat) (f : TxFrame), s.mainOn = true → onlyFrame s n f → (State.padded f.bytes).length + 4 ≤ s.maxFrame n → f.use = .plain →
    ∃ t, exec (.macTxFrame n false none) s = .next t ∧ t.out = [.frame n (s.isExpress n f.queue) (State.padded f.bytes)]
      ∧ macOnly s n (started s n f) (macCounters n) t ∧ t.reg (R.MACn_STATk n 33) = s.reg (R.MACn_STATk n 33) + 1)
  ∧ (∀ (s : State) (n r : Nat) (f : TxFrame) (c : Cmd), s.mainOn = true → onlyFrame s n f → (State.padded f.bytes).length + 4 ≤ s.maxFrame n →
    f.use = .host r c.idx → onlyCmd s r c →
    ∃ t, exec (.macTxFrame n false none) s = .next t ∧ t.out = [.frame n (s.isExpress n f.queue) (State.padded f.bytes)]
      ∧ completedAs { s with mac := t.mac } r c 0 0 0 0 (macCounters n) t)
  ∧ (∀ (s : State) (n : Nat) (f : TxFrame) (d : Int), s.mainOn = true → onlyFrame s n f → (State.padded f.bytes).length + 4 ≤ s.maxFrame n →
    f.use = .sync d →
    ∃ t, exec (.macTxFrame n false none) s = .next t ∧ t.out = [.frame n (s.isExpress n f.queue) (State.padded f.bytes)]
      ∧ macOnly s n (started s n f) (R.FIX_SYNC_TX_CNT :: macCounters n) t ∧ t.reg R.FIX_SYNC_TX_CNT = s.reg R.FIX_SYNC_TX_CNT + 1)
  ∧ (∀ (s : State) (n : Nat) (f : TxFrame), s.mainOn = true → onlyFrame s n f → s.maxFrame n < (State.padded f.bytes).length + 4 → f.use = .plain →
    ∃ t, exec (.macTxFrame n false none) s = .next t ∧ t.out = [] ∧ macOnly s n { s.macOf n with txq := [] } (macCounters n) t
      ∧ t.reg (R.MACn_STATk n 47) = s.reg (R.MACn_STATk n 47) + 1)
  ∧ (∀ (s : State) (n k : Nat) (f : TxFrame) (o : Option (Nat × Nat)), s.mainOn = true → onlyFrame s n f → f.use = .cfg o k → s.vcnBarred n f = true →
    ∃ t, exec (.macTxFrame n false none) s = .next t ∧ t.out = [] ∧ macOnly s n { s.macOf n with txq := [] } [] t)
  ∧ (∀ (s : State) (n : Nat) (f : TxFrame) (e : Epoch), s.mainOn = true → onlyFrame s n f → f.use = .sacn (some e) → s.sacnLate e = true →
    ∃ t, exec (.macTxFrame n false none) s = .next t ∧ t.out = []
      ∧ t.reg R.FIX_SACN_LATE_CNT = s.reg R.FIX_SACN_LATE_CNT + 1 ∧ t.flag R.FIX_STATUS 0 = true
      ∧ macOnly s n { s.macOf n with txq := [] } [R.FIX_SACN_LATE_CNT, R.FIX_STATUS] t)
  ∧ (∀ (s : State) (n at_ left : Nat) (f : TxFrame), s.mainOn = true → onlyFrame s n f → (State.padded f.bytes).length + 4 ≤ s.maxFrame n →
    f.use = .plain → s.isExpress n f.queue = true → (s.macOf n).bulk = true → (s.macOf n).cut = false → s.preemptActive n = true →
    s.preemptPoint n = some (at_, left) →
    ∃ t, exec (.macTxFrame n true none) s = .next t ∧ t.out = [.frame n true (State.padded f.bytes)]
      ∧ t.time.frc = max s.time.frc ((at_ + 79) / 80)
      ∧ macOnly { s with time := t.time } n { spoke n ((State.padded f.bytes).length + 4) (s.macOf n) with
          txq := [], cut := true, bulkLeft := left, expEnd := at_ + ((State.padded f.bytes).length + 24) * s.octetTime n } (macCounters n) t
      ∧ t.reg (R.MACn_STATk n 50) = s.reg (R.MACn_STATk n 50) + 1 ∧ t.reg (R.MACn_STATk n 49) = s.reg (R.MACn_STATk n 49) + 1)
  ∧ (∀ (s : State) (n : Nat) (f : TxFrame), s.mainOn = true → n < 37 →
    (s.macEn n && (s.macOf n).up && s.flag (R.MACn_CTRL n) 1) = false → (s.macOf n).txq = [f] → f.queue < 8 → f.use = .plain →
    ∃ t, exec (.macTxFrame n false none) s = .next t ∧ t.out = []
      ∧ macOnly s n { s.macOf n with txq := [] } [R.MACn_TX_LINK_DROP n] t
      ∧ t.reg (R.MACn_TX_LINK_DROP n) = s.reg (R.MACn_TX_LINK_DROP n) + 1)
  ∧ (∀ (s : State) (n : Nat) (f : TxFrame) (d : Int), s.mainOn = true → n < 37 → (s.macOf n).txq = [f] → State.deadlineOf f = some d →
    ∃ t, exec (.deadlineDrop n) s = .next t ∧ t.time.frc = max s.time.frc (s.frcAt d)
      ∧ macOnly { s with time := t.time } n { s.macOf n with txq := [] } (macCounters n) t
      ∧ t.reg (R.MACn_STATk n 51) = s.reg (R.MACn_STATk n 51) + 1 ∧ t.flag (R.MACn_STATUS n) 6 = true)

/-- Port n runs the verify process and waits for an answer. -/
abbrev verifies (s : State) (n : Nat) : Prop :=
  n < 37 ∧ s.flag (R.MACn_PREEMPT n) 0 = true ∧ s.flag (R.MACn_PREEMPT n) 1 = false ∧ (s.macOf n).up = true ∧ (s.macOf n).verify = 2

/-- R36, R368, R373, R384, R385, R389: a port's link. It comes up with its speed, its lane's clock recovery and status bit, and goes down; preemption is verified by the
answer within three attempts; a control port that may moves down to its low-power speed when its traffic is low and up again when it
is high; a MACsec SA is valid only with a key issued to
its port's engine. -/
def Obligations.MacLink : Prop :=
  (∀ (s : State) (n : Nat) (r : LinkReport), s.mainOn = true → s.macEn n = true → s.portClockLost n = false → (s.macOf n).up = false →
    ∃ t, exec (.macLinkChange n (some r)) s = .next t ∧ (t.macOf n).up = true ∧ (t.macOf n).speed = s.linkSpeed n r.speed
      ∧ (t.macOf n).block = r.block ∧ t.flag (R.MACn_STATUS n) 0 = true
      ∧ (n < 32 → n ∈ t.power.recovered)
      ∧ macOnly { s with power := { s.power with recovered := t.power.recovered } } n { s.macOf n with
          up := true, speed := (t.macOf n).speed, fec := (t.macOf n).fec, anDone := (t.macOf n).anDone
          block := r.block, pauseAdv := (t.macOf n).pauseAdv, dsAt := s.now10, dsRx := 0, dsTx := 0 } [R.MACn_STATUS n] t)
  ∧ (∀ (s : State) (n : Nat), s.mainOn = true → n < 37 → (s.macOf n).up = true → (s.macOf n).verify = 0 → s.bracePort n = false →
    ∃ t, exec (.macLinkChange n none) s = .next t
      ∧ macOnly s n { s.macOf n with up := false, anDone := false, block := false } [R.MACn_STATUS n] t
      ∧ t.flag (R.MACn_STATUS n) 0 = true)
  ∧ (∀ (s : State) (n : Nat), s.mainOn = true → verifies s n →
    ∃ t, exec (.preemptVerify n true) s = .next t
      ∧ macOnly s n { s.macOf n with verify := 3, verifyTries := 0, verifyAt := 0 } [R.MACn_STATUS n] t ∧ t.flag (R.MACn_STATUS n) 5 = true)
  ∧ (∀ (s : State) (n : Nat), s.mainOn = true → verifies s n → 3 ≤ (s.macOf n).verifyTries →
    ∃ t, exec (.preemptVerify n false) s = .next t ∧ t.time.frc = max s.time.frc (((s.macOf n).verifyAt + s.verifyTime n + 79) / 80)
      ∧ macOnly { s with time := t.time } n { s.macOf n with verify := 4, verifyTries := 0, verifyAt := 0 } [R.MACn_STATUS n] t
      ∧ t.flag (R.MACn_STATUS n) 5 = true)
  ∧ (∀ (s : State) (n : Nat), s.mainOn = true → verifies s n → (s.macOf n).verifyTries < 3 →
    ∃ t, exec (.preemptVerify n false) s = .next t ∧ t.time.frc = max s.time.frc (((s.macOf n).verifyAt + s.verifyTime n + 79) / 80)
      ∧ macOnly { s with time := t.time } n { s.macOf n with
          verifyTries := (s.macOf n).verifyTries + 1, verifyAt := 80 * t.time.frc } [] t)
  ∧ (∀ (s : State) (n f : Nat), s.mainOn = true → s.mayDownshift n = true → (s.macOf n).up = true → (s.macOf n).downshifted = false →
    f = (s.dsWait n (s.dsCfg n 31 24)).time.frc →
    (s.macOf n).dsRx * 80000 < s.dsPercent n 23 16 * (80 * f - (s.macOf n).dsAt) →
    (s.macOf n).dsTx * 80000 < s.dsPercent n 23 16 * (80 * f - (s.macOf n).dsAt) →
    ∃ t, exec (.downshiftDown n) s = .next t ∧ (t.macOf n).downshifted = true ∧ (t.macOf n).up = false ∧ t.flag (R.MACn_STATUS n) 8 = true
      ∧ t.time.frc = f ∧ State.Differs [R.MACn_STATUS n, R.BRACE_STATUS] { s with mac := t.mac, time := t.time } t)
  ∧ (∀ (s : State) (n f : Nat), s.mainOn = true → n < 37 → (s.macOf n).downshifted = true → (s.macOf n).up = true →
    f = (s.dsWait n (s.dsCfg n 15 8)).time.frc →
    (s.dsPercent n 7 0 * (80 * f - (s.macOf n).dsAt) < (s.macOf n).dsRx * 800000
      ∨ s.dsPercent n 7 0 * (80 * f - (s.macOf n).dsAt) < (s.macOf n).dsTx * 800000) →
    ∃ t, exec (.downshiftUp n) s = .next t ∧ (t.macOf n).downshifted = false ∧ (t.macOf n).up = false ∧ t.flag (R.MACn_STATUS n) 8 = true
      ∧ t.time.frc = f ∧ State.Differs [R.MACn_STATUS n, R.BRACE_STATUS] { s with mac := t.mac, time := t.time } t)
  ∧ (∀ (s : State) (n f : Nat), s.mainOn = true → s.mayDownshift n = true → (s.macOf n).up = true → (s.macOf n).downshifted = false →
    f = (s.dsWait n (s.dsCfg n 31 24)).time.frc →
    s.dsPercent n 23 16 * (80 * f - (s.macOf n).dsAt) ≤ (s.macOf n).dsRx * 80000 →
    ∃ t, exec (.downshiftDown n) s = .next t ∧ t.time.frc = f
      ∧ macOnly { s with time := t.time } n { s.macOf n with dsAt := 80 * f, dsRx := 0, dsTx := 0 } [] t)
  ∧ (∀ (s : State) (n a : Nat) (v : Word), s.mainOn = true → 32 ≤ n → n < 37 → a < 4 → bit v 0 = true → s.issued (fld v 13 8) (n - 29) = true →
    ∃ t, exec (.macsecSaWrite n none a v) s = .next t ∧ t.reg (R.MACn_TXSAa_CTRL n a) = w32 (fld v 13 8 * 256 + 1)
      ∧ State.Differs [R.MACn_TXSAa_CTRL n a] { s with mac := t.mac } t)
  ∧ (∀ (s : State) (n a c : Nat) (v : Word), s.mainOn = true → 32 ≤ n → n < 37 → a < 4 → c < 8 → bit v 0 = true →
    s.issued (fld v 13 8) (n - 29) = false →
    ∃ t, exec (.macsecSaWrite n (some c) a v) s = .next t ∧ t.reg (R.MACn_RXSCc_SAa_CTRL n c a) = w32 (fld v 13 8 * 256)
      ∧ t.flag (R.MACn_STATUS n) 14 = true ∧ State.Differs [R.MACn_RXSCc_SAa_CTRL n c a, R.MACn_STATUS n] s t)

/-- R232, R234, R237, R263: the Ethernet frame of a far-bridge payload to a tile, in layer-2 mode without a tag of R240. -/
def farFrame (s : State) (tile type : Nat) (payload : Bytes) : Bytes :=
  let body := s.vcnHeader type 0 0 payload.length tile s.time.epoch (s.vcnCount tile s.time.epoch) 0 0 0 ++ payload
  s.ether (s.routeOf tile).port (s.routeOf tile).mac
    (if s.flag R.VCN_CTRL 4 then some (s.field R.VCN_VLAN 18 16 * 8192 + s.field R.VCN_VLAN 11 0) else none) (s.field R.VCN_ETHERTYPE 15 0)
    (body ++ beBytes 4 (crc32c body))

/-- The transmit queue of a tile's port after one more far-bridge frame to it. -/
def farQueued (s : State) (tile type : Nat) (payload : Bytes) (use : TxUse) (t : State) : Prop :=
  (t.macOf (s.routeOf tile).port).txq = (s.macOf (s.routeOf tile).port).txq ++ [{ queue := 3, bytes := farFrame s tile type payload, use := use }]

/-- Frames to the tile leave without authentication, in layer-2 mode, and R238 lets one more out. -/
abbrev plainLink (s : State) (tile : Nat) : Prop := s.vcnAuth = 0 ∧ s.vcnUdp = false ∧ s.vcnCount tile s.time.epoch < 65536 ∧ tile < 32768

/-- The piece as it stands once it has been sent. -/
def sentPiece (s : State) (p : Piece) : Piece := { p with serial := s.far.serial, sentAt := some s.time.frc, sentEpoch := s.time.epoch }

/-- R418–R424: far-bridge operations of one piece. A FAR_WRITE through a window to a tile is sent as CFGWR and waits for its answer; a
posted one leaves no record and rides on its frame; a FAR_READ is sent as CFGRD. One that R238 does not
let go fails with NO_RESOURCE. One that R419 refuses completes with its status. -/
def farOperations : Prop :=
  (∀ (s : State) (r w : Nat) (c : Cmd) (o : FarOp) (p : Piece), s.mainOn = true → readyCmd s r 0x20 c → fld (State.arg c 0) 5 0 = w →
    s.farRefuses w (State.arg c 1).toNat c.desc.len = none → s.winTarget w ≠ 0x8000 → plainLink s (s.winTarget w) → s.far.ops = [] →
    s.far.bufs = [] → s.farOp w (some (r, c.idx)) true (s.winBase w + (State.arg c 1).toNat) c.desc.len c.desc.addr
      (s.ownRead r c.desc.addr c.desc.len) = o → o.pieces = [p] → o.posted = false →
    ∃ t, exec (.farWrite r) s = .next t
      ∧ t.far = { s.far with serial := (s.far.serial + 1) % 512, ops := [{ o with pieces := [sentPiece s p] }] }
      ∧ farQueued s (s.winTarget w) 5 (State.opHeader p.addr (State.farTag w s.far.serial) 0 0 p.bytes ++ p.data) (.cfg none p.bytes) t
      ∧ t.reg R.FARBR_WR_CNT = s.reg R.FARBR_WR_CNT + 1
      ∧ ringOnly { s with far := t.far, mac := t.mac, vocon := t.vocon } r { s.ringOf r with
          cmds := [{ c with started := true, work := .far 1 }] } [R.FARBR_WR_CNT] t)
  ∧ (∀ (s : State) (r w : Nat) (c : Cmd) (o : FarOp) (p : Piece), s.mainOn = true → readyCmd s r 0x20 c → fld (State.arg c 0) 5 0 = w →
    s.farRefuses w (State.arg c 1).toNat c.desc.len = none → s.winTarget w ≠ 0x8000 → plainLink s (s.winTarget w) → s.far.ops = [] →
    s.far.bufs = [] → s.farOp w (some (r, c.idx)) true (s.winBase w + (State.arg c 1).toNat) c.desc.len c.desc.addr
      (s.ownRead r c.desc.addr c.desc.len) = o → o.pieces = [p] → o.posted = true →
    ∃ t, exec (.farWrite r) s = .next t ∧ t.far.ops = []
      ∧ farQueued s (s.winTarget w) 5 (State.opHeader p.addr (State.farTag w s.far.serial) 1 0 p.bytes ++ p.data)
          (.far r c.idx c.desc.len (o.start - o.rbase) p.bytes) t)
  ∧ (∀ (s : State) (r w : Nat) (c : Cmd) (o : FarOp) (p : Piece), s.mainOn = true → readyCmd s r 0x21 c → fld (State.arg c 0) 5 0 = w →
    s.farRefuses w (State.arg c 1).toNat c.desc.len = none → s.winTarget w ≠ 0x8000 → plainLink s (s.winTarget w) → s.far.ops = [] →
    s.far.bufs = [] → s.farOp w (some (r, c.idx)) false (s.winBase w + (State.arg c 1).toNat) c.desc.len c.desc.addr [] = o →
    o.pieces = [p] →
    ∃ t, exec (.farRead r) s = .next t
      ∧ t.far = { s.far with serial := (s.far.serial + 1) % 512, ops := [{ o with pieces := [sentPiece s p] }] }
      ∧ farQueued s (s.winTarget w) 6 (State.opHeader p.addr (State.farTag w s.far.serial) 0 0 p.bytes) (.cfg none p.bytes) t
      ∧ t.reg R.FARBR_RD_CNT = s.reg R.FARBR_RD_CNT + 1
      ∧ ringOnly { s with far := t.far, mac := t.mac, vocon := t.vocon } r { s.ringOf r with
          cmds := [{ c with started := true, work := .far 1 }] } [R.FARBR_RD_CNT] t)
  ∧ (∀ (s : State) (r w : Nat) (c : Cmd) (o : FarOp) (p : Piece), s.mainOn = true → readyCmd s r 0x20 c → fld (State.arg c 0) 5 0 = w →
    s.farRefuses w (State.arg c 1).toNat c.desc.len = none → s.winTarget w ≠ 0x8000 → 65536 ≤ s.vcnCount (s.winTarget w) s.time.epoch →
    s.far.ops = [] → s.far.bufs = [] → s.farOp w (some (r, c.idx)) true (s.winBase w + (State.arg c 1).toNat) c.desc.len c.desc.addr
      (s.ownRead r c.desc.addr c.desc.len) = o → o.pieces = [p] →
    ∃ t, exec (.farWrite r) s = .next t ∧ t.far = { s.far with serial := (s.far.serial + 1) % 512 }
      ∧ completedAs { s with far := t.far } r c 4 0 0 (p.addr - o.rbase) [] t)
  ∧ (∀ (s : State) (r st : Nat) (c : Cmd), s.mainOn = true → readyCmd s r 0x21 c →
    s.farRefuses (fld (State.arg c 0) 5 0) (State.arg c 1).toNat c.desc.len = some st →
    ∃ t, exec (.farRead r) s = .next t ∧ completedAs s r c st 0 0 0 [] t)

/-- R419, R421, R422, R424, R426, R427: answers and their absence. The answer to a read of one piece puts its data in owner memory and completes the
command; an answer nothing waits for is counted and logged; a piece without an answer is sent again while it has retries (one
that may not leave any more ends with its status, R419), and then ends with TIMEOUT; pieces that a drained ring's operations held back are sent; an old prefetch buffer whose words were all delivered is dropped; a poll goes to the next tile when it is
due, the enabled tiles evenly over POLL_IVL, and one without an answer is counted and logged. -/
def farAnswers : Prop :=
  (∀ (s : State) (port r : Nat) (l : Bytes) (x : VcnRx) (c : Cmd) (o : FarOp) (p : Piece), s.mainOn = true → vcnAccepts s port l x → x.type = 7 →
    State.farShape x.payload = true → beAt x.payload 6 1 % 2 = 0 → beAt x.payload 4 2 = State.farTag o.win p.serial →
    State.farTag o.win p.serial < 0x8000 → beAt x.payload 7 1 = 0 → s.far.ops = [o] → o.target = x.src → o.write = false →
    o.posted = false → o.prefetch = false → o.pieces = [p] → p.sentAt.isSome = true → p.res = none → p.addr = o.start → p.bytes = o.len →
    x.payload.length = 12 + p.bytes → o.owner = some (r, c.idx) → onlyCmd s r c →
    ∃ t, exec (.cfgrspRx port l) s = .next t
      ∧ completedAs { s.ownWrite r o.dst (x.payload.drop 12) with far := { s.far with ops := [] }, vocon := t.vocon } r c 0 o.len 0 0 [] t)
  ∧ (∀ (s : State) (port : Nat) (l : Bytes) (x : VcnRx), s.mainOn = true → vcnAccepts s port l x → x.type = 7 → x.payload.length = 12 →
    beAt x.payload 6 1 % 2 = 0 → beAt x.payload 4 2 < 0x8000 → s.far.ops = [] →
    (s.field R.FARBR_LOG_HEAD 9 0 + 1) % 1024 ≠ s.field R.FARBR_LOG_TAIL 9 0 →
    ∃ t, exec (.cfgrspRx port l) s = .next t ∧ t.reg R.FARBR_STRAY_CNT = s.reg R.FARBR_STRAY_CNT + 1 ∧ t.flag R.FARBR_STATUS 5 = true
      ∧ t.flag R.FARBR_STATUS 6 = true ∧ t.reg R.FARBR_LOG_HEAD = w32 ((s.field R.FARBR_LOG_HEAD 9 0 + 1) % 1024)
      ∧ State.Differs [R.FARBR_STRAY_CNT, R.FARBR_STATUS, R.FARBR_LOG_HEAD] { s with dram := t.dram, vocon := t.vocon } t)
  ∧ (∀ (s : State) (a : Nat) (o : FarOp) (p : Piece), s.mainOn = true → s.far.ops = [o] → o.posted = false → o.pieces = [p] →
    p.sentAt = some a → p.res = none → 0 < p.left → plainLink s o.target → s.tilesBarred = none →
    ∃ t, exec (.farPieceTimeout (State.farTag o.win p.serial)) s = .next t ∧ t.time.frc = max s.time.frc (a + s.farTmo)
      ∧ t.far = { s.far with ops := [{ o with pieces := [{ p with left := p.left - 1, sentAt := some t.time.frc, sentEpoch := s.time.epoch }] }] })
  ∧ (∀ (s : State) (a r st : Nat) (c : Cmd) (o : FarOp) (p : Piece), s.mainOn = true → s.far.ops = [o] → o.posted = false → o.write = true →
    o.prefetch = false → o.pieces = [p] → p.sentAt = some a → p.res = none → 0 < p.left → o.owner = some (r, c.idx) → onlyCmd s r c →
    o.target ≠ 0x8000 → (s.routeOf o.target).valid = true → s.vcnPort (s.routeOf o.target).port = true → s.tilesBarred = some st →
    ∃ t, exec (.farPieceTimeout (State.farTag o.win p.serial)) s = .next t ∧ t.time.frc = max s.time.frc (a + s.farTmo)
      ∧ completedAs { s with time := t.time, far := { s.far with ops := [] } } r c st 0 0 (p.addr - o.rbase) [] t)
  ∧ (∀ (s : State) (r : Nat) (o : FarOp) (p : Piece), s.mainOn = true → r < 64 → (s.ringOf r).state = .draining → (s.ringOf r).err = 3 →
    s.far.ops.filter (fun x => x.owner.map (·.1) != some r) = [o] → o.posted = false → o.pieces = [p] → p.sentAt = none → p.res = none →
    o.target ≠ 0x8000 → (s.routeOf o.target).valid = true → s.vcnPort (s.routeOf o.target).port = true → s.tilesBarred = none → plainLink s o.target →
    ∃ t, exec (.ringDrained r) s = .next t ∧ t.far.ops = [{ o with pieces := [sentPiece s p] }]
      ∧ (t.macOf (s.routeOf o.target).port).txq.map TxFrame.bytes = (s.macOf (s.routeOf o.target).port).txq.map TxFrame.bytes
          ++ [farFrame s o.target (if o.write then 5 else 6) (State.opHeader p.addr (State.farTag o.win s.far.serial) 0 0 p.bytes ++ p.data)])
  ∧ (∀ (s : State) (a r : Nat) (c : Cmd) (o : FarOp) (p : Piece), s.mainOn = true → s.far.ops = [o] → o.posted = false → o.write = true →
    o.prefetch = false → o.pieces = [p] → p.sentAt = some a → p.res = none → p.left = 0 → o.owner = some (r, c.idx) → onlyCmd s r c →
    ∃ t, exec (.farPieceTimeout (State.farTag o.win p.serial)) s = .next t ∧ t.time.frc = max s.time.frc (a + s.farTmo)
      ∧ t.reg R.FARBR_TMO_CNT = s.reg R.FARBR_TMO_CNT + 1 ∧ t.flag R.FARBR_STATUS 2 = true
      ∧ completedAs { s with time := t.time, far := { s.far with ops := [] } } r c 7 0 0 (p.addr - o.rbase)
          [R.FARBR_TMO_CNT, R.FARBR_STATUS] t)
  ∧ (∀ (s : State) (w : Nat) (b : FarBuf), s.mainOn = true → s.far.bufs.lookup w = some b → b.data.length / 4 ≤ b.seen.length →
    ∃ t, exec (.prefetchExpire w) s = .next t ∧ t.far = { s.far with bufs := s.far.bufs.filter (fun x => x.1 != w) }
      ∧ t.time.frc = max s.time.frc b.until_ ∧ State.Differs [] { s with far := t.far, time := t.time } t)
  ∧ (∀ (s : State) (u : Nat), s.mainOn = true → s.farEn = true → s.flag R.FARBR_POLL_CTRL 0 = true → s.pollTile = some u →
    s.tileRefuses u = none → plainLink s u →
    let due := match s.far.pollAt with
      | none => 0
      | some a => a + atLeast1 (s.field R.FARBR_POLL_CTRL 31 16) * 1250000 / s.pollTiles
    let addr := s.field R.FARBR_POLL_ADDR 31 2 * 4
    ∃ t, exec .farPoll s = .next t ∧ t.far.pollNext = (u + 1) % 32768 ∧ t.time = { s.time with frc := max s.time.frc due }
      ∧ t.far.pollAt = some t.time.frc ∧ t.far.polls = s.far.polls ++ [(u, { sentAt := t.time.frc, epoch := s.time.epoch, addr := addr })]
      ∧ farQueued { s with time := t.time } u 6 (State.opHeader addr (0x8000 + u) 0 0 4) (.cfg none 4) t
      ∧ State.Differs [] { s with time := t.time, far := t.far, mac := t.mac, vocon := t.vocon } t)
  ∧ (∀ (s : State) (u : Nat) (x : FarPoll), s.mainOn = true → s.far.polls.lookup u = some x →
    (s.field R.FARBR_LOG_HEAD 9 0 + 1) % 1024 ≠ s.field R.FARBR_LOG_TAIL 9 0 →
    ∃ t, exec (.farPollTimeout u) s = .next t ∧ t.time.frc = max s.time.frc (x.sentAt + s.farTmo)
      ∧ t.far = { s.far with polls := s.far.polls.eraseP (fun x => x.1 == u) }
      ∧ t.reg R.FARBR_POLL_TMO_CNT = s.reg R.FARBR_POLL_TMO_CNT + 1 ∧ t.flag R.FARBR_STATUS 4 = true
      ∧ State.Differs [R.FARBR_POLL_TMO_CNT, R.FARBR_STATUS, R.FARBR_LOG_HEAD] { s with dram := t.dram, time := t.time, far := t.far } t)

/-- R418–R427: far-bridge operations, and their answers. -/
def Obligations.FarBridge : Prop := farOperations ∧ farAnswers

/-- R436, R437: the source that is offered first. Of the pending sources that some core may be offered, the one chosen is a fast one where
there is one, of the highest priority within its class, and of the lowest number within that. -/
def offerOrder : Prop :=
  ∀ (s : State) (k : Nat), (∀ j ∈ s.intc.pend, j < 2048) → s.offerSource = some k →
    (k ∈ s.intc.pend ∧ s.isOffered k = false ∧ ∃ c, c < 4 ∧ s.mayOffer k c = true)
    ∧ ∀ j, j ∈ s.intc.pend → s.isOffered j = false → (∃ c, c < 4 ∧ s.mayOffer j c = true) →
      (s.isFast j = true → s.isFast k = true)
      ∧ (s.isFast j = s.isFast k → s.prioOf j ≤ s.prioOf k ∧ (s.prioOf j = s.prioOf k → k ≤ j))

/-- R432, R434, R438–R440: offers, entry and EOI, and the controller's registers. An offer made stands at its core; entry puts the source
in service, counts, masks it under AUTOMASK and ends the pending state of an edge source; EOI of the active source ends it, and
of another sets INTC_STATUS; a source's configuration takes the written value, and a disabled source is not pending; PEND takes
the written bits of enabled sources. -/
def Obligations.InterruptDelivery : Prop :=
  (∀ (s : State) (ie asleep : BitVec 4) (k c : Nat), s.mainOn = true → (s.coreFlags ie.toNat asleep.toNat).offerSource = some k →
    (s.coreFlags ie.toNat asleep.toNat).offerCore k = some c →
    ∃ t, exec (.intcOffer ie asleep) s = .next t ∧ (t.coreOf c).offer = some k ∧ (t.coreOf c).sleeping = false
      ∧ (t.coreOf c).ie = ie.getLsbD c ∧ State.Differs [R.INTC_Cc_BYPASS_CNT c] s t)
  ∧ (∀ (s : State) (c k : Nat), s.mainOn = true → c < 4 → (s.coreOf c).offer = some k →
    ∃ t, exec (.intcEntry c) s = .next t ∧ (t.coreOf c).offer = none
      ∧ (t.coreOf c).insvc = (k, s.isFast k, s.prioOf k) :: (s.coreOf c).insvc
      ∧ t.isMasked k = (s.isMasked k || bit (s.srcCfg k) 28) ∧ (s.srcEdge k = true → t.isPend k = false)
      ∧ t.reg (R.INTC_Cc_DELIV_CNT c) = s.reg (R.INTC_Cc_DELIV_CNT c) + 1
      ∧ State.Differs [R.INTC_Cc_DELIV_CNT c] { s with intc := t.intc } t)
  ∧ (∀ (s : State) (c : Nat) (v : Word) (x : Nat × Bool × Nat) (rest : List (Nat × Bool × Nat)), s.mainOn = true → c < 4 →
    (s.coreOf c).insvc = x :: rest → x.1 = fld v 10 0 →
    ∃ t, exec (.intcEoi c v) s = .next t ∧ (t.coreOf c).insvc = rest ∧ State.Differs [] s t)
  ∧ (∀ (s : State) (c : Nat) (v : Word), s.mainOn = true → c < 4 → (s.coreOf c).insvc.head?.map (·.1) ≠ some (fld v 10 0) →
    ∃ t, exec (.intcEoi c v) s = .next t ∧ (t.coreOf c).insvc = (s.coreOf c).insvc ∧ t.flag R.INTC_STATUS 0 = true
      ∧ State.Differs [R.INTC_STATUS] s t)
  ∧ (∀ (s : State) (k : Nat) (v : Word), s.mainOn = true → State.srcExists k = true →
    ∃ t, exec (.intcSrcWrite k v) s = .next t ∧ t.srcCfg k = v &&& (if 1664 ≤ k then 0xF8FF80FF else 0xD8FF80FF)
      ∧ (∀ j, j ≠ k → t.srcCfg j = s.srcCfg j) ∧ t.intc.mask = s.intc.mask ∧ (bit v 31 = false → t.isPend k = false)
      ∧ State.Differs [] { s with intc := t.intc, badLive := t.badLive } t)
  ∧ (∀ (s : State) (w i : Nat) (v : Word), s.mainOn = true → w < 64 → i < 32 →
    ∃ t, exec (.intcPendWrite w v) s = .next t ∧ (bit v i = true → s.srcEn (32 * w + i) = true → t.isPend (32 * w + i) = true)
      ∧ (bit v i = false → s.level (32 * w + i) = false ∨ s.srcEdge (32 * w + i) = true → t.isPend (32 * w + i) = false)
      ∧ State.Differs [] s t)

/-- R436, R438, R442, R443, R414: moderation and messages. A full window releases what is deliverable and counts; an idle core that is offered
nothing sleeps; the rise of a vector sends its message with the address and data of its table entry, and one that is masked
waits in the PBA; a rise held back is sent when the moderation time ends, or waits where messages cannot be sent; a rise of RP to the
priority of an offered fast source withdraws the offer (R438). -/
def moderation : Prop :=
  (∀ (s : State) (c : Nat), s.mainOn = true → c < 4 → (s.coreOf c).window ≠ [] → s.modCount c ≤ (s.coreOf c).window.length →
    ∃ t, exec (.intcModRelease c) s = .next t ∧ t.reg (R.INTC_Cc_HOLD_CNT c) = s.reg (R.INTC_Cc_HOLD_CNT c) + 1
      ∧ (∀ k ∈ (s.coreOf c).window, s.deliverable k c = true → k ∈ (t.coreOf c).released ∧ k ∉ (t.coreOf c).window)
      ∧ State.Differs [R.INTC_Cc_HOLD_CNT c] s t)
  ∧ (∀ (s : State) (c : Nat), s.mainOn = true → c < 4 → (s.coreOf c).window ≠ [] → (s.coreOf c).window.length < s.modCount c →
    ∃ t, exec (.intcModRelease c) s = .next t
      ∧ t.time.frc = max s.time.frc ((s.coreOf c).opened + atLeast1 (s.field (R.INTC_Cc_MOD c) 31 16) * 1250)
      ∧ (∀ k ∈ (s.coreOf c).window, s.deliverable k c = true → k ∈ (t.coreOf c).released ∧ k ∉ (t.coreOf c).window)
      ∧ State.Differs [R.INTC_Cc_HOLD_CNT c] { s with time := t.time } t)
  ∧ (∀ (s : State) (c : Nat), s.mainOn = true → c < 4 → (s.coreOf c).insvc = [] → (s.coreOf c).offer = none →
    (s.setCore c { s.coreOf c with sleeping := true }).offerSource = none →
    ∃ t, exec (.intcCoreIdle c) s = .next t
      ∧ { t.coreOf c with released := [] } = { s.coreOf c with sleeping := true, released := [] } ∧ State.Differs [] s t)
  ∧ (∀ (s : State) (v : Nat), s.mainOn = true → v < 256 → s.host.up = true → s.host.msixEn = true → s.host.funcMask = false →
    s.vecCond v = true → v ∉ s.intc.risen → v ∉ s.host.pba → s.isQuiet v = false → bit (s.msixWord v 3) 0 = false →
    ∃ t, exec (.msixMessage v) s = .next t
      ∧ t.out = [.msix v ((s.msixWord v 1).toNat * 2 ^ 32 + (s.msixWord v 0).toNat) (s.msixWord v 2).toNat]
      ∧ v ∈ t.intc.risen ∧ t.intc.quiet.lookup v = some s.time.frc ∧ State.Differs [] { s with host := t.host } t)
  ∧ (∀ (s : State) (v : Nat), s.mainOn = true → v < 256 → s.host.up = true → s.host.msixEn = true → s.vecCond v = true → v ∉ s.intc.risen →
    v ∉ s.host.pba → s.isQuiet v = false → (s.host.funcMask = true ∨ bit (s.msixWord v 3) 0 = true) →
    ∃ t, exec (.msixMessage v) s = .next t ∧ t.out = [] ∧ t.host = { s.host with pba := s.host.pba ++ [v] }
      ∧ State.Differs [] { s with host := t.host } t)
  ∧ (∀ (s : State) (v a : Nat), s.mainOn = true → s.intc.quiet.lookup v = some a → v ∈ s.intc.held → s.vecCond v = true →
    s.host.up = true → s.host.msixEn = true → s.host.funcMask = false → bit (s.msixWord v 3) 0 = false →
    ∃ t, exec (.msixModExpiry v) s = .next t ∧ t.time.frc = max s.time.frc (a + s.msixTime)
      ∧ t.out = [.msix v ((s.msixWord v 1).toNat * 2 ^ 32 + (s.msixWord v 0).toNat) (s.msixWord v 2).toNat]
      ∧ State.Differs [] { s with host := t.host, time := t.time } t)
  ∧ (∀ (s : State) (v a : Nat), s.mainOn = true → s.intc.quiet.lookup v = some a → s.host.up = false ∨ s.host.msixEn = false →
    ∃ t, exec (.msixModExpiry v) s = .next t ∧ t.out = [] ∧ v ∉ t.intc.held ∧ t.time.frc = max s.time.frc (a + s.msixTime)
      ∧ State.Differs [] { s with time := t.time } t)
  ∧ (∀ (s : State) (c k : Nat) (v : Word), s.mainOn = true → c < 4 → (s.coreOf c).offer = some k → s.isFast k = true → s.rp c < s.prioOf k →
    (s.coreOf c).insvc = [] → s.prioOf k ≤ fld v 3 0 → s.OfferRule →
    ∃ t, exec (.registerWrite .host (R.INTC_Cc_TPR c) v 15) s = .next t ∧ (t.coreOf c).offer ≠ some k
      ∧ t.reg R.INTC_REROUTE_CNT = s.reg R.INTC_REROUTE_CNT + 1)

/-- R436, R437, R442, R443, R414: which source is offered first, moderation, sleep and messages. -/
def Obligations.OfferOrderAndModeration : Prop := offerOrder ∧ moderation

/-- R450: a brace frame, MAGIC first. -/
def braceFrame (type bstate seq src : Nat) (e : Epoch) (p : Bytes) : Bytes :=
  let h := beBytes 2 0x4252 ++ [1] ++ beBytes 1 type ++ beBytes 1 bstate ++ [0] ++ beBytes 2 p.length ++ beBytes 4 e.toNat ++ beBytes 2 seq ++ beBytes 2 src
  h ++ p ++ beBytes 4 (crc32c (h ++ p))

/-- R451, R369: a brace port takes frames in, and brace is enabled. -/
abbrev braceHears (s : State) : Prop := s.braceOn = true ∧ (s.rxReady 30 = true ∨ s.rxReady 31 = true)

/-- R451: a frame of a partner of number seq is taken: brace is enabled, it is not the device's own, and its SEQ is ahead of the last. -/
abbrev braceTakes (s : State) (seq src b : Nat) (p : Bytes) : Prop :=
  braceHears s ∧ src < 65536 ∧ src ≠ s.devId ∧ seq < 65536 ∧ b < 256 ∧ p.length < 9041
    ∧ ∀ k, s.brace.rxSeq = some k → 1 ≤ (seq + 65536 - k) % 65536 ∧ (seq + 65536 - k) % 65536 ≤ 32767

/-- R451: what the acceptance of a frame of number seq leaves. -/
def heardSeq (s : State) (seq : Nat) : BraceSt := { s.brace with framed := true, heard := some s.time.epoch, rxSeq := some seq }

/-- R450: the frame that carries a payload of a type to the partner from port n. -/
def braceTx (s : State) (n type : Nat) (p : Bytes) : TxFrame :=
  { queue := 5, bytes := s.ether n (beBytes 6 0x034B5A425200) none (s.field R.BRACE_ETHERTYPE 15 0)
                   (braceFrame type s.braceCode s.brace.txSeq s.devId s.time.epoch p) }

/-- R450: t is s with one more brace frame queued on both brace ports and the blocks that l does not name as in s. -/
def braceSent (s : State) (type : Nat) (p : Bytes) (t : State) : Prop :=
  (t.macOf 30).txq = (s.macOf 30).txq ++ [braceTx s 30 type p] ∧ (t.macOf 31).txq = (s.macOf 31).txq ++ [braceTx s 31 type p]
    ∧ (∀ n, n ≠ 30 → n ≠ 31 → t.macOf n = s.macOf n) ∧ t.brace.txSeq = (s.brace.txSeq + 1) % 65536

/-- R449–R454, R457, R461–R463: frames of the partner. A STATE is kept with its health and epoch and compared with the own STATE of its
epoch: the last of SYNC_N matches makes a joining device STANDBY, and renders that differ from equal inputs count as a mismatch;
a RELEASE schedules a takeover and a HANDOVER names its epoch in a STANDBY device; a frame too short is bad; a repeated one counts. -/
def Obligations.PartnerFrames : Prop :=
  (∀ (s : State) (q src b : Nat) (e : Epoch) (p : Bytes), s.mainOn = true → braceTakes s q src b p → p.length = 128 → s.brace.state = .standby →
    s.sheafEn = false → s.brace.confirmed = false → s.brace.own = [] →
    ∃ t, exec (.braceStateRx (braceFrame 1 b q src e p)) s = .next t
      ∧ t.brace = { heardSeq s q with
          theirs := (State.StateMsg.read src b p :: s.brace.theirs).take 4
          stateAt := some s.time.epoch }
      ∧ t.reg R.BRACE_PHEALTH = w32 (beAt p 0x20 4) ∧ t.reg R.BRACE_PEPOCH = w32 (beAt p 0 4)
      ∧ State.Differs [R.BRACE_PHEALTH, R.BRACE_PEPOCH, R.BRACE_STATUS] { s with brace := t.brace } t)
  ∧ (∀ (s : State) (q src b : Nat) (e : Epoch) (p : Bytes) (m : StateMsg), s.mainOn = true → braceTakes s q src b p → p.length = 128 →
    s.brace.state = .sync → s.sheafEn = false → s.brace.confirmed = false → s.brace.own = [m] → m.r = w32 (beAt p 0 4) →
    State.stateMatch m (State.StateMsg.read src b p) = true → State.joinMatch m (State.StateMsg.read src b p) = true →
    atLeast1 (s.field R.BRACE_SYNC_N 7 0) ≤ s.brace.matched + 1 →
    ∃ t, exec (.braceStateRx (braceFrame 1 b q src e p)) s = .next t ∧ t.brace.state = .standby ∧ t.flag R.BRACE_STATUS 0 = true
      ∧ t.reg R.BRACE_MATCH_CNT = s.reg R.BRACE_MATCH_CNT + 1
      ∧ State.Differs [R.BRACE_PHEALTH, R.BRACE_PEPOCH, R.BRACE_STATUS, R.BRACE_MATCH_CNT] { s with brace := t.brace } t)
  ∧ (∀ (s : State) (q src b : Nat) (e : Epoch) (p : Bytes) (m : StateMsg), s.mainOn = true → braceTakes s q src b p → p.length = 128 →
    s.brace.state = .standby → s.sheafEn = false → s.brace.confirmed = false → s.brace.own = [m] → m.r = w32 (beAt p 0 4) →
    State.stateMatch m (State.StateMsg.read src b p) = false → m.inputCrc = beAt p 0x18 4 → m.ingestSrc = beAt p 0x1C 4 →
    m.graphGen = w32 (beAt p 0x24 4) → m.calibGen = w32 (beAt p 0x28 4) →
    ∃ t, exec (.braceStateRx (braceFrame 1 b q src e p)) s = .next t ∧ t.brace.confirm = true ∧ t.flag R.BRACE_STATUS 3 = true
      ∧ t.reg R.BRACE_MISMATCH_CNT = s.reg R.BRACE_MISMATCH_CNT + 1 ∧ t.reg R.BRACE_LAST_MISMATCH = m.r)
  ∧ (∀ (s : State) (q src b : Nat) (e : Epoch) (p : Bytes), s.mainOn = true → braceTakes s q src b p → p.length = 4 → s.brace.state = .standby →
    s.brace.takeover = none →
    ∃ t, exec (.braceReleaseRx (braceFrame 2 b q src e p)) s = .next t ∧ t.brace = { heardSeq s q with takeover := some s.time.frc }
      ∧ State.Differs [] { s with brace := t.brace } t)
  ∧ (∀ (s : State) (q src b : Nat) (e f : Epoch), s.mainOn = true → braceTakes s q src b [] → s.brace.state = .standby →
    ∃ t, exec (.braceHandoverRx (braceFrame 3 b q src e (beBytes 4 f.toNat))) s = .next t ∧ t.brace = { heardSeq s q with handover := some f }
      ∧ State.Differs [] { s with brace := t.brace } t)
  ∧ (∀ (s : State) (l : Bytes), s.mainOn = true → braceHears s → l.length < 20 →
    ∃ t, exec (.braceStateRx l) s = .next t ∧ t.reg R.BRACE_RX_BAD_CNT = s.reg R.BRACE_RX_BAD_CNT + 1
      ∧ State.Differs [R.BRACE_RX_BAD_CNT] s t)
  ∧ (∀ (s : State) (q src b : Nat) (e : Epoch) (p : Bytes), s.mainOn = true → braceHears s → src < 65536 → src ≠ s.devId → q < 65536 →
    p.length = 4 → s.brace.rxSeq = some q →
    ∃ t, exec (.braceReleaseRx (braceFrame 2 b q src e p)) s = .next t ∧ t.reg R.BRACE_DUP_CNT = s.reg R.BRACE_DUP_CNT + 1
      ∧ t.brace = { s.brace with framed := true, heard := some s.time.epoch } ∧ State.Differs [R.BRACE_DUP_CNT] { s with brace := t.brace } t)

/-- R458, R466: forwarded ECHO frames and far-bridge traffic between the devices. A forwarded REPORT waits for the boundary two epochs
after its acceptance, and one that comes later counts as late; a read request is answered with the register's word and one for the security window with BAD_ADDRESS; the
partner's answer ends the piece that waits for it. -/
def Obligations.PartnerTraffic : Prop :=
  (∀ (s : State) (q src b port : Nat) (e a : Epoch) (p fr : Bytes), s.mainOn = true → braceTakes s q src b p → s.brace.state = .standby →
    State.fwdEntries (p.length + 1) p = some [(port, a, fr)] → p ≠ [] → (VcnRx.read fr).sub = 0 → State.repOk (VcnRx.read fr).payload = true →
    reached (a + 2) s.time.epoch = false → s.verEn = false → (s.routeOf (VcnRx.read fr).src).port = port →
    ∃ t, exec (.echoFwdRx (braceFrame 4 b q src e p)) s = .next t
      ∧ t.brace.deferred = s.brace.deferred
          ++ [{ due := a + 2, tile := (VcnRx.read fr).src, epoch := (VcnRx.read fr).epoch, payload := (VcnRx.read fr).payload }]
      ∧ t.reg R.VCN_RX_ECHO_CNT = s.reg R.VCN_RX_ECHO_CNT + 1)
  ∧ (∀ (s : State) (q src b addr tag : Nat) (e : Epoch), s.mainOn = true → braceTakes s q src b [] → addr % 4 = 0 → addr < 2 ^ 26 → tag < 65536 →
    State.partnerRefused addr = false →
    let u := State.busRead { s.begun with brace := heardSeq s q } addr
    ∃ t, exec (.farReqRx (braceFrame 5 b q src e (State.opHeader addr tag 0 0 4))) s = .next t
      ∧ braceSent u 6 (State.opHeader addr tag 0 0 4 ++ leBytes 4 u.bus.toNat) t
      ∧ State.SameBlocks { u with brace := t.brace, mac := t.mac } t)
  ∧ (∀ (s : State) (q src b addr tag : Nat) (e : Epoch), s.mainOn = true → braceTakes s q src b [] → addr % 4 = 0 → addr / 0x10000 = 0x20 →
    tag < 65536 →
    ∃ t, exec (.farReqRx (braceFrame 5 b q src e (State.opHeader addr tag 0 0 4))) s = .next t
      ∧ braceSent { s with brace := heardSeq s q } 6 (State.opHeader addr tag 0 3 4) t
      ∧ State.Differs [] { s with brace := t.brace, mac := t.mac } t)
  ∧ (∀ (s : State) (q src b r : Nat) (e : Epoch) (c : Cmd) (o : FarOp) (x : Piece), s.mainOn = true → braceTakes s q src b [] → s.far.ops = [o] →
    o.target = 0x8000 → o.write = true → o.posted = false → o.prefetch = false → o.pieces = [x] → x.sentAt.isSome = true → x.res = none →
    o.owner = some (r, c.idx) → onlyCmd s r c → State.farTag o.win x.serial < 0x8000 → x.addr < 2 ^ 32 → x.bytes < 65536 →
    ∃ t, exec (.farRspRx (braceFrame 6 b q src e (State.opHeader x.addr (State.farTag o.win x.serial) 0 0 x.bytes))) s = .next t
      ∧ completedAs { s with brace := heardSeq s q, far := { s.far with ops := [] } } r c 0 o.len 0 0 [] t)
  ∧ (∀ (s : State) (q src b port : Nat) (e a : Epoch) (p fr : Bytes), s.mainOn = true → braceTakes s q src b p → s.brace.state = .standby →
    State.fwdEntries (p.length + 1) p = some [(port, a, fr)] → p ≠ [] → (VcnRx.read fr).sub = 0 → State.repOk (VcnRx.read fr).payload = true →
    reached (a + 2) s.time.epoch = true → s.verEn = false → (s.routeOf (VcnRx.read fr).src).port = port →
    ∃ t, exec (.echoFwdRx (braceFrame 4 b q src e p)) s = .next t ∧ t.brace = heardSeq s q
      ∧ t.reg R.BRACE_FWD_LATE_CNT = s.reg R.BRACE_FWD_LATE_CNT + 1)

/-- R460: no posted tile write waits for frames of its own to leave. -/
def noPosted (s : State) : Bool := s.mac.port.all (fun x => x.2.txq.all (fun f => match f.use with
  | .far _ _ _ _ _ => false
  | _ => true))

/-- R460: after a release no far-bridge frame to a tile, and no other but a fragment, waits on a port that is no brace port. -/
def noneToTiles (s t : State) : Prop := ∀ n, s.bracePort n = false → ∀ f ∈ (t.macOf n).txq, State.isCfgFrame f = false ∧ State.isHeelFrame f = false

/-- R449, R452, R459, R460, R462: sidebands, silence and release. The waiting STATE leaves; an edge of SB3 is measured against the nearer
boundary; a fall of SB2 in a STANDBY device that was hearing its partner, and BRACE_MISS silent boundaries, schedule a takeover;
a device that seeks in silence becomes ACTIVE; an unmaskable fault of an ACTIVE device with a ready partner releases control, and
without one is shown. The inputs BRACE_SB2 and BRACE_SB3 as levels: a rise of SB2 is its level, a fall schedules the takeover, and a
level of SB3 other than the last one is its edge. -/
def Obligations.SidebandsAndRelease : Prop :=
  (∀ (s : State) (m : StateMsg), s.mainOn = true → s.brace.toSend = some m →
    ∃ t, exec .braceStateSend s = .next t ∧ t.brace = { s.brace with toSend := none, txSeq := (s.brace.txSeq + 1) % 65536 }
      ∧ braceSent s 1 (State.StateMsg.bytes m) t ∧ State.Differs [] { s with brace := t.brace, mac := t.mac } t)
  ∧ (∀ s : State, s.mainOn = true → s.braceOn = true →
    let a := -(-s.time.mark.1 / s.time.mark.2)
    let near := if s.lt - a ≤ s.nextInstant - s.lt then a else s.nextInstant
    let skew := (s.lt - near) / State.uNs - (s.reg R.BRACE_SB_DLY).toInt
    ∃ t, exec .braceSb3Edge s = .next t ∧ t.brace = { s.brace with sb3 := !s.brace.sb3, toggled := true, still := 0 }
      ∧ t.reg R.BRACE_SKEW = i32 skew
      ∧ t.flag R.BRACE_STATUS 12 = (s.flag R.BRACE_STATUS 12 || decide (s.field R.BRACE_SKEW_MAX 15 0 < skew.natAbs))
      ∧ State.Differs [R.BRACE_SKEW, R.BRACE_STATUS] { s with brace := t.brace } t)
  ∧ (∀ s : State, s.mainOn = true → s.braceOn = true → s.brace.toggled = true → s.brace.state = .standby → s.brace.takeover = none →
    ∃ t, exec .braceSb2Fall s = .next t ∧ t.brace = { s.brace with sb2 := false, takeover := some s.time.frc }
      ∧ State.Differs [] { s with brace := t.brace } t)
  ∧ (∀ s : State, s.mainOn = true → s.brace.state = .standby → s.braceMiss ≤ s.brace.quiet → s.brace.toggled = false → s.brace.framed = false →
    State.healthyWord s.healthWord = true → s.brace.takeover = none →
    ∃ t, exec .partnerLost s = .next t ∧ t.brace = { s.brace with takeover := some s.time.frc } ∧ t.flag R.BRACE_STATUS 6 = true
      ∧ State.Differs [R.BRACE_STATUS] { s with brace := t.brace } t)
  ∧ (∀ s : State, s.mainOn = true → s.brace.state = .seek → atLeast1 (s.field R.BRACE_SEEK_TMO 15 0) ≤ s.brace.quiet →
    s.brace.toggled = false → s.brace.framed = false →
    ∃ t, exec .seekTimeout s = .next t ∧ t.brace.state = .active ∧ t.out = [.sideband true 0] ∧ t.reg R.BRACE_ACTIVE_EPOCHS = 0
      ∧ t.flag R.BRACE_STATUS 0 = true ∧ State.Differs [R.BRACE_ACTIVE_EPOCHS, R.BRACE_STATUS] { s with brace := t.brace } t)
  ∧ (∀ (s : State) (c : Nat) (rest : List Nat), s.mainOn = true → s.brace.faults = c :: rest → s.brace.state = .active → s.partnerReady = true →
    s.far.ops = [] → noPosted s = true → s.flag R.BRACE_CMD_STAT 8 = false →
    ∃ t, exec .braceRelease s = .next t ∧ noneToTiles s t ∧ t.brace.state = .released ∧ t.brace.cause = c ∧ t.brace.faults = [] ∧ t.out = [.sideband false 0]
      ∧ braceTx { s with brace := { s.brace with cause := c } } 30 2 (beBytes 1 c ++ [0, 0, 0]) ∈ (t.macOf 30).txq
      ∧ t.reg R.BRACE_RELEASE_CNT = s.reg R.BRACE_RELEASE_CNT + 1 ∧ t.flag R.BRACE_STATUS 1 = true
      ∧ State.Differs [R.BRACE_RELEASE_CNT, R.BRACE_STATUS, R.VCN_RESEND_DENIED_CNT, R.VCN_STATUS] { s with brace := t.brace, mac := t.mac, vocon := t.vocon } t)
  ∧ (∀ (s : State) (c : Nat) (rest : List Nat), s.mainOn = true → s.brace.faults = c :: rest → s.brace.state = .active → s.partnerReady = false →
    c ≠ 7 →
    ∃ t, exec .braceRelease s = .next t ∧ t.brace = { s.brace with faults := rest } ∧ t.flag R.BRACE_STATUS 8 = true
      ∧ State.Differs [R.BRACE_STATUS] { s with brace := t.brace } t)
  ∧ (∀ (s : State) (x : BallEdge), s.mainOn = true → x.level = true →
    ∃ t, exec (.pinInterruptEdge 66 x) s = .next t ∧ State.Differs [] { s with brace := { s.brace with sb2 := true } } t)
  ∧ (∀ (s : State) (x : BallEdge), s.mainOn = true → x.level = false → s.brace.sb2 = true → s.braceOn = true → s.brace.still < s.braceMiss →
    s.brace.state = .standby → s.brace.takeover = none →
    ∃ t, exec (.pinInterruptEdge 66 x) s = .next t
      ∧ State.Differs [] { s with brace := { s.brace with sb2 := false, takeover := some s.time.frc } } t)
  ∧ (∀ (s : State) (x : BallEdge), s.mainOn = true →
    ∃ t, exec (.pinInterruptEdge 67 x) s = .next t ∧ t.brace.sb3 = x.level
      ∧ (if x.level = s.brace.sb3 then State.Differs [] s t
         else t.brace = { s.brace with sb3 := x.level, toggled := true, still := 0 }
           ∧ State.Differs [R.BRACE_SKEW, R.BRACE_STATUS] { s with brace := t.brace } t))

/-- R456, R549: brace and the background work are enabled, the epoch's frame does not run any more, and no known-answer test has run in it. -/
abbrev katDue (s : State) : Prop := s.braceOn = true ∧ s.flag R.WIN_CTRL 0 = true ∧ s.frameRuns = false ∧ s.brace.katRan = false

/-- R456, R457, R459, R460, R463, R468: the brace commands and the self-test. RELEASE gives up control with cause 5; HANDOVER sends its frame and
runs; REJOIN leads back to SEEK, as a command and as a descriptor; a passed known-answer test goes on to the next engine and a
failed one faults it; a confirmation test that passed waits for the partner, one that failed is a fault of an ACTIVE device. -/
def Obligations.BraceCommands : Prop :=
  (∀ s : State, s.mainOn = true → s.brace.state = .active → s.partnerReady = true → s.far.ops = [] → noPosted s = true → s.flag R.BRACE_CMD_STAT 8 = false →
    s.brace.handover = none →
    ∃ t, exec .braceCmdRelease s = .next t ∧ noneToTiles s t ∧ t.brace.state = .released ∧ t.brace.cause = 5 ∧ t.reg R.BRACE_CMD_STAT = 0
      ∧ t.out = [.sideband false 0] ∧ t.reg R.BRACE_RELEASE_CNT = s.reg R.BRACE_RELEASE_CNT + 1 ∧ t.flag R.BRACE_STATUS 1 = true
      ∧ State.Differs [R.BRACE_CMD_STAT, R.BRACE_RELEASE_CNT, R.BRACE_STATUS, R.VCN_RESEND_DENIED_CNT,
        R.VCN_STATUS] { s with brace := t.brace, mac := t.mac, vocon := t.vocon } t)
  ∧ (∀ s : State, s.mainOn = true → 2 ≤ (s.reg R.BRACE_CMD_EPOCH - s.time.epoch).toNat → (s.reg R.BRACE_CMD_EPOCH - s.time.epoch).toNat < 2 ^ 31 →
    s.brace.state = .active → s.partnerReady = true → s.brace.handover = none →
    ∃ t, exec .braceCmdHandover s = .next t ∧ t.reg R.BRACE_CMD_STAT = 256
      ∧ t.brace = { s.brace with handover := some (s.reg R.BRACE_CMD_EPOCH), owner := none, txSeq := (s.brace.txSeq + 1) % 65536 }
      ∧ braceSent s 3 (beBytes 4 (s.reg R.BRACE_CMD_EPOCH).toNat) t
      ∧ State.Differs [R.BRACE_CMD_STAT] { s with brace := t.brace, mac := t.mac } t)
  ∧ (∀ s : State, s.mainOn = true → s.brace.state ≠ .active → s.brace.handover = none →
    2 ≤ (s.reg R.BRACE_CMD_EPOCH - s.time.epoch).toNat → (s.reg R.BRACE_CMD_EPOCH - s.time.epoch).toNat < 2 ^ 31 →
    ∃ t, exec .braceCmdHandover s = .next t ∧ t.reg R.BRACE_CMD_STAT = 5 ∧ State.Differs [R.BRACE_CMD_STAT] s t)
  ∧ (∀ s : State, s.mainOn = true → s.brace.state = .released → s.brace.handover = none →
    ∃ t, exec .braceCmdRejoin s = .next t ∧ t.brace.state = .seek ∧ t.reg R.BRACE_CMD_STAT = 0 ∧ t.flag R.BRACE_STATUS 0 = true
      ∧ State.Differs [R.BRACE_CMD_STAT, R.BRACE_STATUS] { s with brace := t.brace } t)
  ∧ (∀ (s : State) (r : Nat) (c : Cmd), s.mainOn = true → readyCmd s r 0x3C c → fld (c.desc.args.getD 0 0) 3 0 = 3 → s.brace.state = .released →
    s.brace.handover = none →
    ∃ t, exec (.braceOp r) s = .next t ∧ t.brace.state = .seek ∧ t.reg R.BRACE_CMD_STAT = 0
      ∧ completedAs { s with brace := t.brace } r c 0 0 0 0 [R.BRACE_CMD_STAT, R.BRACE_STATUS] t)
  ∧ (∀ s : State, s.mainOn = true → katDue s → s.brace.katPassed + 1 < 16 →
    ∃ t, exec (.katRun true) s = .next t
      ∧ t.brace = { s.brace with katNext := (s.brace.katNext + 1) % 16, katRan := true, katPassed := s.brace.katPassed + 1,
                                 katFail := s.brace.katFail.filter (· != s.brace.katNext) }
      ∧ t.winnow = { s.winnow with kat := s.winnow.kat.map (·.filter (· != s.brace.katNext)) }
      ∧ State.Differs [] { s with brace := t.brace, winnow := t.winnow } t)
  ∧ (∀ s : State, s.mainOn = true → katDue s → s.brace.katPassed = 15 →
    ∃ t, exec (.katRun true) s = .next t ∧ t.brace.katPassed = 0 ∧ t.brace.katCycle = some s.time.epoch
      ∧ State.Differs [] { s with brace := t.brace, winnow := t.winnow } t)
  ∧ (∀ s : State, s.mainOn = true → katDue s → s.brace.katNext < 16 → s.brace.state ≠ .active →
    ∃ t, exec (.katRun false) s = .next t ∧ s.brace.katNext ∈ t.brace.katFail ∧ t.brace.katNext = (s.brace.katNext + 1) % 16
      ∧ t.flag (R.REn_STATUS s.brace.katNext) 0 = true ∧ t.flag R.KNL_STATUS 6 = true ∧ (t.engineOf s.brace.katNext).held = true)
  ∧ (∀ s : State, s.mainOn = true → s.brace.confirm = true → s.frameRuns = false →
    ∃ t, exec (.confirmationTestDone []) s = .next t ∧ t.brace = { s.brace with confirm := false, confirmed := true, katFail := [] }
      ∧ State.Differs [] { s with brace := t.brace } t)
  ∧ (∀ (s : State) (e : Nat), s.mainOn = true → s.brace.confirm = true → s.frameRuns = false → e < 16 → s.brace.state = .active →
    ∃ t, exec (.confirmationTestDone [e]) s = .next t
      ∧ t.brace = { s.brace with confirm := false, confirmed := false, katFail := [e], faults := s.brace.faults ++ [4] }
      ∧ State.Differs [] { s with brace := t.brace } t)

/-- R477–R479, R50: the arm that a command leaves: its epoch, generation and groups, its targets, and a staging copy of each group. -/
def armOf (s : State) (e : Epoch) (g w : Word) (o : Option (Nat × Nat)) : Arm :=
  { epoch := e, gen := g, groups := fld w 15 0, calib := false, tilesOnly := bit w 17, targets := s.armTargets (bit w 17),
    staged := (State.groupList (fld w 15 0)).map (fun k => (k, s.stageOf k)), owner := o }

/-- R470–R472, R482: class digests. A finished computation gives its class its digest; a sweep, SHEAF_SWEEP seconds after the one before, starts classes 2 to 4, and RECOMPUTE all
five, over the class's bytes as they stand. -/
def Obligations.SheafDigests : Prop :=
  (∀ (s : State) (c d : Nat), s.mainOn = true → s.sheaf.busy.lookup c = some d →
    ∃ t, exec (.classDigestDone c) s = .next t ∧ Sparse.get 0 t.sheaf.cls c = d ∧ t.sheaf.busy.lookup c = none
      ∧ (∀ k, k ≠ c → Sparse.get 0 t.sheaf.cls k = Sparse.get 0 s.sheaf.cls k ∧ t.sheaf.busy.lookup k = s.sheaf.busy.lookup k)
      ∧ State.Differs [] { s with sheaf := t.sheaf } t)
  ∧ (∀ (s : State), s.mainOn = true → s.sheafEn = true →
    ∃ t, exec .sheafSweep s = .next t ∧ (∀ c ∈ [2, 3, 4], t.sheaf.busy.lookup c = some (Config.sha256 (s.classBytes c)))
      ∧ (∀ c, c ∉ [2, 3, 4] → t.sheaf.busy.lookup c = s.sheaf.busy.lookup c)
      ∧ t.time.frc = max s.time.frc (s.sheaf.sweepAt + atLeast1 (s.field R.SHEAF_SWEEP 15 0) * 1250000000)
      ∧ State.Differs [] { s with time := { s.time with frc := t.time.frc }
                                  sheaf := { s.sheaf with busy := t.sheaf.busy, sweepAt := t.time.frc } } t)
  ∧ (∀ (s : State), s.mainOn = true → s.sheafEn = true →
    ∃ t, exec .sheafRecompute s = .next t ∧ (∀ c, c < 5 → t.sheaf.busy.lookup c = some (Config.sha256 (s.classBytes c)))
      ∧ t.field R.SHEAF_STAT 7 0 = 0 ∧ State.Differs [R.SHEAF_STAT] { s with sheaf := { s.sheaf with busy := t.sheaf.busy } } t)
  ∧ (∀ (s : State) (r : Nat) (c : Cmd), s.mainOn = true → readyCmd s r 0x32 c → s.sheafEn = true →
    ∃ t, exec (.sheafOpRecompute r) s = .next t ∧ (∀ k, k < 5 → t.sheaf.busy.lookup k = some (Config.sha256 (s.classBytes k)))
      ∧ t.sheaf.waiters = s.sheaf.waiters ++ [(r, c.idx)] ∧ t.field R.SHEAF_STAT 7 0 = 0
      ∧ ringOnly { s with sheaf := t.sheaf } r { s.ringOf r with cmds := [{ c with started := true, work := .sheaf }] } [R.SHEAF_STAT] t)

/-- R477–R479, R482: arming. A command that R478 does not refuse arms its epoch with the tiles it waits for and the staged groups; one
that it refuses shows its status; a disarm takes the arm back; the same as descriptors. -/
def Obligations.SheafArming : Prop :=
  (∀ (s : State), s.mainOn = true → s.host.ring = [] →
    s.armRefused (s.reg R.SHEAF_ARM_EPOCH) (s.reg R.SHEAF_ARM_GEN) (s.reg R.SHEAF_ARM_GROUPS) = none → s.flag R.SHEAF_ARM_GROUPS 16 = false →
    ∃ t, exec .sheafArm s = .next t
      ∧ t.sheaf.arm = some (armOf s (s.reg R.SHEAF_ARM_EPOCH) (s.reg R.SHEAF_ARM_GEN) (s.reg R.SHEAF_ARM_GROUPS) none)
      ∧ t.reg R.SHEAF_ACKED = 0 ∧ t.field R.SHEAF_STAT 7 0 = 0
      ∧ t.staged = s.staged.filter (fun x => !(s.field R.SHEAF_ARM_GROUPS 15 0).testBit x.group) ∧ t.shadow = s.shadow ∧ t.time = s.time)
  ∧ (∀ (s : State) (st : Nat), s.mainOn = true →
    s.armRefused (s.reg R.SHEAF_ARM_EPOCH) (s.reg R.SHEAF_ARM_GEN) (s.reg R.SHEAF_ARM_GROUPS) = some st → s.flag R.SHEAF_ARM_GROUPS 16 = false →
    ∃ t, exec .sheafArm s = .next t ∧ t.field R.SHEAF_STAT 7 0 = st ∧ State.Differs [R.SHEAF_STAT] s t)
  ∧ (∀ (s : State) (a : Arm), s.mainOn = true → s.sheaf.arm = some a → a.calib = false → a.owner = none →
    ∃ t, exec .sheafDisarm s = .next t ∧ t.field R.SHEAF_STAT 7 0 = 0
      ∧ State.Differs [R.SHEAF_STAT] { s with sheaf := { s.sheaf with arm := none, noApply := some a.epoch } } t)
  ∧ (∀ (s : State) (r : Nat) (c : Cmd), s.mainOn = true → onlyCmd s r c → c.started = false → c.desc.opcode = 0x30 → s.host.ring = [(r, s.ringOf r)] →
    s.armRefused c.desc.epoch (State.arg c 0) (State.arg c 1) = none → bit (State.arg c 1) 16 = false →
    ∃ t, exec (.sheafOpArm r) s = .next t ∧ t.sheaf.arm = some (armOf s c.desc.epoch (State.arg c 0) (State.arg c 1) (some (r, c.idx)))
      ∧ t.reg R.SHEAF_ACKED = 0 ∧ t.field R.SHEAF_STAT 7 0 = 0
      ∧ t.ringOf r = { s.ringOf r with cmds := [{ c with started := true, work := .sheaf }] })
  ∧ (∀ (s : State) (r : Nat) (c : Cmd), s.mainOn = true → readyCmd s r 0x31 c → s.sheaf.arm = none →
    ∃ t, exec (.sheafOpDisarm r) s = .next t ∧ t.field R.SHEAF_STAT 7 0 = 0 ∧ completedAs s r c 0 0 0 0 [R.SHEAF_STAT] t)

/-- R476, R479: what a tile's REPORT does to Sheaf. It acknowledges the arm it carries, once; and a CHECK tile whose digest and
generation are the expected ones AGREEs, one of the present generation with another digest DIFFERs, one of an earlier generation
is BEHIND and one of a later generation AHEAD. -/
def sheafReports : Prop :=
  (∀ (s : State) (t : Nat) (a : Arm), s.sheaf.arm = some a → s.armTarget a t = true → t ∉ a.acked →
    (s.sheafAck t a.epoch a.gen).sheaf.arm = some { a with acked := t :: a.acked }
      ∧ (s.sheafAck t a.epoch a.gen).reg R.SHEAF_ACKED = s.reg R.SHEAF_ACKED + 1)
  ∧ (∀ (s : State) (t : Nat) (a : Arm) (e : Epoch) (g : Word), s.sheaf.arm = some a → (s.armTarget a t = false ∨ t ∈ a.acked ∨ e ≠ a.epoch ∨ g ≠ a.gen) →
    s.sheafAck t e g = s)
  ∧ (∀ (s : State) (t d : Nat) (g : Word),
    s.sheafJudge t d g = if g = s.reg R.SHEAF_GEN then (if d = s.rdLE (s.expEntry t + (if s.sheaf.expSel then 8 else 0)) 8 then 1 else 2)
      else if (s.reg R.SHEAF_GEN - g).toNat < 2 ^ 31 then 3 else 4)

/-- R479, R480: the decision of an arm at its epoch. With no more tiles missing than SHEAF_MAX_MISSING it is to be applied; with more it is
withheld, counted and answered TIMEOUT; before its epoch nothing happens. The tiles
counted are those that are TARGET at the decision (DEDUCED, in the assumption log). -/
def sheafDecisions : Prop :=
  (∀ (s : State) (a : Arm) (e : Epoch), s.sheaf.arm = some a → reached a.epoch e = true →
    (s.armNow a).targets.length - (s.armNow a).acked.length ≤ s.field R.SHEAF_MAX_MISSING 15 0 →
    (s.sheafDecide e).1 = some (s.armNow a) ∧ (s.sheafDecide e).2.sheaf.arm = none
      ∧ (s.sheafDecide e).2.reg R.SHEAF_TARGETS = w32 (s.armNow a).targets.length
      ∧ (s.sheafDecide e).2.reg R.SHEAF_ACKED = w32 (s.armNow a).acked.length)
  ∧ (∀ (s : State) (a : Arm) (e : Epoch), s.sheaf.arm = some a → reached a.epoch e = true → a.calib = false → a.owner = none →
    s.field R.SHEAF_MAX_MISSING 15 0 < (s.armNow a).targets.length - (s.armNow a).acked.length →
    (s.sheafDecide e).1 = none ∧ (s.sheafDecide e).2.sheaf = { s.sheaf with arm := none, noApply := some e }
      ∧ (s.sheafDecide e).2.reg R.SHEAF_WITHHOLD_CNT = s.reg R.SHEAF_WITHHOLD_CNT + 1
      ∧ (s.sheafDecide e).2.flag R.SHEAF_STATUS 1 = true ∧ (s.sheafDecide e).2.field R.SHEAF_STAT 7 0 = 7)
  ∧ (∀ (s : State) (a : Arm) (e : Epoch), s.sheaf.arm = some a → reached a.epoch e = false → s.sheafDecide e = (none, s))
  ∧ (∀ (s : State) (a : Arm), a.tilesOnly = false → (s.armNow a).targets = s.armTargets false
    ∧ ∀ t, t ∈ (s.armNow a).acked ↔ t ∈ a.acked ∧ t ∈ s.armTargets false)

/-- R476, R479, R480: what a tile's REPORT does to Sheaf, and how an arm is decided at its epoch. -/
def Obligations.SheafReportsAndDecision : Prop := sheafReports ∧ sheafDecisions

/-- R488: the key that KEY_LOAD and KEY_UNWRAP put into their slot. -/
def newKey (c : Cmd) (key : Bytes) (origin : Nat) : KeySlot := { engine := fld (State.arg c 1) 3 0, key := key, origin := origin }

/-- R493, R496: command c stands ready on ring r, the security core has started, and no other ring's key command was fetched before it. -/
abbrev keyReady (s : State) (r op : Nat) (c : Cmd) : Prop := s.sec.state ≠ .booting ∧ readyCmd s r op c ∧ s.keyTurn c = true

/-- R488, R493–R496, R499, R502: the key commands, once the security core has started. A key that is not refused enters its slot, read from
the owner's memory or unwrapped under a key-encryption key; a blob that does not unwrap is CHECK_FAIL; an erased slot is empty; KEY_INFO
answers attributes and check value; TAMPER_CLEAR answers and clears the latch; DEBUG_CLOSE blows its fuse; under a held latch KEY_LOAD
is TAMPERED, as under a latched event; a key command that another ring's was fetched before waits. -/
def Obligations.KeyCommands : Prop :=
  (∀ (s : State) (r : Nat) (c : Cmd), s.mainOn = true → keyReady s r 0x40 c → s.keyRefusal r c false = none →
    bit (State.arg c 2) 0 = false →
    ∃ t, exec (.keyLoad r true) s = .next t ∧ t.slotAt (State.arg c 0).toNat = some (newKey c (s.ownRead r c.desc.addr c.desc.len) 2)
      ∧ (∀ n, n ≠ (State.arg c 0).toNat → t.slotAt n = s.slotAt n) ∧ t.sec.stored = s.sec.stored
      ∧ t.reg R.SEC_OP_CNT = s.reg R.SEC_OP_CNT + 1 ∧ completedAs { s with sec := t.sec } r c 0 0 0 0 [R.SEC_OP_CNT] t)
  ∧ (∀ (s : State) (r : Nat) (c : Cmd) (k : KeySlot), s.mainOn = true → keyReady s r 0x41 c →
    s.keyRefusal r c true = none → bit (State.arg c 2) 0 = true → s.slotAt (fld (State.arg c 3) 5 0) = some k →
    ∃ t, exec (.keyUnwrap r true) s = .next t ∧ match Config.kwUnwrap k.key (s.ownRead r c.desc.addr c.desc.len) with
      | some key => t.slotAt (State.arg c 0).toNat = some (newKey c (slice key 0 (c.desc.len - 8)) 3)
          ∧ (∀ n, n ≠ (State.arg c 0).toNat → t.slotAt n = s.slotAt n)
          ∧ t.sec.stored.lookup (State.arg c 0).toNat = some { slot := newKey c (slice key 0 (c.desc.len - 8)) 3
                                                               wrapped := Config.kwWrap (Config.persistKey (s.sec.secret.getD 0))
                                                                 (slice key 0 (c.desc.len - 8)) }
          ∧ completedAs { s with sec := t.sec, winnow := t.winnow } r c 0 0 0 0 [R.SEC_OP_CNT, R.WIN_FLASH_LIFE] t
      | none => completedAs s r c 9 0 0 0 [R.SEC_OP_CNT] t)
  ∧ (∀ (s : State) (r : Nat) (c : Cmd), s.mainOn = true → s.sec.state = .ready → s.latchSet = false → keyReady s r 0x42 c →
    2 ≤ (State.arg c 0).toNat → (State.arg c 0).toNat ≤ 63 → s.slotInUse (State.arg c 0).toNat = false →
    ∃ t, exec (.keyErase r) s = .next t ∧ t.slotAt (State.arg c 0).toNat = none ∧ t.sec.stored.lookup (State.arg c 0).toNat = none
      ∧ (∀ n, n ≠ (State.arg c 0).toNat → t.slotAt n = s.slotAt n ∧ t.sec.stored.lookup n = s.sec.stored.lookup n)
      ∧ completedAs { s with sec := t.sec, winnow := t.winnow } r c 0 0 0 0 [R.SEC_OP_CNT, R.WIN_FLASH_LIFE] t)
  ∧ (∀ (s : State) (r : Nat) (c : Cmd) (k : KeySlot), s.mainOn = true → s.sec.state = .ready → keyReady s r 0x43 c →
    (State.arg c 0).toNat ≤ 63 → s.slotAt (State.arg c 0).toNat = some k →
    ∃ t, exec (.keyInfo r) s = .next t
      ∧ completedAs s r c 0 (s.slotAttr (State.arg c 0).toNat).toNat
          (leNat (beBytes 4 (Config.sha256 ([0x4B, 0x43, 0x56] ++ k.key) / 2 ^ 224))) 0 [R.SEC_OP_CNT] t)
  ∧ (∀ (s : State) (r : Nat) (c : Cmd), s.mainOn = true → s.sec.state = .ready → keyReady s r 0x44 c → s.sec.raw = [] →
    (s.field R.SEC_TAMPER_LATCH 9 0 ≠ 0 ∨ s.tamperHeld = true) →
    ∃ t, exec (.tamperClear r) s = .next t ∧ t.field R.SEC_TAMPER_LATCH 9 0 = 0 ∧ t.tamperHeld = false
      ∧ (∀ n k, s.slotAt n = some k → t.slotAt n = some k)
      ∧ completedAs { s with sec := t.sec } r c 0 (s.field R.SEC_TAMPER_LATCH 9 0) 0 0 [R.SEC_OP_CNT, R.SEC_TAMPER_LATCH] t)
  ∧ (∀ (s : State) (r : Nat) (c : Cmd), s.mainOn = true → s.sec.state = .ready → s.latchSet = false → keyReady s r 0x45 c →
    s.flag R.SEC_CTRL 31 = true → State.arg c 0 = 0x44424746 →
    ∃ t, exec (.debugClose r) s = .next t ∧ t.sec = { s.sec with dbgFuse := true }
      ∧ completedAs { s with sec := t.sec } r c 0 0 0 0 [R.SEC_OP_CNT] t)
  ∧ (∀ (s : State) (r : Nat) (c : Cmd) (w : Bool), s.mainOn = true → (s.tamperHeld = true ∨ s.field R.SEC_TAMPER_LATCH 9 0 ≠ 0) →
    keyReady s r 0x40 c →
    ∃ t, exec (.keyLoad r w) s = .next t ∧ completedAs s r c 10 0 0 0 [R.SEC_OP_CNT] t)
  ∧ (∀ (s : State) (r q : Nat) (w : Bool) (c d : Cmd), s.mainOn = true → readyCmd s r 0x40 c → q ∈ s.host.ring.map (·.1) →
    readyCmd s q 0x40 d → d.seq < c.seq →
    ∃ t, exec (.keyLoad r w) s = .next t ∧ State.Differs [] s t)

/-- R497: a reading at which source k is active: of an enclosure switch the ball's level that SEC_TAMPER_POL names, of TEMP a junction
above HIGH or below LOW of SEC_TEMP_LIMITS in signed °C. -/
abbrev activeAt (s : State) (k : Nat) (x : Int) : Prop :=
  if k < 4 then (x ≠ 0 ↔ s.flag R.SEC_TAMPER_POL k = true)
  else if k = 6 then signed 8 (s.field R.SEC_TEMP_LIMITS 15 8) < x ∨ x < signed 8 (s.field R.SEC_TEMP_LIMITS 7 0)
  else x ≠ 0

/-- R497: source k can be sensed with MAIN powered: SUPPLY at the power-up after a loss of 3.3 V, DEBUG while DBG_FUSE is 0. -/
abbrev sensedNow (s : State) (k : Nat) : Prop := k < 8 ∨ (k = 8 ∧ s.power.newSupply = true) ∨ (k = 9 ∧ s.sec.dbgFuse = false)

/-- What the tamper logic holds of a source sensed at a reading, beside that the source is active: the level of an enclosure ball, the junction. -/
def sensedAs (c : SecSt) (k : Nat) (x : Int) : SecSt :=
  if k < 4 then { c with enc := c.enc.filter (· != k) ++ (if x ≠ 0 then [k] else []) } else if k = 6 then { c with junction := some x } else c

/-- R497–R501: tamper. An event whose action is to latch is latched, counted and shown and erases no key; one whose action is to zeroise empties
every slot and holds the latch; a source whose action is 0 leaves all but what it reads; a maintenance window opens, closes SEC_MAINT minutes
later, and a switch still active is then an event; a failed health test stops the generator. -/
def Obligations.TamperEvents : Prop :=
  (∀ (s : State) (k : Nat) (x : Int), sensedNow s k → activeAt s k x → k ∉ s.sec.raw → s.power.state = .up → s.tamperAction k = 1 →
    ∃ t, exec (.tamperDetect k x) s = .next t ∧ t.flag R.SEC_TAMPER_LATCH k = true ∧ t.flag R.SEC_STATUS 0 = true
      ∧ t.reg R.SEC_TAMPER_CNT = w32 (min 0xFFFF ((s.reg R.SEC_TAMPER_CNT).toNat + 1)) ∧ t.sec = sensedAs { s.sec with raw := k :: s.sec.raw } k x
      ∧ State.Differs [R.SEC_TAMPER_LATCH, R.SEC_STATUS, R.SEC_TAMPER_CNT, R.SEC_TAMPER_TS_NS, R.SEC_TAMPER_TS_SEC_LO,
          R.SEC_TAMPER_TS_SEC_HI] { s with sec := t.sec } t)
  ∧ (∀ (s : State) (k : Nat) (x : Int), sensedNow s k → activeAt s k x → k ∉ s.sec.raw → s.power.state = .up → s.tamperAction k = 2 →
    ∃ t, exec (.tamperDetect k x) s = .next t ∧ (∀ n, t.slotAt n = none) ∧ t.tamperHeld = true ∧ t.flag R.SEC_STATUS 1 = true
      ∧ t.flag R.SEC_TAMPER_LATCH k = true ∧ t.sec.stored = s.sec.stored ∧ t.sec.secret = s.sec.secret)
  ∧ (∀ (s : State) (k : Nat) (x : Int), sensedNow s k → activeAt s k x → k ∉ s.sec.raw → s.power.state = .up → s.tamperAction k = 3 →
    ∃ t, exec (.tamperDetect k x) s = .next t ∧ (∀ n, t.slotAt n = none) ∧ t.tamperHeld = true ∧ t.sec.stored = []
      ∧ t.sec.secret = none ∧ t.sec.helper = none ∧ t.sec.wrapped = [] ∧ t.flag R.SEC_TAMPER_LATCH 31 = true)
  ∧ (∀ (s : State) (k : Nat) (x : Int), sensedNow s k → activeAt s k x → (s.power.state = .up ∨ (k ≠ 4 ∧ k ≠ 5 ∧ k ≠ 9)) → k ∉ s.sec.raw → s.tamperAction k = 0 →
    ∃ t, exec (.tamperDetect k x) s = .next t ∧ State.Differs [] { s with sec := sensedAs { s.sec with raw := k :: s.sec.raw } k x } t)
  ∧ (∀ (s : State) (k : Nat) (x : Int), k ≤ 9 → ¬activeAt s k x → s.power.state = .up →
    ∃ t, exec (.tamperDetect k x) s = .next t
      ∧ State.Differs [] { s with sec := sensedAs { s.sec with raw := s.sec.raw.filter (· != k) } k x } t)
  ∧ (∀ (s : State) (k : Nat) (x : Int), ((k = 4 ∨ k = 5 ∨ k = 9) ∧ s.power.state ≠ .up
      ∨ x ≠ 0 ∧ (k = 9 ∧ s.sec.dbgFuse = true ∨ k = 8 ∧ s.power.newSupply = false)) →
    ∃ t, exec (.tamperDetect k x) s = .next t ∧ State.Differs [] s t)
  ∧ (∀ (s : State) (v : Word), s.mainOn = true → s.posted.lookup (canon .sec 0 0x800) = none → s.flag R.SEC_CTRL 2 = true →
    ∃ t, exec (.secMaintWrite v) s = .next t ∧ t.reg R.SEC_MAINT = v &&& 0xFFFF
      ∧ State.Differs [R.SEC_MAINT] { s with sec := { s.sec with
          maint := true, maintEnd := s.power.rtc + s.time.frc + (fld v 15 0 * 75000000000 : Nat) } } t)
  ∧ (∀ (s : State), s.mainRuns = true → s.sec.maint = true → s.sec.raw = [] →
    ∃ t, exec .maintEnd s = .next t ∧ t.flag R.SEC_STATUS 6 = true
      ∧ t.time.frc = max s.time.frc (s.sec.maintEnd - s.power.rtc).toNat
      ∧ State.Differs [R.SEC_STATUS] { s with sec := { s.sec with maint := false }, time := t.time } t)
  ∧ (∀ (s : State), s.mainRuns = true → s.sec.maint = true → s.sec.raw = [0] → s.field R.SEC_TAMPER_CTRL 1 0 = 2 →
    ∃ t, exec .maintEnd s = .next t ∧ t.sec.maint = false ∧ (∀ n, t.slotAt n = none) ∧ t.flag R.SEC_TAMPER_LATCH 0 = true)
  ∧ (∀ (s : State), s.mainRuns = true →
    ∃ t, exec .trngHealthFail s = .next t ∧ t.flag R.SEC_TRNG_STAT 0 = false ∧ t.flag R.SEC_STATUS 3 = true
      ∧ t.field R.SEC_TRNG_STAT 15 8 = min 255 (s.field R.SEC_TRNG_STAT 15 8 + 1) ∧ State.Differs [R.SEC_TRNG_STAT, R.SEC_STATUS] s t)

/-- R516, R369: the update protocol runs and its port takes frames in (in RECOVERY the loader runs it, log entry 45), and the sender has a MAC address. -/
abbrev updHears (s : State) (p : Peer) : Prop :=
  s.mainRuns = true ∧ (s.flag R.UPD_CTRL 0 = true ∧ s.rxReady 36 = true ∨ s.upd.recovery = true) ∧ p.mac.length = 6

/-- R516: t is u with one message more, msg, in transmit queue 2 of port 36, as a frame to the peer p from UPD_IP and UPD_PORT; but for it
only the live registers of l and the free values drawn. -/
def updReplied (u : State) (p : Peer) (msg : Bytes) (l : List Nat) (t : State) : Prop :=
  (∃ h : Bytes, h.length = 28
    ∧ (h.drop 12).take 12 = beBytes 4 (u.reg R.UPD_IP).toNat ++ beBytes 4 p.ip ++ beBytes 2 (u.field R.UPD_PORT 15 0) ++ beBytes 2 p.port
    ∧ (t.macOf 36).txq = (u.macOf 36).txq
        ++ [{ queue := 2, bytes := p.mac ++ u.macAddr 36 ++ beBytes 2 0x0800 ++ (h ++ msg) }])
  ∧ { t.macOf 36 with txq := [] } = { u.macOf 36 with txq := [] } ∧ (∀ n, n ≠ 36 → t.macOf n = u.macOf n)
  ∧ State.Differs l { u with mac := t.mac, freeCtr := t.freeCtr } t

/-- A request of R517: TYPE, SESSION, INDEX and payload, with its CRC. -/
abbrev updAsk (type session index : Nat) (payload : Bytes) : Bytes := State.updMessage type session index 0 payload

/-- s with the completion of command c, the one that ring r holds, written. -/
def withCompletion (s : State) (r : Nat) (c : Cmd) (status r0 : Nat) : State :=
  s.ownWrite r (cplAddr s r)
    (s.cplBytes (s.ringK r) (s.ringOf r).cplTail (c.desc.irq || s.flag (R.HOST_RINGr_CTRL r) 1) c status r0 0 0)

/-- R531, R532: t is what a reset of kind k leaves of s: the registers of the sleeping domains, for WARM and UPDATE the training registers, DRAM,
OFFSET and RATE, and for all but POWER-ON the FRC are kept; every other register is at reset, with the cause shown; a boot is due,
nothing runs, and the queue and the host's memory are as before. -/
def wasReset (k : ResetKind) (cause : Word) (s t : State) : Prop :=
  let kept := k == .warm || k == .update
  (∀ a, a ≠ R.PWR_RST_CAUSE → a ≠ R.INTC_REROUTE_CNT →
    t.reg a = if (State.sleepReg a || (kept && State.trainReg a)) = true then s.reg a else resetOf a)
  ∧ t.reg R.PWR_RST_CAUSE = cause ∧ t.dram = (if kept = true then s.dram else [])
  ∧ t.time.frc = (if k = .powerOn then 0 else s.time.frc)
  ∧ (kept = true → t.time.offset = s.time.offset ∧ t.time.rate = s.time.rate)
  ∧ (kept = false → t.time.offset = 0 ∧ t.time.rate = 0)
  ∧ t.power.state = .up ∧ t.power.bootDue = true ∧ t.power.kind = k ∧ t.power.inShow = false ∧ t.power.ready = false
  ∧ t.shadow = [] ∧ t.staged = [] ∧ t.mac = {} ∧ t.host.ring = [] ∧ t.kennel.graph = none ∧ t.brace.state = .off ∧ t.sec.slots = []
  ∧ t.upd.session = none ∧ t.upd.trial = none ∧ t.host.mem = s.host.mem ∧ t.pending = s.pending

/-- R517: a message with CRC 0, over which its CRC runs. -/
abbrev updBare (l : Bytes) : Bytes := l.take 16 ++ [0, 0, 0, 0] ++ l.drop 20

/-- R510, R506: check unit 0 holds the CRC-32C of a BLOCK and the number of its bytes. -/
def unitHolds (l : Bytes) (t : State) : Prop :=
  t.reg (R.CHECKn_VALUE 0) = w32 (reverseBits 32 (crc32cMore 0xFFFFFFFF (updBare l))) ∧ t.reg (R.CHECKn_BYTES 0) = w32 (updBare l).length

/-- R489: slot 0 holds a key that the flash engine gets. -/
def flashKeyHeld (s : State) : Bool := (s.slotAt 0).any (fun k => k.engine == 0)

/-- R516–R519, R526: a session. OPEN opens one and is answered; OPEN of a bad length, and OPEN beside another session, are refused; a BLOCK lands in
staging and no other byte of DRAM changes, RX_DONE is set by the last one, a repeated one is counted; ABORT and 30 s of silence close
the session; STATUS_REQ is answered; a malformed message and one with a wrong CRC are only counted. Check
unit 0 holds the CRC of a BLOCK, right or wrong. -/
def Obligations.UpdateSessions : Prop :=
  (∀ (s : State) (p : Peer) (sid len block : Nat) (x y : Byte), updHears s p → sid < 2 ^ 32 → 0x200 ≤ len → len ≤ 0x10000000 →
    block ∈ [1024, 2048, 4096, 8192] → s.upd.session = none → s.upd.trial = none → s.upd.state = .idle →
    ∃ t, exec (.updOpen p (updAsk 1 sid 0 (beBytes 4 len ++ beBytes 2 block ++ [x, y]))) s = .next t
      ∧ t.upd = { s.upd with session := some { id := sid, len := len, block := block, last := s.time.frc }, state := .receiving
                             image := if s.sec.inPlace then none else s.upd.image }
      ∧ updReplied { s with upd := t.upd } p (State.updMessage 2 sid 0 0 []) [] t)
  ∧ (∀ (s : State) (p : Peer) (sid len block : Nat) (x y : Byte), updHears s p → sid < 2 ^ 32 → len < 2 ^ 32 → block < 65536 →
    (len < 0x200 ∨ 0x10000000 < len ∨ block ∉ [1024, 2048, 4096, 8192]) → s.upd.session = none →
    ∃ t, exec (.updOpen p (updAsk 1 sid 0 (beBytes 4 len ++ beBytes 2 block ++ [x, y]))) s = .next t
      ∧ updReplied s p (State.updMessage 2 sid 0 2 []) [] t)
  ∧ (∀ (s : State) (p : Peer) (sid len block : Nat) (x y : Byte) (z : UpdSession), updHears s p → sid < 2 ^ 32 → 0x200 ≤ len → len ≤ 0x10000000 →
    block ∈ [1024, 2048, 4096, 8192] → s.upd.session = some z → z.id ≠ sid →
    ∃ t, exec (.updOpen p (updAsk 1 sid 0 (beBytes 4 len ++ beBytes 2 block ++ [x, y]))) s = .next t
      ∧ updReplied s p (State.updMessage 2 sid 0 5 []) [] t)
  ∧ (∀ (s : State) (p : Peer) (i : Nat) (d : Bytes) (x : UpdSession), updHears s p → s.upd.session = some x → x.id < 2 ^ 32 →
    x.block ≤ 8192 → i < 2 ^ 32 → i < State.blockCount x → d.length = State.blockLen x i → x.verified = false → s.upd.state = .receiving →
    i ∉ x.held →
    ∃ t, exec (.updBlock p (updAsk 3 x.id i d)) s = .next t
      ∧ t.upd = { s.upd with session := some { x with held := i :: x.held, last := s.time.frc } }
      ∧ (∀ a, (a < s.updStage + i * x.block ∨ s.updStage + i * x.block + d.length ≤ a) → t.rd8 a = s.rd8 a)
      ∧ (s.updStage + i * x.block + d.length ≤ State.dramSize → t.rdBytes (s.updStage + i * x.block) d.length = d)
      ∧ (t.flag R.UPD_STATUS 1 = true ↔ x.held.length + 1 = State.blockCount x ∨ s.flag R.UPD_STATUS 1 = true) ∧ unitHolds (updAsk 3 x.id i d) t
      ∧ updReplied { s with upd := t.upd, dram := t.dram } p (State.updMessage 4 x.id i 0 (beBytes 4 (x.held.length + 1)))
          [R.CHECKn_VALUE 0, R.CHECKn_BYTES 0, R.UPD_STATUS] t)
  ∧ (∀ (s : State) (p : Peer) (i : Nat) (d : Bytes) (x : UpdSession), updHears s p → s.upd.session = some x → x.id < 2 ^ 32 →
    x.block ≤ 8192 → i < 2 ^ 32 → i < State.blockCount x → d.length = State.blockLen x i → x.verified = false → s.upd.state = .receiving →
    i ∈ x.held →
    ∃ t, exec (.updBlock p (updAsk 3 x.id i d)) s = .next t
      ∧ t.upd = { s.upd with session := some { x with last := s.time.frc } }
      ∧ t.reg R.UPD_BLK_DUP_CNT = s.reg R.UPD_BLK_DUP_CNT + 1 ∧ unitHolds (updAsk 3 x.id i d) t
      ∧ updReplied { s with upd := t.upd, dram := t.dram } p (State.updMessage 4 x.id i 0 (beBytes 4 x.held.length))
          [R.CHECKn_VALUE 0, R.CHECKn_BYTES 0, R.UPD_BLK_DUP_CNT] t)
  ∧ (∀ (s : State) (p : Peer) (x : UpdSession), updHears s p → s.upd.session = some x → x.id < 2 ^ 32 → s.upd.state = .receiving →
    s.upd.image = none →
    ∃ t, exec (.updAbort p (updAsk 8 x.id 0 [])) s = .next t ∧ t.upd = { s.upd with session := none, state := .idle }
      ∧ updReplied { s with upd := t.upd } p (State.updMessage 6 x.id 0 0 (State.resultPayload s.updCompat 0)) [] t)
  ∧ (∀ (s : State) (r : Nat) (c : Cmd), s.mainOn = true → readyCmd s r 0x54 c → s.upd.state = .receiving → s.upd.image = none →
    ∃ t, exec (.updOpAbort r) s = .next t ∧ t.upd = { s.upd with session := none, state := .idle }
      ∧ completedAs { s with upd := t.upd } r c 0 s.updCompat 0 0 [] t)
  ∧ (∀ (s : State) (x : UpdSession), s.mainRuns = true → s.upd.session = some x → s.upd.state = .receiving → s.upd.image = none →
    ∃ t, exec .updSessionTimeout s = .next t ∧ t.time.frc = max s.time.frc (x.last + 37500000000) ∧ t.flag R.UPD_STATUS 7 = true
      ∧ State.Differs [R.UPD_STATUS] { s with time := { s.time with frc := t.time.frc }, upd := { s.upd with session := none, state := .idle } } t)
  ∧ (∀ (s : State) (p : Peer) (sid : Nat), updHears s p → sid < 2 ^ 32 → s.upd.session = none →
    ∃ t, exec (.updStatusReq p (updAsk 9 sid 0 [])) s = .next t
      ∧ updReplied s p (State.updMessage 10 sid 0 0 (beBytes 4 (1024 * b2n s.sec.inPlace + 512 * b2n s.upd.trial.isSome
          + 256 * b2n s.upd.bootB + s.updCode) ++ beBytes 4 (s.reg R.UPD_RUN_COMPAT).toNat)) [] t)
  ∧ (∀ (s : State) (p : Peer) (l : Bytes) (c : Instr), updHears s p → State.updShape l = false →
    c ∈ [Instr.updOpen p l, .updBlock p l, .updVerify p l, .updActivate p l, .updAbort p l, .updStatusReq p l, .updRecover p l] →
    ∃ t, exec c s = .next t ∧ t.reg R.UPD_BLK_CRC_CNT = s.reg R.UPD_BLK_CRC_CNT + 1 ∧ State.Differs [R.UPD_BLK_CRC_CNT] s t)
  ∧ (∀ (s : State) (p : Peer) (l : Bytes) (c : Instr), updHears s p → State.updShape l = true → State.updCrcOk l = false →
    c ∈ [Instr.updOpen p l, .updBlock p l, .updVerify p l, .updActivate p l, .updAbort p l, .updStatusReq p l, .updRecover p l] →
    ∃ t, exec c s = .next t ∧ t.reg R.UPD_BLK_CRC_CNT = s.reg R.UPD_BLK_CRC_CNT + 1 ∧ t.flag R.UPD_STATUS 0 = true
      ∧ (beAt l 3 1 = 3 → unitHolds l t ∧ State.Differs [R.UPD_BLK_CRC_CNT, R.UPD_STATUS, R.CHECKn_VALUE 0, R.CHECKn_BYTES 0] s t)
      ∧ (beAt l 3 1 ≠ 3 → State.Differs [R.UPD_BLK_CRC_CNT, R.UPD_STATUS] s t))

/-- R520, R521: verification. VERIFY of a whole session starts it, by message or by descriptor, and one with blocks missing is BAD_LENGTH; the
first check that fails ends it; when all pass, in A/B mode, the other slot is invalid while it is written, and the write's end makes
the state READY, where the flash engine gets its key. -/
def Obligations.UpdateVerification : Prop :=
  (∀ (s : State) (p : Peer) (x : UpdSession), updHears s p → s.upd.session = some x → x.id < 2 ^ 32 → x.held.length = State.blockCount x →
    s.upd.state = .receiving →
    ∃ t, exec (.updVerify p (updAsk 5 x.id 0 [])) s = .next t
      ∧ State.Differs [] { s with upd := { s.upd with session := some { x with verified := true, last := s.time.frc }, state := .verifying
                                                      asker := some (.net p x.id) } } t)
  ∧ (∀ (s : State) (p : Peer) (x : UpdSession), updHears s p → s.upd.session = some x → x.id < 2 ^ 32 → x.held.length ≠ State.blockCount x →
    s.upd.state = .receiving →
    ∃ t, exec (.updVerify p (updAsk 5 x.id 0 [])) s = .next t ∧ t.reg R.UPD_LAST_STATUS = 2
      ∧ t.upd = { s.upd with session := some { x with last := s.time.frc } }
      ∧ updReplied { s with upd := t.upd } p (State.updMessage 6 x.id 0 2 (State.resultPayload s.updCompat 0)) [R.UPD_LAST_STATUS] t)
  ∧ (∀ (s : State) (r : Nat) (c : Cmd) (x : UpdSession), s.mainOn = true → readyCmd s r 0x50 c → s.upd.session = some x →
    x.held.length = State.blockCount x → s.upd.state = .receiving →
    ∃ t, exec (.updOpVerify r) s = .next t
      ∧ t.upd = { s.upd with session := some { x with verified := true }, state := .verifying, asker := some (.ring r c.idx) }
      ∧ ringOnly { s with upd := t.upd } r { s.ringOf r with cmds := [{ c with started := true, work := .upd }] } [] t)
  ∧ (∀ (s : State) (p : Peer) (sid : Nat), s.mainRuns = true → p.mac.length = 6 → s.upd.state = .verifying →
    s.upd.asker = some (.net p sid) → s.upd.image = none → s.sec.inPlace = false → s.upd.runB = false →
    ∃ t, exec .updVerifyDone s = .next t ∧ match (s.imageChecks s.updStage).1 with
      | .inl (check, st) => t.upd = { s.upd with state := .idle, asker := none } ∧ t.flag R.UPD_STATUS 2 = true
          ∧ t.reg R.UPD_LAST_STATUS = w32 (256 * check + st)
          ∧ updReplied { s with upd := t.upd } p
              (State.updMessage 6 sid 0 st (State.resultPayload (State.headerCompat (s.rdBytes s.updStage 512)) check))
              [R.UPD_STATUS, R.UPD_LAST_STATUS, R.SEC_DENY_CNT, R.SEC_STATUS] t
      | .inr info => t.reg R.UPD_NEW_COMPAT = w32 info.compat
          ∧ State.Differs [R.UPD_NEW_COMPAT, R.WIN_FLASH_LIFE] { s with upd := { s.upd with state := .writing, image := some info, slotB := none }, winnow := t.winnow } t)
  ∧ (∀ (s : State) (base : Nat), leAt (s.rdBytes base 512) 0 4 ≠ 0x4D495A4B → (s.imageChecks base).1 = .inl (1, 3))
  ∧ (∀ (s : State) (base : Nat), State.headerOk (s.rdBytes base 512) = true → s.slotAt 1 = none → (s.imageChecks base).1 = .inl (2, 10))
  ∧ (∀ (s : State) (base : Nat), match (s.imageChecks base).1 with
      | .inr info => leAt (s.rdBytes base 512) 6 2 ≤ s.field R.GLOBAL_REV 7 0 ∧ s.upd.secver ≤ info.secVersion ∧ ∃ k, s.slotAt 1 = some k
          ∧ k.key = State.sha384 (slice (s.rdBytes base 512) 0x100 97)
      | .inl _ => True)
  ∧ (∀ (s : State) (p : Peer) (sid : Nat) (info : ImageInfo), s.mainRuns = true → p.mac.length = 6 → s.upd.state = .writing →
    s.upd.asker = some (.net p sid) → s.upd.image = some info → s.upd.runB = false → flashKeyHeld s = true →
    ∃ t, exec (.imageWriteDone true) s = .next t ∧ t.upd = { s.upd with state := .ready, asker := none, slotB := some info }
      ∧ t.flag R.UPD_STATUS 3 = true ∧ t.reg R.UPD_LAST_STATUS = 0
      ∧ updReplied { s with upd := t.upd } p (State.updMessage 6 sid 0 0 (State.resultPayload s.updCompat 0)) [R.UPD_STATUS, R.UPD_LAST_STATUS] t)
  ∧ (∀ (s : State) (m : Bool), s.mainRuns = true → s.upd.state = .writing → s.upd.asker = none → s.slotAt 0 = none →
    ∃ t, exec (.imageWriteDone m) s = .next t ∧ t.upd.image = none ∧ t.upd.state ≠ .ready ∧ t.upd.slotA = s.upd.slotA ∧ t.upd.slotB = s.upd.slotB
      ∧ t.flag R.UPD_STATUS 2 = true ∧ t.reg R.SEC_DENY_CNT = s.reg R.SEC_DENY_CNT + 1 ∧ t.flag R.SEC_STATUS 2 = true)

/-- R518, R522–R526: activation, trial and recovery. An ACTIVATE that is not refused resets the device with the trial requested, by message or by
descriptor; without NET_ACTIVATE it is LOCKED, and while nothing is READY a CONFLICT; CONFIRM makes the trial slot the boot slot;
outside a trial CONFIRM and REJECT are unknown; REJECT and the health timer end the trial in a reset that falls back; RECOVER
enrols anew. -/
def Obligations.ActivationAndTrial : Prop :=
  (∀ (s : State) (p : Peer) (sid : Nat) (force x y z : Byte), updHears s p → sid < 2 ^ 32 → s.flag R.UPD_CTRL 1 = true →
    s.activateStatus (force != 0) = 0 → s.upd.session = none →
    ∃ t, exec (.updActivate p (updAsk 7 sid 0 [force, x, y, z])) s = .next t ∧ wasReset .update 4 s t
      ∧ t.upd.request = some { window := s.healthWindow, base := s.updStage, released := s.time.frc, armed := true })
  ∧ (∀ (s : State) (p : Peer) (sid : Nat) (force x y z : Byte), updHears s p → sid < 2 ^ 32 → s.flag R.UPD_CTRL 1 = false → s.upd.session = none →
    ∃ t, exec (.updActivate p (updAsk 7 sid 0 [force, x, y, z])) s = .next t ∧ t.field R.UPD_LAST_STATUS 7 0 = 6
      ∧ updReplied s p (State.updMessage 6 sid 0 6 (State.resultPayload s.updCompat 0)) [R.UPD_LAST_STATUS] t)
  ∧ (∀ (s : State) (r : Nat) (c : Cmd), s.mainOn = true → readyCmd s r 0x51 c → s.activateStatus (bit (State.arg c 0) 0) = 0 →
    ∃ t, exec (.updOpActivate r) s = .next t ∧ wasReset .update 4 (withCompletion s r c 0 s.updCompat) t
      ∧ t.upd.request = some { window := s.healthWindow, base := s.updStage, released := s.time.frc, armed := true })
  ∧ (∀ (s : State) (r : Nat) (c : Cmd), s.mainOn = true → readyCmd s r 0x51 c → s.upd.state ≠ .ready →
    ∃ t, exec (.updOpActivate r) s = .next t ∧ t.field R.UPD_LAST_STATUS 7 0 = 5
      ∧ completedAs s r c 5 s.updCompat 0 0 [R.UPD_LAST_STATUS] t)
  ∧ (∀ (s : State) (r n : Nat) (c : Cmd) (x : ImageInfo), s.mainOn = true → readyCmd s r 0x52 c → s.coreOwned r = true → s.upd.trial = some n →
    s.upd.run = some x → s.mayConfirm = true → x.nextKey.all (· == 0) = true →
    ∃ t, exec (.updOpConfirm r) s = .next t
      ∧ t.upd = { s.upd with bootB := s.upd.runB, trial := none, secver := max s.upd.secver x.secVersion } ∧ t.flag R.UPD_STATUS 5 = true
      ∧ completedAs { s with upd := t.upd } r c 0 s.updCompat 0 0 [R.UPD_STATUS] t)
  ∧ (∀ (s : State) (r n : Nat) (c : Cmd) (x : ImageInfo), s.mainOn = true → readyCmd s r 0x52 c → s.coreOwned r = true → s.upd.trial = some n →
    s.upd.run = some x → s.mayConfirm = true → x.nextKey.all (· == 0) = false →
    ∃ t, exec (.updOpConfirm r) s = .next t ∧ t.upd.bootB = s.upd.runB ∧ t.sec.signer = x.nextKey
      ∧ t.slotAt 1 = some { engine := 1, key := x.nextKey, origin := 1 } ∧ (∀ k, k ≠ 1 → t.slotAt k = s.slotAt k))
  ∧ (∀ (s : State) (r n : Nat) (c : Cmd), s.mainOn = true → readyCmd s r 0x52 c → s.coreOwned r = false → s.upd.trial = some n →
    ∃ t, exec (.updOpConfirm r) s = .next t ∧ completedAs s r c 6 s.updCompat 0 0 [] t)
  ∧ (∀ (s : State) (r : Nat) (c : Cmd), s.mainOn = true → readyCmd s r 0x52 c → s.upd.trial = none →
    ∃ t, exec (.updOpConfirm r) s = .next t ∧ completedAs s r c 1 s.updCompat 0 0 [] t)
  ∧ (∀ (s : State) (r : Nat) (c : Cmd), s.mainOn = true → readyCmd s r 0x53 c → s.upd.trial = none →
    ∃ t, exec (.updOpReject r) s = .next t ∧ completedAs s r c 1 s.updCompat 0 0 [] t)
  ∧ (∀ (s : State) (r n : Nat) (c : Cmd), s.mainOn = true → readyCmd s r 0x53 c → s.upd.trial = some n →
    s.upd.fell = none →
    ∃ t, exec (.updOpReject r) s = .next t ∧ wasReset .update 4 (withCompletion s r c 0 s.updCompat) t ∧ t.upd.fell = some s.upd.runB)
  ∧ (∀ (s : State) (n : Nat), s.mainOn = true → s.upd.trial = some n → s.upd.fell = none →
    ∃ t, exec .trialTimeout s = .next t ∧ wasReset .update 4 { s with time := { s.time with frc := max s.time.frc n } } t
      ∧ t.upd.fell = some s.upd.runB)
  ∧ (∀ (s : State) (p : Peer) (sid : Nat), updHears s p → sid < 2 ^ 32 → s.upd.recovery = true → s.secState = 3 → s.upd.session = none →
    ∃ t, exec (.updRecover p (updAsk 11 sid 0 [])) s = .next t ∧ t.sec.state = .ready ∧ t.sec.stored = []
      ∧ t.slotAt 1 = some { engine := 1, key := slice Config.romSigner 0 48, origin := 1 } ∧ t.flag R.SEC_STATUS 7 = true
      ∧ (s.sec.enrolled = true → t.upd.slotA = none ∧ t.upd.slotB = none ∧ t.winnow.train = none ∧ t.winnow.flash = [])
      ∧ updReplied { s with sec := t.sec, upd := t.upd, winnow := t.winnow } p (State.updMessage 6 sid 0 0 (State.resultPayload s.updCompat 0))
          [R.SEC_STATUS, R.WIN_FLASH_LIFE] t)
  ∧ (∀ (s : State) (p : Peer) (sid : Nat), updHears s p → sid < 2 ^ 32 → s.upd.recovery = false → s.upd.session = none →
    ∃ t, exec (.updRecover p (updAsk 11 sid 0 [])) s = .next t
      ∧ updReplied s p (State.updMessage 6 sid 0 5 (State.resultPayload s.updCompat 0)) [] t)

/-- R541: t is s after a wake of bit b of SBY_WAKE_CAUSE: the bit is set, and a POWER-ON boot that follows a wake is due. -/
def woken (b : Nat) (s t : State) : Prop :=
  wasReset .powerOn 1 (s.raise R.SBY_WAKE_CAUSE b) t ∧ t.flag R.SBY_WAKE_CAUSE b = true ∧ t.power.woke = true

/-- MAIN and IO are off and hold nothing; the sleeping domains' registers and the security area are as in s. -/
def mainIsOff (x : PowerState) (s t : State) : Prop :=
  t.power.state = x ∧ t.mainOn = false ∧ t.dram = [] ∧ t.sec.slots = [] ∧ t.sec.stored = s.sec.stored ∧ t.sec.secret = s.sec.secret
    ∧ t.mac = {} ∧ t.host.ring = [] ∧ t.kennel.graph = none ∧ t.pending = s.pending

/-- R531, R537, R538, R539: the commands of power. SHOW waits for the next boundary where the device is ready and is dropped with WDROP where it is
not; IDLE waits likewise; STANDBY begins in IDLE and is dropped in SHOW; WARM, the watchdogs and RESET_N reset the MAIN domain, each
with its cause; a stage overrun is a WARM reset, and the third in a row ends in RECOVERY. -/
def Obligations.PowerCommandsAndResets : Prop :=
  (∀ (s : State), s.mainOn = true → s.power.ready = true → s.power.request = none → s.power.entering = false → s.power.inShow = false →
    ∃ t, exec .pwrCmdShow s = .next t ∧ State.Differs [] { s with power := { s.power with request := some true } } t)
  ∧ (∀ (s : State), s.mainOn = true → (s.power.ready = false ∨ s.power.request ≠ none) →
    ∃ t, exec .pwrCmdShow s = .next t ∧ t.flag R.PWR_STATUS 3 = true ∧ State.Differs [R.PWR_STATUS] s t)
  ∧ (∀ (s : State), s.mainOn = true → s.power.inShow = true →
    ∃ t, exec .pwrCmdIdle s = .next t ∧ State.Differs [] { s with power := { s.power with request := some false } } t)
  ∧ (∀ (s : State), s.mainOn = true → s.power.inShow = false → (s.upd.state = .idle ∨ s.upd.state = .ready) →
    ∃ t, exec .pwrCmdStandby s = .next t
      ∧ State.Differs [] { s with power := { s.power with entering := true, request := none } } t)
  ∧ (∀ (s : State), s.mainOn = true →
    (s.power.inShow = true ∨ s.upd.state = .receiving ∨ s.upd.state = .verifying ∨ s.upd.state = .writing) →
    ∃ t, exec .pwrCmdStandby s = .next t ∧ t.flag R.PWR_STATUS 3 = true ∧ State.Differs [R.PWR_STATUS] s t)
  ∧ (∀ (s : State), s.mainOn = true → ∃ t, exec .pwrCmdWarm s = .next t ∧ wasReset .warm 0x003 s t)
  ∧ (∀ (s : State), s.mainOn = true → ∃ t, exec (.coreWatchdogReset false) s = .next t ∧ wasReset .warm 0x103 s t)
  ∧ (∀ (s : State), s.mainRuns = true → ∃ t, exec (.coreWatchdogReset true) s = .next t ∧ wasReset .warm 0x203 s t)
  ∧ (∀ (s : State), s.power.state = .up → ∃ t, exec .pinReset s = .next t ∧ wasReset .pin 2 s t)
  ∧ (∀ (s : State) (n : Nat), s.mainOn = true → s.power.bootDue = true → s.power.overruns < 2 → n < 8 →
    ∃ t u, exec (.bootStageOverrun n) s = .next t ∧ wasReset .warm 0x303 s u ∧ t.power.overruns = s.power.overruns + 1
      ∧ t.field R.PWR_BOOT_STAGE 18 16 = n ∧ State.Differs [R.PWR_BOOT_STAGE] u t)
  ∧ (∀ (s : State) (n : Nat), s.mainOn = true → s.power.bootDue = true → 2 ≤ s.power.overruns → n < 8 →
    ∃ t, exec (.bootStageOverrun n) s = .next t ∧ t.field R.PWR_BOOT_STAGE 18 16 = n
      ∧ t.field (R.MACn_CTRL 36) 2 0 = 7
      ∧ State.Differs [R.PWR_BOOT_STAGE, R.MACn_CTRL 36] { s with upd := { s.upd with recovery := true, run := none, state := .idle }, power :=
          { s.power with overruns := 0, bootDue := false } } t)

/-- R384, R530, R540, R541: sleep and wakes. Entry to STANDBY ends with MAIN off, the wake ports in wake-only mode and their addresses kept; a wake
held meanwhile boots; WAKE_N, the alarm, a magic packet on a wake port and 12 V coming back each wake with their own cause; 12 V
lost is STANDBY with POWER_FAIL, 3.3 V lost is OFF; with both back and AUTO_ON the device boots. -/
def Obligations.SleepAndSupplies : Prop :=
  (∀ (s : State), s.mainOn = true → s.power.entering = true → s.power.wake = false →
    ∃ t, exec .standbyEntryDone s = .next t ∧ mainIsOff .standby s t
      ∧ (∀ n, 32 ≤ n → n < 37 → s.flag R.SBY_CTRL (n - 24) = true →
        t.isWakeOnly n = true ∧ beBytes 6 (Sparse.get 0 t.power.wakeAddr n) = s.macAddr n)
      ∧ (∀ a, State.sleepReg a = true → t.reg a = s.reg a))
  ∧ (∀ (s : State), s.mainOn = true → s.power.entering = true → s.power.wake = true →
    ∃ t, exec .standbyEntryDone s = .next t ∧ wasReset .powerOn 1 s t ∧ t.power.woke = true)
  ∧ (∀ (s : State), s.power.state = .standby → s.power.v12 = true → s.flag R.SBY_CTRL 1 = true →
    ∃ t, exec .wakePin s = .next t ∧ woken 1 s t)
  ∧ (∀ (s : State), s.power.state = .standby → s.power.v12 = true → s.flag R.SBY_CTRL 2 = true → s.rtcNow ≤ (s.reg R.SBY_ALARM).toNat →
    ∃ t, exec .rtcAlarm s = .next t ∧ woken 3 s t)
  ∧ (∀ (s : State) (n : Nat) (l pre post addr : Bytes), s.power.state = .standby → s.power.v12 = true → 32 ≤ n → n < 37 →
    s.isWakeOnly n = true → addr = beBytes 6 (Sparse.get 0 s.power.wakeAddr n) → l.take 6 = addr →
    l.drop 12 = pre ++ (List.replicate 6 0xFF ++ (List.replicate 16 addr).flatten) ++ post →
    ∃ t, exec (.wakeFrameRx n l) s = .next t ∧ woken 0 s t)
  ∧ (∀ (s : State), s.power.state = .standby → s.flag R.SBY_CTRL 0 = true →
    ∃ t, exec .supply12vRise s = .next t ∧ woken 2 s t ∧ t.power.v12 = true)
  ∧ (∀ (s : State), s.power.state = .standby → s.flag R.SBY_CTRL 0 = false → s.power.wake = false →
    ∃ t, exec .supply12vRise s = .next t ∧ State.Differs [] { s with power := { s.power with v12 := true } } t)
  ∧ (∀ (s : State), s.power.state = .up →
    ∃ t, exec .supply12vFail s = .next t ∧ mainIsOff .standby s t ∧ t.flag R.SBY_WAKE_CAUSE 4 = true ∧ t.power.v12 = false
      ∧ (∀ a, State.sleepReg a = true → a ≠ R.SBY_WAKE_CAUSE → t.reg a = s.reg a)
      ∧ (∀ n, 32 ≤ n → n < 37 → s.flag R.SBY_CTRL (n - 24) = true →
        t.isWakeOnly n = true ∧ beBytes 6 (Sparse.get 0 t.power.wakeAddr n) = s.macAddr n))
  ∧ (∀ (s : State), s.power.state = .up →
    ∃ t, exec .supply33vLoss s = .next t ∧ mainIsOff .off s t ∧ t.power.v33 = false
      ∧ (∀ a, a < 0x200800 → a ≠ R.INTC_REROUTE_CNT → t.reg a = resetOf a)
      ∧ (∀ a, 0x200800 ≤ a → a < 0x201000 → t.reg a = s.reg a))
  ∧ (∀ (s : State), s.power.state = .off → s.power.v12 = true → s.flag R.SBY_CTRL 0 = true →
    ∃ t, exec .supply33vRise s = .next t ∧ wasReset .powerOn 1 s t ∧ t.power.v33 = true ∧ t.power.woke = false)
  ∧ (∀ (s : State), s.power.state = .off → s.power.v12 = false →
    ∃ t, exec .supply33vRise s = .next t ∧ State.Differs [] { s with power := { s.power with v33 := true, state := .standby, newSupply := true } } t)

/-- A boot is due, and its stages go well: the PUF regenerates, nothing is stored or due for erasure, no event since the
reset has emptied the slots, the firmware verifies, the engines pass and no coefficient is measured. -/
abbrev bootSound (s : State) (r : BootReport) : Prop :=
  s.mainOn = true ∧ s.power.bootDue = true ∧ s.sec.eraseDue = false ∧ s.sec.enrolled = true ∧ s.sec.secret ≠ none ∧ s.sec.stored = []
    ∧ s.sec.struck = false ∧ r.pufOk = true ∧ r.ber ≤ 250 ∧ r.firmwareOk = true ∧ r.katFailed = [] ∧ r.delays = []

/-- The boot follows a reset that never trains. -/
abbrev keptTraining (s : State) : Prop := s.power.kind = .warm ∨ s.power.kind = .update

/-- t is s after a boot that ended show-ready with image x: ready, slot 1 installed, its words shown, and time, DRAM and the queue as they were. -/
def bootShows (s t : State) (r : BootReport) (x : ImageInfo) : Prop :=
  t.power.ready = true ∧ t.power.bootDue = false ∧ t.power.overruns = 0
    ∧ t.upd.run = some x ∧ t.sec.state = .ready ∧ t.slotAt 1 = some { engine := 1, key := s.sec.signer, origin := 1 }
    ∧ t.flag R.PWR_STATUS 0 = true ∧ t.reg R.PWR_BOOT_TIME = w32 (r.ms % 65536) ∧ t.reg R.UPD_RUN_COMPAT = w32 x.compat
    ∧ t.dram = s.dram ∧ t.time = s.time ∧ t.pending = s.pending

/-- R533: nothing in the configuration store is to be restored. -/
abbrev nothingKept (r : BootReport) : Prop := r.restored = []

/-- R490, R515, R523, R525, R533–R537: a boot. It ends show-ready with the valid boot slot running and slot 1 installed; without one it takes the
other slot with FALLBACK; with none, without the PUF, or with security firmware that does not verify it ends in RECOVERY; a
requested image runs on trial; after a trial that failed the slot is invalid and the boot slot runs; a POWER-ON boot without
stored results trains fully; a table of the configuration store is back in DRAM; after a latched erasure the device enrols anew, and
a slot emptied since the reset leaves no key for the firmware. -/
def Obligations.BootOutcomes : Prop :=
  (∀ (s : State) (r : BootReport) (x : ImageInfo), bootSound s r → nothingKept r → keptTraining s → s.upd.fell = none → s.upd.request = none → s.upd.bootB = false →
    s.upd.slotA = some x → r.slotAOk = true →
    ∃ t, exec (.boot r) s = .next t ∧ bootShows s t r x ∧ t.upd.runB = false ∧ t.upd.trial = s.upd.trial
      ∧ (∀ c, c < 32 → t.reg (R.DRAM_CHc_TRAIN0 c) = s.reg (R.DRAM_CHc_TRAIN0 c)))
  ∧ (∀ (s : State) (r : BootReport) (x : ImageInfo), bootSound s r → nothingKept r → keptTraining s → s.upd.fell = none → s.upd.request = none → s.upd.bootB = false →
    (s.upd.slotA = none ∨ r.slotAOk = false) → s.upd.slotB = some x → r.slotBOk = true →
    ∃ t, exec (.boot r) s = .next t ∧ bootShows s t r x ∧ t.upd.runB = true ∧ t.flag R.UPD_STATUS 6 = true)
  ∧ (∀ (s : State) (r : BootReport), bootSound s r → nothingKept r → keptTraining s → s.upd.fell = none → s.upd.request = none → s.upd.slotA = none → s.upd.slotB = none →
    ∃ t, exec (.boot r) s = .next t ∧ t.upd.recovery = true ∧ t.upd.run = none ∧ t.power.ready = s.power.ready ∧ t.power.bootDue = false)
  ∧ (∀ (s : State) (r : BootReport), s.mainOn = true → s.power.bootDue = true → s.sec.eraseDue = false → s.sec.enrolled = true →
    s.sec.secret ≠ none → (r.pufOk = false ∨ 250 < r.ber) → s.flag R.SEC_TAMPER_LATCH 31 = false →
    ∃ t, exec (.boot r) s = .next t ∧ t.sec.state = .nokey ∧ t.sec.slots = [] ∧ t.upd.recovery = true ∧ t.power.bootDue = false)
  ∧ (∀ (s : State) (r : BootReport), s.mainOn = true → s.power.bootDue = true → r.firmwareOk = false →
    ∃ t, exec (.boot r) s = .next t ∧ t.upd.recovery = true ∧ t.upd.run = none ∧ t.power.bootDue = false)
  ∧ (∀ (s : State) (r : BootReport) (x : ImageInfo) (q : TrialReq), bootSound s r → nothingKept r → keptTraining s → s.upd.fell = none → s.upd.request = some q →
    s.sec.inPlace = false → s.upd.runB = false → s.upd.slotB = some x → r.slotBOk = true →
    ∃ t, exec (.boot r) s = .next t ∧ bootShows s t r x ∧ t.upd.runB = true ∧ t.upd.bootB = s.upd.bootB ∧ t.flag R.UPD_STATUS 4 = true
      ∧ t.upd.trial = some (q.released + q.window * 1250000000))
  ∧ (∀ (s : State) (r : BootReport) (x : ImageInfo), bootSound s r → nothingKept r → keptTraining s → s.upd.fell = some true → s.sec.inPlace = false →
    s.upd.bootB = false → s.upd.slotA = some x → r.slotAOk = true →
    ∃ t, exec (.boot r) s = .next t ∧ bootShows s t r x ∧ t.upd.runB = false ∧ t.upd.slotB = none ∧ t.flag R.UPD_STATUS 6 = true
      ∧ t.upd.secver = s.upd.secver ∧ t.sec.signer = s.sec.signer)
  ∧ (∀ (s : State) (r : BootReport) (x : ImageInfo), bootSound s r → nothingKept r → s.power.kind = .powerOn → s.winnow.train = none → s.upd.fell = none →
    s.upd.request = none → s.upd.bootB = false → s.upd.slotA = some x → r.slotAOk = true →
    ∃ t, exec (.boot r) s = .next t ∧ bootShows s t r x ∧ t.flag R.DRAM_TRAIN_STAT 1 = true ∧ t.winnow.train ≠ none
      ∧ t.winnow.trainInvalid = false
      ∧ t.field R.PWR_BOOT_STAGE 15 0 = (s.field R.PWR_BOOT_STAGE 15 0 + 1) % 65536)
  ∧ (∀ (s : State) (r : BootReport) (x : ImageInfo) (a o n : Nat), bootSound s r → r.restored = [.table a o n] → keptTraining s → s.upd.fell = none →
    s.upd.request = none → s.upd.bootB = false → s.upd.slotA = some x → r.slotAOk = true →
    (∀ i, i < n → State.flashArea (o + i) = some .config) → (∀ i, i < n → s.protectedAt (a + i) = false) →
    ∃ t, exec (.boot r) s = .next t ∧ t.power.ready = true ∧ t.upd.run = some x ∧ t.dram = (s.wrBytes a ((List.range n).map (fun i => s.flashByte (o + i)))).dram)
  ∧ (∀ (s : State) (r : BootReport), s.mainOn = true → s.power.bootDue = true → s.sec.enrolled = true → s.sec.eraseDue = true →
    s.flag R.SEC_TAMPER_LATCH 31 = true → s.upd.request = none →
    ∃ t, exec (.boot r) s = .next t ∧ t.sec.enrolled = true ∧ t.sec.secret ≠ none ∧ t.sec.stored = [] ∧ t.sec.signer = slice Config.romSigner 0 48
      ∧ t.flag R.SEC_STATUS 7 = true ∧ t.upd.slotA = none ∧ t.upd.slotB = none ∧ t.winnow.flash = [] ∧ t.upd.recovery = true)
  ∧ (∀ (s : State) (r : BootReport), s.mainOn = true → s.power.bootDue = true → s.sec.enrolled = true → s.sec.eraseDue = false →
    s.sec.secret ≠ none → r.pufOk = true → r.ber ≤ 250 → s.sec.struck = true → s.tamperHeld = true →
    ∃ t, exec (.boot r) s = .next t ∧ t.sec.state = .ready ∧ t.sec.slots = [] ∧ t.upd.recovery = true ∧ t.flag R.SEC_STATUS 2 = true
      ∧ t.reg R.SEC_DENY_CNT = s.reg R.SEC_DENY_CNT + 1)

/-- R37, R433, R434, R565: clock units and pins. A unit that loses lock shows its bit, counts, and takes its links down; lock regained brings them back; receive clock recovery
has a lock to lose once it has locked;
the 32.768 kHz trim is set within ±1,000 ppm; GPIO_SET and GPIO_CLR set and clear their bits alone; a filtered rise at an input of an
enabled edge source is pending. -/
def Obligations.ClocksAndPins : Prop :=
  (∀ (s : State), s.mainRuns = true → s.power.pllUp = true → s.power.lost.lookup .main = none → s.frameRuns = false →
    ∃ t, exec (.pllUnlock .main) s = .next t ∧ t.flag R.CLOCK_STATUS 0 = true ∧ t.reg R.CLOCK_UNLOCK_CNT = s.reg R.CLOCK_UNLOCK_CNT + 1
      ∧ State.Differs [R.CLOCK_STATUS, R.CLOCK_UNLOCK_CNT] { s with power := { s.power with lost := (.main, []) :: s.power.lost } } t)
  ∧ (∀ (s : State) (l : Nat), s.mainRuns = true → s.power.pllUp = true → l < 32 → s.power.lost.lookup (.lane l) = none → (s.macOf l).up = true →
    (s.macOf l).verify = 0 →
    ∃ t, exec (.pllUnlock (.lane l)) s = .next t ∧ t.flag R.CLOCK_STATUS 1 = true ∧ t.reg R.CLOCK_UNLOCK_CNT = s.reg R.CLOCK_UNLOCK_CNT + 1
      ∧ t.macOf l = { s.macOf l with up := false, anDone := false, block := false } ∧ (∀ n, n ≠ l → t.macOf n = s.macOf n)
      ∧ t.flag (R.MACn_STATUS l) 0 = true
      ∧ State.Differs [R.CLOCK_STATUS, R.CLOCK_UNLOCK_CNT, R.MACn_STATUS l, R.BRACE_STATUS]
          { s with mac := t.mac, power := { s.power with lost := (.lane l, [l]) :: s.power.lost } } t)
  ∧ (∀ (s : State) (l : Nat), s.mainRuns = true → l < 32 → s.power.lost = [(.lane l, [l])] → s.macEn l = true →
    ∃ t, exec (.pllRelock (.lane l)) s = .next t ∧ t.macOf l = { s.macOf l with up := true, dsAt := s.now10, dsRx := 0, dsTx := 0 } ∧ (∀ n, n ≠ l → t.macOf n = s.macOf n)
      ∧ t.flag (R.MACn_STATUS l) 0 = true
      ∧ State.Differs [R.MACn_STATUS l] { s with mac := t.mac, power := { s.power with lost := [] } } t)
  ∧ (∀ (s : State) (l : Nat), s.mainRuns = true → s.power.pllUp = true → l < 32 → l ∈ s.power.recovered → s.power.lost.lookup (.recovery l) = none →
    (s.macOf l).up = true → (s.macOf l).verify = 0 →
    ∃ t, exec (.pllUnlock (.recovery l)) s = .next t ∧ t.flag R.CLOCK_STATUS 1 = true ∧ t.reg R.CLOCK_UNLOCK_CNT = s.reg R.CLOCK_UNLOCK_CNT + 1
      ∧ t.macOf l = { s.macOf l with up := false, anDone := false, block := false } ∧ (∀ n, n ≠ l → t.macOf n = s.macOf n)
      ∧ t.laneLocked l = false ∧ (∀ k, t.unitLocked (.lane k) = s.unitLocked (.lane k)))
  ∧ (∀ (s : State) (l : Nat), s.mainRuns = true → l < 32 → l ∉ s.power.recovered →
    ∃ t, exec (.pllUnlock (.recovery l)) s = .next t ∧ State.Differs [] s t)
  ∧ (∀ (s : State) (l : Nat), s.mainRuns = true → s.power.pllUp = true → l < 32 → s.power.lost = [] → l ∉ s.power.recovered →
    ∃ t, exec (.pllRelock (.recovery l)) s = .next t ∧ t.laneLocked l = true
      ∧ State.Differs [] { s with power := { s.power with recovered := l :: s.power.recovered } } t)
  ∧ (∀ (s : State) (e : Int), s.mainOn = true → s.winOn = true → -10000 ≤ e → e ≤ 10000 →
    ∃ t, exec (.sbyTrimMeasure e) s = .next t ∧ signed 16 (t.field R.CLOCK_SBY_TRIM 15 0) = e ∧ State.Differs [R.CLOCK_SBY_TRIM] s t)
  ∧ (∀ (s : State) (e : Int), s.mainOn = true → s.winOn = true → 10000 < e →
    ∃ t, exec (.sbyTrimMeasure e) s = .next t ∧ signed 16 (t.field R.CLOCK_SBY_TRIM 15 0) = 10000 ∧ t.flag R.CLOCK_STATUS 4 = true
      ∧ State.Differs [R.CLOCK_SBY_TRIM, R.CLOCK_STATUS] s t)
  ∧ (∀ (s : State) (high : Bool) (v : Word), s.mainOn = true →
    let a := if high then R.GPIO_OUT_HI else R.GPIO_OUT_LO
    ∃ t, exec (.gpioSet high v) s = .next t ∧ t.reg a = s.reg a ||| v ∧ State.Differs [a] s t)
  ∧ (∀ (s : State) (high : Bool) (v : Word), s.mainOn = true →
    let a := if high then R.GPIO_OUT_HI else R.GPIO_OUT_LO
    ∃ t, exec (.gpioClr high v) s = .next t ∧ t.reg a = s.reg a &&& ~~~v ∧ State.Differs [a] s t)
  ∧ (∀ (s : State) (i held : Nat), s.mainOn = true → i < 64 → s.pinDrive i = none → i ∉ s.pins.filt → s.srcEn (1664 + i) = true →
    s.filtCycles i ≤ held →
    ∃ t, exec (.pinInterruptEdge i ⟨true, held⟩) s = .next t ∧ t.isPend (1664 + i) = true ∧ i ∈ t.pins.filt ∧ t.ballLevel i = true
      ∧ (∀ k, k ≠ i → (k ∈ t.pins.filt ↔ k ∈ s.pins.filt)) ∧ State.Differs [] { s with pins := t.pins } t)
  ∧ (∀ (s : State) (i held : Nat), s.mainOn = true → i < 64 → s.pinDrive i = none → s.filtCycles i ≤ held →
    ∃ t, exec (.pinInterruptEdge i ⟨false, held⟩) s = .next t ∧ i ∉ t.pins.filt ∧ t.ballLevel i = false
      ∧ (∀ k, k ≠ i → (k ∈ t.pins.filt ↔ k ∈ s.pins.filt)) ∧ State.Differs [] { s with pins := t.pins } t)
  ∧ (∀ (s : State) (i held : Nat) (level : Bool), s.mainOn = true → i < 64 → s.pinDrive i = none → held < s.filtCycles i →
    ∃ t, exec (.pinInterruptEdge i ⟨level, held⟩) s = .next t ∧ t.pins.filt = s.pins.filt ∧ t.ballLevel i = level
      ∧ State.Differs [] { s with pins := t.pins } t)

/-- R27, R200, R542–R547: background work. The scrub counts what it corrects, shows what it cannot with the burst's address, and moves on by one burst;
a burst that a show block cannot read is shown with its source; the Granary's corrected errors are counted; a bad flash page is
shown and makes the slot it lies in invalid, and a weak one is rewritten, while the flash engine gets its key; a sample enters its register and its extremes, with its
warnings; self-calibration writes where nothing holds it and only marks a coefficient pending in SHOW; with EN = 0 nothing is done. -/
def Obligations.BackgroundWork : Prop :=
  (∀ (s : State), s.mainOn = true → s.winOn = true → s.field R.WIN_SCRUB_POS 27 0 ≠ 0 →
    ∃ t, exec (.dramScrub .corrected) s = .next t ∧ t.reg R.DRAM_CE_CNT = s.reg R.DRAM_CE_CNT + 1 ∧ t.flag R.DRAM_STATUS 0 = true
      ∧ t.field R.WIN_SCRUB_POS 27 0 = (s.field R.WIN_SCRUB_POS 27 0 + 1) % 2 ^ 28
      ∧ State.Differs [R.DRAM_CE_CNT, R.DRAM_STATUS, R.WIN_SCRUB_POS, R.WIN_STATUS] s t)
  ∧ (∀ (s : State), s.mainOn = true → s.winOn = true → s.field R.WIN_SCRUB_POS 27 0 ≠ 0 →
    ∃ t, exec (.dramScrub .uncorrectable) s = .next t ∧ t.reg R.DRAM_UE_CNT = s.reg R.DRAM_UE_CNT + 1 ∧ t.flag R.DRAM_STATUS 1 = true
      ∧ t.field R.DRAM_ERR_ADDR_HI 1 0 * 2 ^ 32 + (t.reg R.DRAM_ERR_ADDR_LO).toNat = 64 * s.field R.WIN_SCRUB_POS 27 0
      ∧ t.flag R.DRAM_ERR_ADDR_HI 8 = false
      ∧ State.Differs [R.DRAM_UE_CNT, R.DRAM_STATUS, R.DRAM_ERR_ADDR_LO, R.DRAM_ERR_ADDR_HI, R.WIN_SCRUB_POS, R.WIN_STATUS] s t)
  ∧ (∀ (s : State) (a : Nat), s.mainOn = true → a < State.dramSize → s.frameRuns = false → s.brace.state = .active →
    ∃ t, exec (.dramUeShow a) s = .next t ∧ t.reg R.DRAM_UE_CNT = s.reg R.DRAM_UE_CNT + 1 ∧ t.flag R.DRAM_STATUS 1 = true
      ∧ t.field R.DRAM_ERR_ADDR_HI 1 0 * 2 ^ 32 + (t.reg R.DRAM_ERR_ADDR_LO).toNat = a / 64 * 64 ∧ t.flag R.DRAM_ERR_ADDR_HI 8 = true
      ∧ State.Differs [R.DRAM_UE_CNT, R.DRAM_STATUS, R.DRAM_ERR_ADDR_LO, R.DRAM_ERR_ADDR_HI]
          { s with brace := { s.brace with dramUe := true, faults := s.brace.faults ++ [1] } } t)
  ∧ (∀ (s : State) (n : Nat), s.mainOn = true → s.winOn = true →
    ∃ t, exec (.sramScrub (List.replicate n .corrected)) s = .next t ∧ t.reg R.WIN_SRAM_CE_CNT = s.reg R.WIN_SRAM_CE_CNT + w32 n
      ∧ State.Differs [R.WIN_SRAM_CE_CNT, R.WIN_STATUS] { s with winnow := { s.winnow with sramAt := s.time.frc } } t)
  ∧ (∀ (s : State) (o b : Nat), s.mainOn = true → s.winOn = true → 0x200000 ≤ o → o < 0x10200000 → flashKeyHeld s = true →
    ∃ t, exec (.flashRefresh o b true) s = .next t ∧ t.flag R.WIN_STATUS 4 = true ∧ t.reg R.WIN_FLASH_ERR = w32 o
      ∧ State.Differs [R.WIN_STATUS, R.WIN_FLASH_ERR] { s with upd := { s.upd with slotA := none } } t)
  ∧ (∀ (s : State) (o b : Nat), s.mainOn = true → s.winOn = true → o ≠ 0 → (o < 0x200000 ∨ flashKeyHeld s = true) → s.field R.WIN_FLASH_THR 7 0 < b →
    ∃ t, exec (.flashRefresh o b false) s = .next t ∧ t.reg R.WIN_FLASH_RW_CNT = s.reg R.WIN_FLASH_RW_CNT + 1
      ∧ State.Differs [R.WIN_STATUS, R.WIN_FLASH_RW_CNT, R.WIN_FLASH_LIFE] { s with winnow := { s.winnow with erases := s.winnow.erases + 1 } } t)
  ∧ (∀ (s : State) (o b : Nat) (u : Bool), s.mainOn = true → s.winOn = true → 0x200000 ≤ o → s.slotAt 0 = none →
    ∃ t, exec (.flashRefresh o b u) s = .next t ∧ t.reg R.SEC_DENY_CNT = s.reg R.SEC_DENY_CNT + 1 ∧ t.flag R.SEC_STATUS 2 = true
      ∧ State.Differs [R.WIN_STATUS, R.SEC_DENY_CNT, R.SEC_STATUS] s t)
  ∧ (∀ (s : State) (x : Int), s.mainOn = true → s.winOn = true → -32768 ≤ x → x ≤ 32767 →
    ∃ t, exec (.telemetrySample [x] []) s = .next t ∧ signed 16 (t.field (R.WIN_TEMPi 0) 15 0) = x
      ∧ signed 16 (t.field (R.WIN_TEMPi_MM 0) 31 16) = max (signed 16 (s.field (R.WIN_TEMPi_MM 0) 31 16)) x
      ∧ signed 16 (t.field (R.WIN_TEMPi_MM 0) 15 0) = min (signed 16 (s.field (R.WIN_TEMPi_MM 0) 15 0)) x
      ∧ (t.flag R.WIN_STATUS 1 = true ↔ signed 16 (s.field R.WIN_TEMP_LIM 15 0) < x ∨ s.flag R.WIN_STATUS 1 = true)
      ∧ (t.flag R.WIN_STATUS 2 = true ↔ signed 16 (s.field R.WIN_TEMP_LIM 31 16) < x ∨ s.flag R.WIN_STATUS 2 = true)
      ∧ State.Differs [R.WIN_TEMPi 0, R.WIN_TEMPi_MM 0, R.WIN_STATUS] s t)
  ∧ (∀ (s : State) (x y v : Nat), s.mainOn = true → s.winOn = true → x < 65536 → y < 65536 → v < 65536 →
    ∃ t, exec (.telemetrySample [] [x, y, v]) s = .next t ∧ t.reg (R.WIN_VOLTi 2) = w32 v
      ∧ t.field (R.WIN_VOLTi_MM 2) 31 16 = max (s.field (R.WIN_VOLTi_MM 2) 31 16) v
      ∧ t.field (R.WIN_VOLTi_MM 2) 15 0 = min (s.field (R.WIN_VOLTi_MM 2) 15 0) v
      ∧ (t.flag R.WIN_STATUS 3 = true ↔ v < s.field R.WIN_VBAT_MIN 15 0 ∨ s.flag R.WIN_STATUS 3 = true)
      ∧ State.Differs [R.WIN_VOLTi 0, R.WIN_VOLTi_MM 0, R.WIN_VOLTi 1, R.WIN_VOLTi_MM 1, R.WIN_VOLTi 2, R.WIN_VOLTi_MM 2, R.WIN_STATUS] s t)
  ∧ (∀ (s : State) (c : Nat) (v : Word), s.mainOn = true → s.winOn = true → s.inShow = false → c < 32 → s.flag R.CALIB_SC_CTRL 2 = false →
    ∃ t, exec (.selfCalMeasure [(R.DRAM_CHc_TRAIN0 c, v)]) s = .next t
      ∧ t.reg (R.DRAM_CHc_TRAIN0 c) = blend (s.reg (R.DRAM_CHc_TRAIN0 c)) v (State.scMask (R.DRAM_CHc_TRAIN0 c))
      ∧ State.Differs [R.DRAM_CHc_TRAIN0 c] { s with calib := t.calib, badLive := t.badLive } t)
  ∧ (∀ (s : State) (c : Nat) (v : Word), s.mainOn = true → s.winOn = true → s.inShow = true → s.frameRuns = false →
    (s.braceOn = false ∨ s.brace.katRan = true) → c < 32 →
    s.flag R.CALIB_SC_CTRL 2 = false →
    ∃ t, exec (.selfCalMeasure [(R.DRAM_CHc_TRAIN0 c, v)]) s = .next t ∧ t.calib.scPend.lookup (R.DRAM_CHc_TRAIN0 c) = some v
      ∧ State.Differs [] { s with calib := { s.calib with scPend := t.calib.scPend } } t)
  ∧ (∀ (s : State) (l : List (Nat × Word)) (o b : Nat) (u : Bool) (e : EccResult) (f : List EccResult) (x : List Int) (y : List Nat) (c : Instr), s.mainOn = true →
    s.winOn = false → c ∈ [Instr.dramScrub e, .sramScrub f, .flashRefresh o b u, .telemetrySample x y, .selfCalMeasure l] →
    ∃ t, exec c s = .next t ∧ State.Differs [] s t)
end

