-- ==== Sys2Proof/Laws/Exec.lean ====
section
/-! SUPPORT. The arm of each command, one equation per constructor: a proof rewrites with it and never unfolds `exec`. -/

namespace Sys2Proof.Machine

theorem exec_registerWrite (init : Initiator) (offset : Nat) (value : Word) (be : Nat) (s : State) : exec (.registerWrite init offset value be) s = execRegisterWrite init offset value be s := rfl
theorem exec_unmappedAccess (offset : Nat) (write : Bool) (s : State) : exec (.unmappedAccess offset write) s = execUnmappedAccess offset write s := rfl
theorem exec_postedWriteComplete (key : Nat) (s : State) : exec (.postedWriteComplete key) s = execPostedWriteComplete key s := rfl
theorem exec_updateNow (groups : BitVec 16) (s : State) : exec (.updateNow groups) s = execUpdateNow groups s := rfl
theorem exec_updateAtEpoch (groups : BitVec 16) (s : State) : exec (.updateAtEpoch groups) s = execUpdateAtEpoch groups s := rfl
theorem exec_updateAtHeel (groups : BitVec 16) (s : State) : exec (.updateAtHeel groups) s = execUpdateAtHeel groups s := rfl
theorem exec_updateReservedWhen (groups : BitVec 16) (s : State) : exec (.updateReservedWhen groups) s = execUpdateReservedWhen groups s := rfl
theorem exec_groupApplyImmediate (s : State) : exec (.groupApplyImmediate) s = execGroupApplyImmediate s := rfl
theorem exec_paritySweep (upsets : List Upset) (s : State) : exec (.paritySweep upsets) s = execParitySweep upsets s := rfl
theorem exec_epochBoundary (s : State) : exec (.epochBoundary) s = execEpochBoundary s := rfl
theorem exec_heelTimeReached (s : State) : exec (.heelTimeReached) s = execHeelTimeReached s := rfl
theorem exec_timeMeasWrite (e : Word) (s : State) : exec (.timeMeasWrite e) s = execTimeMeasWrite e s := rfl
theorem exec_ptpSyncRx (port phase seq domain : Nat) (twoStep : Bool) (t1 : Ts) (correction : Int) (s : State) : exec (.ptpSyncRx port phase seq domain twoStep t1 correction) s = execPtpSyncRx port phase seq domain twoStep t1 correction s := rfl
theorem exec_ptpMessageRx (port phase domain : Nat) (msg : PtpMsg) (s : State) : exec (.ptpMessageRx port phase domain msg) s = execPtpMessageRx port phase domain msg s := rfl
theorem exec_ptpSyncTx (port : Nat) (s : State) : exec (.ptpSyncTx port) s = execPtpSyncTx port s := rfl
theorem exec_ppsCapture (edge : PpsEdge) (s : State) : exec (.ppsCapture edge) s = execPpsCapture edge s := rfl
theorem exec_ppsMissing (s : State) : exec (.ppsMissing) s = execPpsMissing s := rfl
theorem exec_ref10mMeasure (s : State) : exec (.ref10mMeasure) s = execRef10mMeasure s := rfl
theorem exec_ref10mMissing (s : State) : exec (.ref10mMissing) s = execRef10mMissing s := rfl
theorem exec_holdoverTimeout (s : State) : exec (.holdoverTimeout) s = execHoldoverTimeout s := rfl
theorem exec_timeRateWrite (rate : BitVec 40) (s : State) : exec (.timeRateWrite rate) s = execTimeRateWrite rate s := rfl
theorem exec_timeStepWrite (step : Word) (s : State) : exec (.timeStepWrite step) s = execTimeStepWrite step s := rfl
theorem exec_timeSetWrite (ns secLo secHi : Word) (s : State) : exec (.timeSetWrite ns secLo secHi) s = execTimeSetWrite ns secLo secHi s := rfl
theorem exec_framePeriodWrite (num den : Word) (s : State) : exec (.framePeriodWrite num den) s = execFramePeriodWrite num den s := rfl
theorem exec_epochAdjWrite (value : Word) (s : State) : exec (.epochAdjWrite value) s = execEpochAdjWrite value s := rfl
theorem exec_ltcFrameRx (tc ub : Word) (ago : Nat) (s : State) : exec (.ltcFrameRx tc ub ago) s = execLtcFrameRx tc ub ago s := rfl
theorem exec_ltcLoss (s : State) : exec (.ltcLoss) s = execLtcLoss s := rfl
theorem exec_ltcOutFrame (s : State) : exec (.ltcOutFrame) s = execLtcOutFrame s := rfl
theorem exec_tsqPop (s : State) : exec (.tsqPop) s = execTsqPop s := rfl
theorem exec_tsqLostPop (s : State) : exec (.tsqLostPop) s = execTsqLostPop s := rfl
theorem exec_hoTargetPush (pin : Nat) (ns secLo secHi : Word) (s : State) : exec (.hoTargetPush pin ns secLo secHi) s = execHoTargetPush pin ns secLo secHi s := rfl
theorem exec_heelOutEdge (pin : Nat) (s : State) : exec (.heelOutEdge pin) s = execHeelOutEdge pin s := rfl
theorem exec_pllUnlock (unit : ClockUnit) (s : State) : exec (.pllUnlock unit) s = execPllUnlock unit s := rfl
theorem exec_pllRelock (unit : ClockUnit) (s : State) : exec (.pllRelock unit) s = execPllRelock unit s := rfl
theorem exec_sbyTrimMeasure (error : Int) (s : State) : exec (.sbyTrimMeasure error) s = execSbyTrimMeasure error s := rfl
theorem exec_videoPacketRx (rx : Nat) (hdr : RtpHdr) (seq : Word) (ts : Word) (marker : Bool) (srds : List Srd) (s : State) : exec (.videoPacketRx rx hdr seq ts marker srds) s = execVideoPacketRx rx hdr seq ts marker srds s := rfl
theorem exec_audioPacketRx (rx : Nat) (hdr : RtpHdr) (seq : BitVec 16) (ts : Word) (payload : Bytes) (s : State) : exec (.audioPacketRx rx hdr seq ts payload) s = execAudioPacketRx rx hdr seq ts payload s := rfl
theorem exec_pathTimeout (rx : Nat) (audio pathB : Bool) (s : State) : exec (.pathTimeout rx audio pathB) s = execPathTimeout rx audio pathB s := rfl
theorem exec_audioGap (rx : Nat) (s : State) : exec (.audioGap rx) s = execAudioGap rx s := rfl
theorem exec_audioLagSecond (s : State) : exec (.audioLagSecond) s = execAudioLagSecond s := rfl
theorem exec_rasterFetchDone (line : Nat) (s : State) : exec (.rasterFetchDone line) s = execRasterFetchDone line s := rfl
theorem exec_rasterPixelDue (s : State) : exec (.rasterPixelDue) s = execRasterPixelDue s := rfl
theorem exec_rasterHoldRelease (s : State) : exec (.rasterHoldRelease) s = execRasterHoldRelease s := rfl
theorem exec_previewHpd (output : Nat) (trained : Bool) (s : State) : exec (.previewHpd output trained) s = execPreviewHpd output trained s := rfl
theorem exec_previewPixelDue (output : Nat) (fetched : Bool) (s : State) : exec (.previewPixelDue output fetched) s = execPreviewPixelDue output fetched s := rfl
theorem exec_pvAuxCmd (output : Nat) (value : Word) (s : State) : exec (.pvAuxCmd output value) s = execPvAuxCmd output value s := rfl
theorem exec_auxDone (output : Nat) (result : AuxResult) (data : Bytes) (s : State) : exec (.auxDone output result data) s = execAuxDone output result data s := rfl
theorem exec_graphCopyDone (s : State) : exec (.graphCopyDone) s = execGraphCopyDone s := rfl
theorem exec_grainReady (node : Nat) (s : State) : exec (.grainReady node) s = execGrainReady node s := rfl
theorem exec_grainTake (engine : Nat) (s : State) : exec (.grainTake engine) s = execGrainTake engine s := rfl
theorem exec_grainComplete (engine : Nat) (s : State) : exec (.grainComplete engine) s = execGrainComplete engine s := rfl
theorem exec_frameComplete (s : State) : exec (.frameComplete) s = execFrameComplete s := rfl
theorem exec_frameDeadline (s : State) : exec (.frameDeadline) s = execFrameDeadline s := rfl
theorem exec_engineWatchdog (engine : Nat) (s : State) : exec (.engineWatchdog engine) s = execEngineWatchdog engine s := rfl
theorem exec_localStoreError (engine : Nat) (corrected : Bool) (s : State) : exec (.localStoreError engine corrected) s = execLocalStoreError engine corrected s := rfl
theorem exec_engineRestart (engine : Nat) (s : State) : exec (.engineRestart engine) s = execEngineRestart engine s := rfl
theorem exec_paramDataWrite (value : Word) (s : State) : exec (.paramDataWrite value) s = execParamDataWrite value s := rfl
theorem exec_calibGainsDone (s : State) : exec (.calibGainsDone) s = execCalibGainsDone s := rfl
theorem exec_calibCopy (s : State) : exec (.calibCopy) s = execCalibCopy s := rfl
theorem exec_calibCopyDone (s : State) : exec (.calibCopyDone) s = execCalibCopyDone s := rfl
theorem exec_calibCommit (atEpoch : Bool) (s : State) : exec (.calibCommit atEpoch) s = execCalibCommit atEpoch s := rfl
theorem exec_commitValidated (s : State) : exec (.commitValidated) s = execCommitValidated s := rfl
theorem exec_calibCancel (s : State) : exec (.calibCancel) s = execCalibCancel s := rfl
theorem exec_safeInWrite (zone : Nat) (value : Word) (s : State) : exec (.safeInWrite zone value) s = execSafeInWrite zone value s := rfl
theorem exec_scCoeffWrite (offset : Nat) (value : Word) (s : State) : exec (.scCoeffWrite offset value) s = execScCoeffWrite offset value s := rfl
theorem exec_scApplyIfg (lane : Nat) (s : State) : exec (.scApplyIfg lane) s = execScApplyIfg lane s := rfl
theorem exec_planDiagClear (s : State) : exec (.planDiagClear) s = execPlanDiagClear s := rfl
theorem exec_planDiagClearDone (s : State) : exec (.planDiagClearDone) s = execPlanDiagClearDone s := rfl
theorem exec_ledStatusAge (led : Nat) (s : State) : exec (.ledStatusAge led) s = execLedStatusAge led s := rfl
theorem exec_voconSinkRecord (s : State) : exec (.voconSinkRecord) s = execVoconSinkRecord s := rfl
theorem exec_fragmentReady (tile : Nat) (epoch : Epoch) (idx : Nat) (s : State) : exec (.fragmentReady tile epoch idx) s = execFragmentReady tile epoch idx s := rfl
theorem exec_planFragmentSend (port : Nat) (s : State) : exec (.planFragmentSend port) s = execPlanFragmentSend port s := rfl
theorem exec_resendWindowClose (s : State) : exec (.resendWindowClose) s = execResendWindowClose s := rfl
theorem exec_vcnKeyAgeLimit (s : State) : exec (.vcnKeyAgeLimit) s = execVcnKeyAgeLimit s := rfl
theorem exec_helloRx (port : Nat) (frame : Bytes) (s : State) : exec (.helloRx port frame) s = execHelloRx port frame s := rfl
theorem exec_echoReportRx (port : Nat) (frame : Bytes) (s : State) : exec (.echoReportRx port frame) s = execEchoReportRx port frame s := rfl
theorem exec_echoLossRx (port : Nat) (frame : Bytes) (s : State) : exec (.echoLossRx port frame) s = execEchoLossRx port frame s := rfl
theorem exec_echoDetectRx (port : Nat) (frame : Bytes) (s : State) : exec (.echoDetectRx port frame) s = execEchoDetectRx port frame s := rfl
theorem exec_cfgrspRx (port : Nat) (frame : Bytes) (s : State) : exec (.cfgrspRx port frame) s = execCfgrspRx port frame s := rfl
theorem exec_diagPingRx (port : Nat) (frame : Bytes) (s : State) : exec (.diagPingRx port frame) s = execDiagPingRx port frame s := rfl
theorem exec_diagTileRx (port : Nat) (frame : Bytes) (s : State) : exec (.diagTileRx port frame) s = execDiagTileRx port frame s := rfl
theorem exec_heelCopySend (s : State) : exec (.heelCopySend) s = execHeelCopySend s := rfl
theorem exec_verifySinkRecord (s : State) : exec (.verifySinkRecord) s = execVerifySinkRecord s := rfl
theorem exec_verifyClose (s : State) : exec (.verifyClose) s = execVerifyClose s := rfl
theorem exec_fixtureSinkRecord (s : State) : exec (.fixtureSinkRecord) s = execFixtureSinkRecord s := rfl
theorem exec_sacnPacketSend (s : State) : exec (.sacnPacketSend) s = execSacnPacketSend s := rfl
theorem exec_sacnGuardExpiry (s : State) : exec (.sacnGuardExpiry) s = execSacnGuardExpiry s := rfl
theorem exec_sacnSyncSend (s : State) : exec (.sacnSyncSend) s = execSacnSyncSend s := rfl
theorem exec_streamTerminatedSend (s : State) : exec (.streamTerminatedSend) s = execStreamTerminatedSend s := rfl
theorem exec_sacnInputRx (port : Nat) (packet : Bytes) (s : State) : exec (.sacnInputRx port packet) s = execSacnInputRx port packet s := rfl
theorem exec_sacnInputSyncRx (port : Nat) (packet : Bytes) (s : State) : exec (.sacnInputSyncRx port packet) s = execSacnInputSyncRx port packet s := rfl
theorem exec_sacnSourceLoss (input cid : Nat) (s : State) : exec (.sacnSourceLoss input cid) s = execSacnSourceLoss input cid s := rfl
theorem exec_eptAge (entry : Nat) (s : State) : exec (.eptAge entry) s = execEptAge entry s := rfl
theorem exec_fixOvrDataWrite (value : Word) (s : State) : exec (.fixOvrDataWrite value) s = execFixOvrDataWrite value s := rfl
theorem exec_dmxPacketStart (port : Nat) (s : State) : exec (.dmxPacketStart port) s = execDmxPacketStart port s := rfl
theorem exec_dmxPacketRx (port brkNs mabNs : Nat) (framingError : Bool) (packet : Bytes) (s : State) : exec (.dmxPacketRx port brkNs mabNs framingError packet) s = execDmxPacketRx port brkNs mabNs framingError packet s := rfl
theorem exec_dmxSourceLoss (port : Nat) (s : State) : exec (.dmxSourceLoss port) s = execDmxSourceLoss port s := rfl
theorem exec_rdmGo (port : Nat) (s : State) : exec (.rdmGo port) s = execRdmGo port s := rfl
theorem exec_rdmResponseRx (port ago : Nat) (collision : Bool) (response : Bytes) (s : State) : exec (.rdmResponseRx port ago collision response) s = execRdmResponseRx port ago collision response s := rfl
theorem exec_rdmTimeout (port : Nat) (s : State) : exec (.rdmTimeout port) s = execRdmTimeout port s := rfl
theorem exec_uartCharRx (port : Nat) (data : List Samples) (parity stop start : Samples) (ago : Nat) (s : State) : exec (.uartCharRx port data parity stop start ago) s = execUartCharRx port data parity stop start ago s := rfl
theorem exec_uartBreakDetect (port : Nat) (s : State) : exec (.uartBreakDetect port) s = execUartBreakDetect port s := rfl
theorem exec_uartBreakEnd (port cycles : Nat) (s : State) : exec (.uartBreakEnd port cycles) s = execUartBreakEnd port cycles s := rfl
theorem exec_uartLineStuck (port : Nat) (s : State) : exec (.uartLineStuck port) s = execUartLineStuck port s := rfl
theorem exec_uartStuckRearm (port : Nat) (s : State) : exec (.uartStuckRearm port) s = execUartStuckRearm port s := rfl
theorem exec_uartRxTimeout (port : Nat) (s : State) : exec (.uartRxTimeout port) s = execUartRxTimeout port s := rfl
theorem exec_uartDataRead (port : Nat) (s : State) : exec (.uartDataRead port) s = execUartDataRead port s := rfl
theorem exec_uartDataWrite (port : Nat) (value : Word) (s : State) : exec (.uartDataWrite port value) s = execUartDataWrite port value s := rfl
theorem exec_uartLsrRead (port : Nat) (s : State) : exec (.uartLsrRead port) s = execUartLsrRead port s := rfl
theorem exec_uartTxEntryStart (port : Nat) (s : State) : exec (.uartTxEntryStart port) s = execUartTxEntryStart port s := rfl
theorem exec_uartTxDone (port : Nat) (s : State) : exec (.uartTxDone port) s = execUartTxDone port s := rfl
theorem exec_flushRx (port : Nat) (s : State) : exec (.flushRx port) s = execFlushRx port s := rfl
theorem exec_flushTx (port : Nat) (s : State) : exec (.flushTx port) s = execFlushTx port s := rfl
theorem exec_sentenceComplete (port : Nat) (s : State) : exec (.sentenceComplete port) s = execSentenceComplete port s := rfl
theorem exec_hubTxqMove (port : Nat) (s : State) : exec (.hubTxqMove port) s = execHubTxqMove port s := rfl
theorem exec_ruleCopyDone (s : State) : exec (.ruleCopyDone) s = execRuleCopyDone s := rfl
theorem exec_sigmapPass (evaluated : Nat) (s : State) : exec (.sigmapPass evaluated) s = execSigmapPass evaluated s := rfl
theorem exec_macFrameRx (port : Nat) (frame : Bytes) (info : RxInfo) (s : State) : exec (.macFrameRx port frame info) s = execMacFrameRx port frame info s := rfl
theorem exec_pauseRx (port quanta wire : Nat) (s : State) : exec (.pauseRx port quanta wire) s = execPauseRx port quanta wire s := rfl
theorem exec_pfcRx (port : Nat) (enable : BitVec 8) (times : List Nat) (wire : Nat) (s : State) : exec (.pfcRx port enable times wire) s = execPfcRx port enable times wire s := rfl
theorem exec_pauseExpiry (port : Nat) (s : State) : exec (.pauseExpiry port) s = execPauseExpiry port s := rfl
theorem exec_leashLimit (port : Nat) (s : State) : exec (.leashLimit port) s = execLeashLimit port s := rfl
theorem exec_leashHoldEnd (port : Nat) (s : State) : exec (.leashHoldEnd port) s = execLeashHoldEnd port s := rfl
theorem exec_fcXoffSend (port held : Nat) (s : State) : exec (.fcXoffSend port held) s = execFcXoffSend port held s := rfl
theorem exec_fcRefresh (port held : Nat) (s : State) : exec (.fcRefresh port held) s = execFcRefresh port held s := rfl
theorem exec_fcXonSend (port held : Nat) (s : State) : exec (.fcXonSend port held) s = execFcXonSend port held s := rfl
theorem exec_macTxFrame (port : Nat) (during : Bool) (dry : Option Nat) (s : State) : exec (.macTxFrame port during dry) s = execMacTxFrame port during dry s := rfl
theorem exec_deadlineDrop (port : Nat) (s : State) : exec (.deadlineDrop port) s = execDeadlineDrop port s := rfl
theorem exec_macLinkChange (port : Nat) (link : Option LinkReport) (s : State) : exec (.macLinkChange port link) s = execMacLinkChange port link s := rfl
theorem exec_preemptVerify (port : Nat) (answered : Bool) (s : State) : exec (.preemptVerify port answered) s = execPreemptVerify port answered s := rfl
theorem exec_wakeFrameRx (port : Nat) (frame : Bytes) (s : State) : exec (.wakeFrameRx port frame) s = execWakeFrameRx port frame s := rfl
theorem exec_downshiftDown (port : Nat) (s : State) : exec (.downshiftDown port) s = execDownshiftDown port s := rfl
theorem exec_downshiftUp (port : Nat) (s : State) : exec (.downshiftUp port) s = execDownshiftUp port s := rfl
theorem exec_macsecSaWrite (port : Nat) (sc : Option Nat) (an : Nat) (value : Word) (s : State) : exec (.macsecSaWrite port sc an value) s = execMacsecSaWrite port sc an value s := rfl
theorem exec_macStatRead (port counter : Nat) (s : State) : exec (.macStatRead port counter) s = execMacStatRead port counter s := rfl
theorem exec_cmdTailWrite (ring : Nat) (value : BitVec 16) (s : State) : exec (.cmdTailWrite ring value) s = execCmdTailWrite ring value s := rfl
theorem exec_cplHeadWrite (ring : Nat) (value : BitVec 16) (s : State) : exec (.cplHeadWrite ring value) s = execCplHeadWrite ring value s := rfl
theorem exec_ringEnable (ring : Nat) (s : State) : exec (.ringEnable ring) s = execRingEnable ring s := rfl
theorem exec_ringDisable (ring : Nat) (s : State) : exec (.ringDisable ring) s = execRingDisable ring s := rfl
theorem exec_ringDrained (ring : Nat) (s : State) : exec (.ringDrained ring) s = execRingDrained ring s := rfl
theorem exec_descriptorFetch (failed : Bool) (s : State) : exec (.descriptorFetch failed) s = execDescriptorFetch failed s := rfl
theorem exec_nop (ring : Nat) (s : State) : exec (.nop ring) s = execNop ring s := rfl
theorem exec_paramWrite (ring : Nat) (s : State) : exec (.paramWrite ring) s = execParamWrite ring s := rfl
theorem exec_dmaToDevice (ring : Nat) (s : State) : exec (.dmaToDevice ring) s = execDmaToDevice ring s := rfl
theorem exec_dmaFromDevice (ring : Nat) (s : State) : exec (.dmaFromDevice ring) s = execDmaFromDevice ring s := rfl
theorem exec_dmaComplete (ring index : Nat) (failed : Bool) (s : State) : exec (.dmaComplete ring index failed) s = execDmaComplete ring index failed s := rfl
theorem exec_calibOp (ring : Nat) (s : State) : exec (.calibOp ring) s = execCalibOp ring s := rfl
theorem exec_updateOp (ring : Nat) (s : State) : exec (.updateOp ring) s = execUpdateOp ring s := rfl
theorem exec_epochWait (ring : Nat) (s : State) : exec (.epochWait ring) s = execEpochWait ring s := rfl
theorem exec_txFrame (ring : Nat) (s : State) : exec (.txFrame ring) s = execTxFrame ring s := rfl
theorem exec_rxPost (ring : Nat) (s : State) : exec (.rxPost ring) s = execRxPost ring s := rfl
theorem exec_pcieLinkLoss (s : State) : exec (.pcieLinkLoss) s = execPcieLinkLoss s := rfl
theorem exec_functionLevelReset (s : State) : exec (.functionLevelReset) s = execFunctionLevelReset s := rfl
theorem exec_farWrite (ring : Nat) (s : State) : exec (.farWrite ring) s = execFarWrite ring s := rfl
theorem exec_farRead (ring : Nat) (s : State) : exec (.farRead ring) s = execFarRead ring s := rfl
theorem exec_farPieceTimeout (tag : Nat) (s : State) : exec (.farPieceTimeout tag) s = execFarPieceTimeout tag s := rfl
theorem exec_prefetchExpire (window : Nat) (s : State) : exec (.prefetchExpire window) s = execPrefetchExpire window s := rfl
theorem exec_farPoll (s : State) : exec (.farPoll) s = execFarPoll s := rfl
theorem exec_farPollTimeout (tile : Nat) (s : State) : exec (.farPollTimeout tile) s = execFarPollTimeout tile s := rfl
theorem exec_intcOffer (ie asleep : BitVec 4) (s : State) : exec (.intcOffer ie asleep) s = execIntcOffer ie asleep s := rfl
theorem exec_intcEntry (core : Nat) (s : State) : exec (.intcEntry core) s = execIntcEntry core s := rfl
theorem exec_intcEoi (core : Nat) (source : Word) (s : State) : exec (.intcEoi core source) s = execIntcEoi core source s := rfl
theorem exec_intcSrcWrite (source : Nat) (value : Word) (s : State) : exec (.intcSrcWrite source value) s = execIntcSrcWrite source value s := rfl
theorem exec_intcPendWrite (index : Nat) (value : Word) (s : State) : exec (.intcPendWrite index value) s = execIntcPendWrite index value s := rfl
theorem exec_intcModRelease (core : Nat) (s : State) : exec (.intcModRelease core) s = execIntcModRelease core s := rfl
theorem exec_intcCoreIdle (core : Nat) (s : State) : exec (.intcCoreIdle core) s = execIntcCoreIdle core s := rfl
theorem exec_msixMessage (vector : Nat) (s : State) : exec (.msixMessage vector) s = execMsixMessage vector s := rfl
theorem exec_msixModExpiry (vector : Nat) (s : State) : exec (.msixModExpiry vector) s = execMsixModExpiry vector s := rfl
theorem exec_braceStateSend (s : State) : exec (.braceStateSend) s = execBraceStateSend s := rfl
theorem exec_braceStateRx (frame : Bytes) (s : State) : exec (.braceStateRx frame) s = execBraceStateRx frame s := rfl
theorem exec_braceReleaseRx (frame : Bytes) (s : State) : exec (.braceReleaseRx frame) s = execBraceReleaseRx frame s := rfl
theorem exec_braceHandoverRx (frame : Bytes) (s : State) : exec (.braceHandoverRx frame) s = execBraceHandoverRx frame s := rfl
theorem exec_echoFwdRx (frame : Bytes) (s : State) : exec (.echoFwdRx frame) s = execEchoFwdRx frame s := rfl
theorem exec_farReqRx (frame : Bytes) (s : State) : exec (.farReqRx frame) s = execFarReqRx frame s := rfl
theorem exec_farRspRx (frame : Bytes) (s : State) : exec (.farRspRx frame) s = execFarRspRx frame s := rfl
theorem exec_braceSb3Edge (s : State) : exec (.braceSb3Edge) s = execBraceSb3Edge s := rfl
theorem exec_braceSb2Fall (s : State) : exec (.braceSb2Fall) s = execBraceSb2Fall s := rfl
theorem exec_partnerLost (s : State) : exec (.partnerLost) s = execPartnerLost s := rfl
theorem exec_seekTimeout (s : State) : exec (.seekTimeout) s = execSeekTimeout s := rfl
theorem exec_braceRelease (s : State) : exec (.braceRelease) s = execBraceRelease s := rfl
theorem exec_braceCmdRelease (s : State) : exec (.braceCmdRelease) s = execBraceCmdRelease s := rfl
theorem exec_braceCmdHandover (s : State) : exec (.braceCmdHandover) s = execBraceCmdHandover s := rfl
theorem exec_braceCmdRejoin (s : State) : exec (.braceCmdRejoin) s = execBraceCmdRejoin s := rfl
theorem exec_braceOp (ring : Nat) (s : State) : exec (.braceOp ring) s = execBraceOp ring s := rfl
theorem exec_katRun (passed : Bool) (s : State) : exec (.katRun passed) s = execKatRun passed s := rfl
theorem exec_confirmationTestDone (failed : List Nat) (s : State) : exec (.confirmationTestDone failed) s = execConfirmationTestDone failed s := rfl
theorem exec_classDigestDone (cls : Nat) (s : State) : exec (.classDigestDone cls) s = execClassDigestDone cls s := rfl
theorem exec_sheafSweep (s : State) : exec (.sheafSweep) s = execSheafSweep s := rfl
theorem exec_sheafArm (s : State) : exec (.sheafArm) s = execSheafArm s := rfl
theorem exec_sheafDisarm (s : State) : exec (.sheafDisarm) s = execSheafDisarm s := rfl
theorem exec_sheafRecompute (s : State) : exec (.sheafRecompute) s = execSheafRecompute s := rfl
theorem exec_sheafOpArm (ring : Nat) (s : State) : exec (.sheafOpArm ring) s = execSheafOpArm ring s := rfl
theorem exec_sheafOpDisarm (ring : Nat) (s : State) : exec (.sheafOpDisarm ring) s = execSheafOpDisarm ring s := rfl
theorem exec_sheafOpRecompute (ring : Nat) (s : State) : exec (.sheafOpRecompute ring) s = execSheafOpRecompute ring s := rfl
theorem exec_keyLoad (ring : Nat) (written : Bool) (s : State) : exec (.keyLoad ring written) s = execKeyLoad ring written s := rfl
theorem exec_keyUnwrap (ring : Nat) (written : Bool) (s : State) : exec (.keyUnwrap ring written) s = execKeyUnwrap ring written s := rfl
theorem exec_keyErase (ring : Nat) (s : State) : exec (.keyErase ring) s = execKeyErase ring s := rfl
theorem exec_keyInfo (ring : Nat) (s : State) : exec (.keyInfo ring) s = execKeyInfo ring s := rfl
theorem exec_tamperClear (ring : Nat) (s : State) : exec (.tamperClear ring) s = execTamperClear ring s := rfl
theorem exec_debugClose (ring : Nat) (s : State) : exec (.debugClose ring) s = execDebugClose ring s := rfl
theorem exec_tamperDetect (source : Nat) (reading : Int) (s : State) : exec (.tamperDetect source reading) s = execTamperDetect source reading s := rfl
theorem exec_secMaintWrite (minutes : Word) (s : State) : exec (.secMaintWrite minutes) s = execSecMaintWrite minutes s := rfl
theorem exec_maintEnd (s : State) : exec (.maintEnd) s = execMaintEnd s := rfl
theorem exec_checkFeed8 (init : Initiator) (unit : Nat) (value : Word) (s : State) : exec (.checkFeed8 init unit value) s = execCheckFeed8 init unit value s := rfl
theorem exec_checkFeed16 (init : Initiator) (unit : Nat) (value : Word) (s : State) : exec (.checkFeed16 init unit value) s = execCheckFeed16 init unit value s := rfl
theorem exec_checkFeed32 (init : Initiator) (unit : Nat) (value : Word) (s : State) : exec (.checkFeed32 init unit value) s = execCheckFeed32 init unit value s := rfl
theorem exec_checkInit (init : Initiator) (unit : Nat) (s : State) : exec (.checkInit init unit) s = execCheckInit init unit s := rfl
theorem exec_checkAppend (init : Initiator) (unit : Nat) (s : State) : exec (.checkAppend init unit) s = execCheckAppend init unit s := rfl
theorem exec_checkFrameEnd (unit : Nat) (s : State) : exec (.checkFrameEnd unit) s = execCheckFrameEnd unit s := rfl
theorem exec_updOpen (peer : Peer) (message : Bytes) (s : State) : exec (.updOpen peer message) s = execUpdOpen peer message s := rfl
theorem exec_updBlock (peer : Peer) (message : Bytes) (s : State) : exec (.updBlock peer message) s = execUpdBlock peer message s := rfl
theorem exec_updVerify (peer : Peer) (message : Bytes) (s : State) : exec (.updVerify peer message) s = execUpdVerify peer message s := rfl
theorem exec_imageWriteDone (matching : Bool) (s : State) : exec (.imageWriteDone matching) s = execImageWriteDone matching s := rfl
theorem exec_updActivate (peer : Peer) (message : Bytes) (s : State) : exec (.updActivate peer message) s = execUpdActivate peer message s := rfl
theorem exec_updAbort (peer : Peer) (message : Bytes) (s : State) : exec (.updAbort peer message) s = execUpdAbort peer message s := rfl
theorem exec_updStatusReq (peer : Peer) (message : Bytes) (s : State) : exec (.updStatusReq peer message) s = execUpdStatusReq peer message s := rfl
theorem exec_updRecover (peer : Peer) (message : Bytes) (s : State) : exec (.updRecover peer message) s = execUpdRecover peer message s := rfl
theorem exec_updSessionTimeout (s : State) : exec (.updSessionTimeout) s = execUpdSessionTimeout s := rfl
theorem exec_updOpVerify (ring : Nat) (s : State) : exec (.updOpVerify ring) s = execUpdOpVerify ring s := rfl
theorem exec_updOpActivate (ring : Nat) (s : State) : exec (.updOpActivate ring) s = execUpdOpActivate ring s := rfl
theorem exec_updOpConfirm (ring : Nat) (s : State) : exec (.updOpConfirm ring) s = execUpdOpConfirm ring s := rfl
theorem exec_updOpReject (ring : Nat) (s : State) : exec (.updOpReject ring) s = execUpdOpReject ring s := rfl
theorem exec_updOpAbort (ring : Nat) (s : State) : exec (.updOpAbort ring) s = execUpdOpAbort ring s := rfl
theorem exec_trialTimeout (s : State) : exec (.trialTimeout) s = execTrialTimeout s := rfl
theorem exec_pwrCmdShow (s : State) : exec (.pwrCmdShow) s = execPwrCmdShow s := rfl
theorem exec_pwrCmdIdle (s : State) : exec (.pwrCmdIdle) s = execPwrCmdIdle s := rfl
theorem exec_pwrCmdStandby (s : State) : exec (.pwrCmdStandby) s = execPwrCmdStandby s := rfl
theorem exec_pwrCmdWarm (s : State) : exec (.pwrCmdWarm) s = execPwrCmdWarm s := rfl
theorem exec_standbyEntryDone (s : State) : exec (.standbyEntryDone) s = execStandbyEntryDone s := rfl
theorem exec_wakePin (s : State) : exec (.wakePin) s = execWakePin s := rfl
theorem exec_rtcAlarm (s : State) : exec (.rtcAlarm) s = execRtcAlarm s := rfl
theorem exec_supply12vRise (s : State) : exec (.supply12vRise) s = execSupply12vRise s := rfl
theorem exec_supply12vFail (s : State) : exec (.supply12vFail) s = execSupply12vFail s := rfl
theorem exec_supply33vLoss (s : State) : exec (.supply33vLoss) s = execSupply33vLoss s := rfl
theorem exec_pinReset (s : State) : exec (.pinReset) s = execPinReset s := rfl
theorem exec_coreWatchdogReset (security : Bool) (s : State) : exec (.coreWatchdogReset security) s = execCoreWatchdogReset security s := rfl
theorem exec_boot (r : BootReport) (s : State) : exec (.boot r) s = execBoot r s := rfl
theorem exec_bootStageOverrun (stage : Nat) (s : State) : exec (.bootStageOverrun stage) s = execBootStageOverrun stage s := rfl
theorem exec_dramScrub (found : EccResult) (s : State) : exec (.dramScrub found) s = execDramScrub found s := rfl
theorem exec_dramUeShow (address : Nat) (s : State) : exec (.dramUeShow address) s = execDramUeShow address s := rfl
theorem exec_sramScrub (found : List EccResult) (s : State) : exec (.sramScrub found) s = execSramScrub found s := rfl
theorem exec_flashRefresh (offset correctedBits : Nat) (uncorrectable : Bool) (s : State) : exec (.flashRefresh offset correctedBits uncorrectable) s = execFlashRefresh offset correctedBits uncorrectable s := rfl
theorem exec_telemetrySample (temps : List Int) (volts : List Nat) (s : State) : exec (.telemetrySample temps volts) s = execTelemetrySample temps volts s := rfl
theorem exec_selfCalMeasure (results : List (Nat × Word)) (s : State) : exec (.selfCalMeasure results) s = execSelfCalMeasure results s := rfl
theorem exec_gpioSet (high : Bool) (value : Word) (s : State) : exec (.gpioSet high value) s = execGpioSet high value s := rfl
theorem exec_gpioClr (high : Bool) (value : Word) (s : State) : exec (.gpioClr high value) s = execGpioClr high value s := rfl
theorem exec_pinInterruptEdge (pin : Nat) (edge : BallEdge) (s : State) : exec (.pinInterruptEdge pin edge) s = execPinInterruptEdge pin edge s := rfl
theorem exec_bar4Access (offset : Nat) (write : Option Bytes) (count : Nat) (s : State) : exec (.bar4Access offset write count) s = execBar4Access offset write count s := rfl
theorem exec_pcieLinkUp (gen width bar4 : Nat) (msixEn funcMask : Bool) (s : State) : exec (.pcieLinkUp gen width bar4 msixEn funcMask) s = execPcieLinkUp gen width bar4 msixEn funcMask s := rfl
theorem exec_supply33vRise (s : State) : exec (.supply33vRise) s = execSupply33vRise s := rfl
theorem exec_delayReqSend (port : Nat) (s : State) : exec (.delayReqSend port) s = execDelayReqSend port s := rfl
theorem exec_uartFalseStart (port : Nat) (s : State) : exec (.uartFalseStart port) s = execUartFalseStart port s := rfl
theorem exec_lineRiseHeldCharacter (port : Nat) (s : State) : exec (.lineRiseHeldCharacter port) s = execLineRiseHeldCharacter port s := rfl
theorem exec_heelOutPulseEnd (pin : Nat) (s : State) : exec (.heelOutPulseEnd pin) s = execHeelOutPulseEnd pin s := rfl
theorem exec_sacnSyncHoldExpiry (input cid : Nat) (s : State) : exec (.sacnSyncHoldExpiry input cid) s = execSacnSyncHoldExpiry input cid s := rfl
theorem exec_previewHpdDrop (output : Nat) (s : State) : exec (.previewHpdDrop output) s = execPreviewHpdDrop output s := rfl
theorem exec_updVerifyDone (s : State) : exec (.updVerifyDone) s = execUpdVerifyDone s := rfl
theorem exec_trngHealthFail (s : State) : exec (.trngHealthFail) s = execTrngHealthFail s := rfl

end Sys2Proof.Machine
end

