-- ==== Sys2Proof/Laws/Sparse.lean ====
section
/-! SUPPORT. Sparse data: a read after a write gives the value written, a write leaves every other key alone, and a write keeps the
canonical form. -/

namespace Sys2Proof.Machine.Sparse

variable {α : Type}

theorem get_erase_same (d : α) (m : List (Nat × α)) (a : Nat) : get d (erase m a) a = d := by
  induction m with
  | nil => rfl
  | cons e t ih =>
    obtain ⟨k, v⟩ := e
    by_cases h : k = a
    · simp [erase, h, ih]
    · simp [erase, get, h, ih]

theorem get_erase_ne (d : α) (m : List (Nat × α)) {a b : Nat} (h : b ≠ a) : get d (erase m a) b = get d m b := by
  induction m with
  | nil => rfl
  | cons e t ih =>
    obtain ⟨k, v⟩ := e
    by_cases hk : k = a
    · have : k ≠ b := by omega
      simp [erase, get, hk, ih, Ne.symm h]
    · simp only [erase, hk, if_false, get]
      split
      · rfl
      · exact ih

theorem get_insertAt_same (d : α) (m : List (Nat × α)) (a : Nat) (v : α) (h : ∀ e ∈ m, e.1 ≠ a) :
    get d (insertAt m a v) a = v := by
  induction m with
  | nil => simp [insertAt, get]
  | cons e t ih =>
    obtain ⟨k, x⟩ := e
    have hk : k ≠ a := h (k, x) (by simp)
    have ht := ih (fun e he => h e (by simp [he]))
    by_cases hlt : a < k <;> simp [insertAt, get, hlt, hk, ht]

theorem get_insertAt_ne (d : α) (m : List (Nat × α)) {a b : Nat} (v : α) (h : b ≠ a) :
    get d (insertAt m a v) b = get d m b := by
  induction m with
  | nil => simp [insertAt, get, Ne.symm h]
  | cons e t ih =>
    obtain ⟨k, x⟩ := e
    by_cases hlt : a < k
    · simp [insertAt, get, hlt, Ne.symm h]
    · simp [insertAt, get, hlt, ih]

theorem erase_absent (m : List (Nat × α)) (a : Nat) : ∀ e ∈ erase m a, e.1 ≠ a := by
  induction m with
  | nil => simp [erase]
  | cons e t ih =>
    obtain ⟨k, v⟩ := e
    by_cases h : k = a
    · simpa [erase, h] using ih
    · intro e he
      simp only [erase, h, if_false, List.mem_cons] at he
      rcases he with rfl | he
      · exact h
      · exact ih e he

@[simp] theorem get_put_same [DecidableEq α] (d : α) (m : List (Nat × α)) (a : Nat) (v : α) : get d (put d m a v) a = v := by
  unfold put
  split
  · rw [get_erase_same]; symm; assumption
  · exact get_insertAt_same d _ a v (erase_absent m a)

theorem get_put_ne [DecidableEq α] (d d' : α) (m : List (Nat × α)) {a b : Nat} (v : α) (h : b ≠ a) :
    get d' (put d m a v) b = get d' m b := by
  unfold put
  split
  · exact get_erase_ne d' m h
  · rw [get_insertAt_ne d' _ v h, get_erase_ne d' m h]

@[simp] theorem get_nil (d : α) (a : Nat) : get d [] a = d := rfl

/-! ## The canonical form -/

theorem rising_mono {m : List (Nat × α)} {b c : Nat} (h : c ≤ b) (hm : rising b m = true) : rising c m = true := by
  cases m with
  | nil => rfl
  | cons e t =>
    obtain ⟨k, v⟩ := e
    simp only [rising, Bool.and_eq_true, decide_eq_true_eq] at hm ⊢
    exact ⟨Nat.le_trans h hm.1, hm.2⟩

theorem rising_erase {m : List (Nat × α)} {b : Nat} (a : Nat) (hm : rising b m = true) : rising b (erase m a) = true := by
  induction m generalizing b with
  | nil => rfl
  | cons e t ih =>
    obtain ⟨k, v⟩ := e
    simp only [rising, Bool.and_eq_true, decide_eq_true_eq] at hm
    by_cases h : k = a
    · simp only [erase, h, if_true]
      exact rising_mono (by omega) (ih hm.2)
    · simp only [erase, h, if_false, rising, Bool.and_eq_true, decide_eq_true_eq]
      exact ⟨hm.1, ih hm.2⟩

theorem rising_insertAt {m : List (Nat × α)} {b : Nat} (a : Nat) (v : α) (hb : b ≤ a) (habs : ∀ e ∈ m, e.1 ≠ a)
    (hm : rising b m = true) : rising b (insertAt m a v) = true := by
  induction m generalizing b with
  | nil => simp [insertAt, rising, hb]
  | cons e t ih =>
    obtain ⟨k, x⟩ := e
    simp only [rising, Bool.and_eq_true, decide_eq_true_eq] at hm
    have hk : k ≠ a := habs (k, x) (by simp)
    by_cases hlt : a < k
    · simp only [insertAt, hlt, if_true, rising, Bool.and_eq_true, decide_eq_true_eq]
      exact ⟨hb, hlt, hm.2⟩
    · simp only [insertAt, hlt, if_false, rising, Bool.and_eq_true, decide_eq_true_eq]
      exact ⟨hm.1, ih (by omega) (fun e he => habs e (by simp [he])) hm.2⟩

theorem mem_erase {m : List (Nat × α)} {a : Nat} {e : Nat × α} (h : e ∈ erase m a) : e ∈ m := by
  induction m with
  | nil => simp [erase] at h
  | cons x t ih =>
    obtain ⟨k, v⟩ := x
    by_cases hk : k = a
    · simp only [erase, hk, if_true] at h; exact List.mem_cons_of_mem _ (ih h)
    · simp only [erase, hk, if_false, List.mem_cons] at h
      rcases h with rfl | h
      · exact List.mem_cons_self
      · exact List.mem_cons_of_mem _ (ih h)

theorem mem_insertAt {m : List (Nat × α)} {a : Nat} {v : α} {e : Nat × α} (h : e ∈ insertAt m a v) : e = (a, v) ∨ e ∈ m := by
  induction m with
  | nil => simpa [insertAt] using h
  | cons x t ih =>
    obtain ⟨k, w⟩ := x
    by_cases hlt : a < k
    · simpa [insertAt, hlt] using h
    · simp only [insertAt, hlt, if_false, List.mem_cons] at h
      rcases h with rfl | h
      · exact Or.inr List.mem_cons_self
      · rcases ih h with h | h
        · exact Or.inl h
        · exact Or.inr (List.mem_cons_of_mem _ h)

/-- A write keeps the canonical form. -/
theorem wf_put [DecidableEq α] (d : Nat → α) {m : List (Nat × α)} (a : Nat) (v : α) (hm : wf d m = true) :
    wf d (put (d a) m a v) = true := by
  simp only [wf, Bool.and_eq_true, List.all_eq_true, bne_iff_ne, ne_eq] at hm ⊢
  unfold put
  split
  · exact ⟨rising_erase a hm.1, fun e he => hm.2 e (mem_erase he)⟩
  · rename_i hv
    refine ⟨rising_insertAt a v (Nat.zero_le _) (erase_absent m a) (rising_erase a hm.1), fun e he => ?_⟩
    rcases mem_insertAt he with rfl | he
    · exact hv
    · exact hm.2 e (mem_erase he)

@[simp] theorem wf_nil [DecidableEq α] (d : Nat → α) : wf d ([] : List (Nat × α)) = true := rfl

/-- A key that reads as something else than the default is listed. -/
theorem mem_keys_of_get {d : α} {m : List (Nat × α)} {a : Nat} (h : get d m a ≠ d) : a ∈ m.map (·.1) := by
  induction m with
  | nil => simp at h
  | cons e t ih =>
    obtain ⟨k, v⟩ := e
    by_cases hk : k = a
    · simp [hk]
    · simp only [get, hk, if_false] at h
      exact List.mem_cons_of_mem _ (ih h)

end Sys2Proof.Machine.Sparse
end

