-- ==== Sys2Proof/Laws/State.lean ====
section
/-! SUPPORT. What each update of the state changes and what it leaves, one lemma per field per update, and the reads of registers and
status bits after them. -/

namespace Sys2Proof.Machine

namespace State

/-! ## Fields after an update -/

@[simp] theorem setReg_shadow (s : State) (a : Nat) (v : Word) : (s.setReg a v).shadow = s.shadow := rfl
@[simp] theorem setReg_badLive (s : State) (a : Nat) (v : Word) : (s.setReg a v).badLive = s.badLive := rfl
@[simp] theorem setReg_badShadow (s : State) (a : Nat) (v : Word) : (s.setReg a v).badShadow = s.badShadow := rfl
@[simp] theorem setReg_staged (s : State) (a : Nat) (v : Word) : (s.setReg a v).staged = s.staged := rfl
@[simp] theorem setReg_latch (s : State) (a : Nat) (v : Word) : (s.setReg a v).latch = s.latch := rfl
@[simp] theorem setReg_posted (s : State) (a : Nat) (v : Word) : (s.setReg a v).posted = s.posted := rfl
@[simp] theorem setReg_wo1Used (s : State) (a : Nat) (v : Word) : (s.setReg a v).wo1Used = s.wo1Used := rfl
@[simp] theorem setReg_dram (s : State) (a : Nat) (v : Word) : (s.setReg a v).dram = s.dram := rfl
@[simp] theorem setReg_time (s : State) (a : Nat) (v : Word) : (s.setReg a v).time = s.time := rfl
@[simp] theorem setReg_ingest (s : State) (a : Nat) (v : Word) : (s.setReg a v).ingest = s.ingest := rfl
@[simp] theorem setReg_kennel (s : State) (a : Nat) (v : Word) : (s.setReg a v).kennel = s.kennel := rfl
@[simp] theorem setReg_calib (s : State) (a : Nat) (v : Word) : (s.setReg a v).calib = s.calib := rfl
@[simp] theorem setReg_plan (s : State) (a : Nat) (v : Word) : (s.setReg a v).plan = s.plan := rfl
@[simp] theorem setReg_vocon (s : State) (a : Nat) (v : Word) : (s.setReg a v).vocon = s.vocon := rfl
@[simp] theorem setReg_heel (s : State) (a : Nat) (v : Word) : (s.setReg a v).heel = s.heel := rfl
@[simp] theorem setReg_fixture (s : State) (a : Nat) (v : Word) : (s.setReg a v).fixture = s.fixture := rfl
@[simp] theorem setReg_uart (s : State) (a : Nat) (v : Word) : (s.setReg a v).uart = s.uart := rfl
@[simp] theorem setReg_hub (s : State) (a : Nat) (v : Word) : (s.setReg a v).hub = s.hub := rfl
@[simp] theorem setReg_mac (s : State) (a : Nat) (v : Word) : (s.setReg a v).mac = s.mac := rfl
@[simp] theorem setReg_host (s : State) (a : Nat) (v : Word) : (s.setReg a v).host = s.host := rfl
@[simp] theorem setReg_far (s : State) (a : Nat) (v : Word) : (s.setReg a v).far = s.far := rfl
@[simp] theorem setReg_intc (s : State) (a : Nat) (v : Word) : (s.setReg a v).intc = s.intc := rfl
@[simp] theorem setReg_brace (s : State) (a : Nat) (v : Word) : (s.setReg a v).brace = s.brace := rfl
@[simp] theorem setReg_sheaf (s : State) (a : Nat) (v : Word) : (s.setReg a v).sheaf = s.sheaf := rfl
@[simp] theorem setReg_sec (s : State) (a : Nat) (v : Word) : (s.setReg a v).sec = s.sec := rfl
@[simp] theorem setReg_check (s : State) (a : Nat) (v : Word) : (s.setReg a v).check = s.check := rfl
@[simp] theorem setReg_upd (s : State) (a : Nat) (v : Word) : (s.setReg a v).upd = s.upd := rfl
@[simp] theorem setReg_winnow (s : State) (a : Nat) (v : Word) : (s.setReg a v).winnow = s.winnow := rfl
@[simp] theorem setReg_pins (s : State) (a : Nat) (v : Word) : (s.setReg a v).pins = s.pins := rfl
@[simp] theorem setReg_power (s : State) (a : Nat) (v : Word) : (s.setReg a v).power = s.power := rfl
@[simp] theorem setReg_out (s : State) (a : Nat) (v : Word) : (s.setReg a v).out = s.out := rfl
@[simp] theorem setReg_bus (s : State) (a : Nat) (v : Word) : (s.setReg a v).bus = s.bus := rfl
@[simp] theorem setReg_freeCtr (s : State) (a : Nat) (v : Word) : (s.setReg a v).freeCtr = s.freeCtr := rfl
@[simp] theorem setReg_pending (s : State) (a : Nat) (v : Word) : (s.setReg a v).pending = s.pending := rfl
@[simp] theorem setSh_regs (s : State) (a : Nat) (v : Word) : (s.setSh a v).regs = s.regs := rfl
@[simp] theorem setSh_badLive (s : State) (a : Nat) (v : Word) : (s.setSh a v).badLive = s.badLive := rfl
@[simp] theorem setSh_badShadow (s : State) (a : Nat) (v : Word) : (s.setSh a v).badShadow = s.badShadow := rfl
@[simp] theorem setSh_staged (s : State) (a : Nat) (v : Word) : (s.setSh a v).staged = s.staged := rfl
@[simp] theorem setSh_latch (s : State) (a : Nat) (v : Word) : (s.setSh a v).latch = s.latch := rfl
@[simp] theorem setSh_posted (s : State) (a : Nat) (v : Word) : (s.setSh a v).posted = s.posted := rfl
@[simp] theorem setSh_wo1Used (s : State) (a : Nat) (v : Word) : (s.setSh a v).wo1Used = s.wo1Used := rfl
@[simp] theorem setSh_dram (s : State) (a : Nat) (v : Word) : (s.setSh a v).dram = s.dram := rfl
@[simp] theorem setSh_time (s : State) (a : Nat) (v : Word) : (s.setSh a v).time = s.time := rfl
@[simp] theorem setSh_ingest (s : State) (a : Nat) (v : Word) : (s.setSh a v).ingest = s.ingest := rfl
@[simp] theorem setSh_kennel (s : State) (a : Nat) (v : Word) : (s.setSh a v).kennel = s.kennel := rfl
@[simp] theorem setSh_calib (s : State) (a : Nat) (v : Word) : (s.setSh a v).calib = s.calib := rfl
@[simp] theorem setSh_plan (s : State) (a : Nat) (v : Word) : (s.setSh a v).plan = s.plan := rfl
@[simp] theorem setSh_vocon (s : State) (a : Nat) (v : Word) : (s.setSh a v).vocon = s.vocon := rfl
@[simp] theorem setSh_heel (s : State) (a : Nat) (v : Word) : (s.setSh a v).heel = s.heel := rfl
@[simp] theorem setSh_fixture (s : State) (a : Nat) (v : Word) : (s.setSh a v).fixture = s.fixture := rfl
@[simp] theorem setSh_uart (s : State) (a : Nat) (v : Word) : (s.setSh a v).uart = s.uart := rfl
@[simp] theorem setSh_hub (s : State) (a : Nat) (v : Word) : (s.setSh a v).hub = s.hub := rfl
@[simp] theorem setSh_mac (s : State) (a : Nat) (v : Word) : (s.setSh a v).mac = s.mac := rfl
@[simp] theorem setSh_host (s : State) (a : Nat) (v : Word) : (s.setSh a v).host = s.host := rfl
@[simp] theorem setSh_far (s : State) (a : Nat) (v : Word) : (s.setSh a v).far = s.far := rfl
@[simp] theorem setSh_intc (s : State) (a : Nat) (v : Word) : (s.setSh a v).intc = s.intc := rfl
@[simp] theorem setSh_brace (s : State) (a : Nat) (v : Word) : (s.setSh a v).brace = s.brace := rfl
@[simp] theorem setSh_sheaf (s : State) (a : Nat) (v : Word) : (s.setSh a v).sheaf = s.sheaf := rfl
@[simp] theorem setSh_sec (s : State) (a : Nat) (v : Word) : (s.setSh a v).sec = s.sec := rfl
@[simp] theorem setSh_check (s : State) (a : Nat) (v : Word) : (s.setSh a v).check = s.check := rfl
@[simp] theorem setSh_upd (s : State) (a : Nat) (v : Word) : (s.setSh a v).upd = s.upd := rfl
@[simp] theorem setSh_winnow (s : State) (a : Nat) (v : Word) : (s.setSh a v).winnow = s.winnow := rfl
@[simp] theorem setSh_pins (s : State) (a : Nat) (v : Word) : (s.setSh a v).pins = s.pins := rfl
@[simp] theorem setSh_power (s : State) (a : Nat) (v : Word) : (s.setSh a v).power = s.power := rfl
@[simp] theorem setSh_out (s : State) (a : Nat) (v : Word) : (s.setSh a v).out = s.out := rfl
@[simp] theorem setSh_bus (s : State) (a : Nat) (v : Word) : (s.setSh a v).bus = s.bus := rfl
@[simp] theorem setSh_freeCtr (s : State) (a : Nat) (v : Word) : (s.setSh a v).freeCtr = s.freeCtr := rfl
@[simp] theorem setSh_pending (s : State) (a : Nat) (v : Word) : (s.setSh a v).pending = s.pending := rfl
@[simp] theorem fixLive_regs (s : State) (a : Nat) : (s.fixLive a).regs = s.regs := rfl
@[simp] theorem fixLive_shadow (s : State) (a : Nat) : (s.fixLive a).shadow = s.shadow := rfl
@[simp] theorem fixLive_badShadow (s : State) (a : Nat) : (s.fixLive a).badShadow = s.badShadow := rfl
@[simp] theorem fixLive_staged (s : State) (a : Nat) : (s.fixLive a).staged = s.staged := rfl
@[simp] theorem fixLive_latch (s : State) (a : Nat) : (s.fixLive a).latch = s.latch := rfl
@[simp] theorem fixLive_posted (s : State) (a : Nat) : (s.fixLive a).posted = s.posted := rfl
@[simp] theorem fixLive_wo1Used (s : State) (a : Nat) : (s.fixLive a).wo1Used = s.wo1Used := rfl
@[simp] theorem fixLive_dram (s : State) (a : Nat) : (s.fixLive a).dram = s.dram := rfl
@[simp] theorem fixLive_time (s : State) (a : Nat) : (s.fixLive a).time = s.time := rfl
@[simp] theorem fixLive_ingest (s : State) (a : Nat) : (s.fixLive a).ingest = s.ingest := rfl
@[simp] theorem fixLive_kennel (s : State) (a : Nat) : (s.fixLive a).kennel = s.kennel := rfl
@[simp] theorem fixLive_calib (s : State) (a : Nat) : (s.fixLive a).calib = s.calib := rfl
@[simp] theorem fixLive_plan (s : State) (a : Nat) : (s.fixLive a).plan = s.plan := rfl
@[simp] theorem fixLive_vocon (s : State) (a : Nat) : (s.fixLive a).vocon = s.vocon := rfl
@[simp] theorem fixLive_heel (s : State) (a : Nat) : (s.fixLive a).heel = s.heel := rfl
@[simp] theorem fixLive_fixture (s : State) (a : Nat) : (s.fixLive a).fixture = s.fixture := rfl
@[simp] theorem fixLive_uart (s : State) (a : Nat) : (s.fixLive a).uart = s.uart := rfl
@[simp] theorem fixLive_hub (s : State) (a : Nat) : (s.fixLive a).hub = s.hub := rfl
@[simp] theorem fixLive_mac (s : State) (a : Nat) : (s.fixLive a).mac = s.mac := rfl
@[simp] theorem fixLive_host (s : State) (a : Nat) : (s.fixLive a).host = s.host := rfl
@[simp] theorem fixLive_far (s : State) (a : Nat) : (s.fixLive a).far = s.far := rfl
@[simp] theorem fixLive_intc (s : State) (a : Nat) : (s.fixLive a).intc = s.intc := rfl
@[simp] theorem fixLive_brace (s : State) (a : Nat) : (s.fixLive a).brace = s.brace := rfl
@[simp] theorem fixLive_sheaf (s : State) (a : Nat) : (s.fixLive a).sheaf = s.sheaf := rfl
@[simp] theorem fixLive_sec (s : State) (a : Nat) : (s.fixLive a).sec = s.sec := rfl
@[simp] theorem fixLive_check (s : State) (a : Nat) : (s.fixLive a).check = s.check := rfl
@[simp] theorem fixLive_upd (s : State) (a : Nat) : (s.fixLive a).upd = s.upd := rfl
@[simp] theorem fixLive_winnow (s : State) (a : Nat) : (s.fixLive a).winnow = s.winnow := rfl
@[simp] theorem fixLive_pins (s : State) (a : Nat) : (s.fixLive a).pins = s.pins := rfl
@[simp] theorem fixLive_power (s : State) (a : Nat) : (s.fixLive a).power = s.power := rfl
@[simp] theorem fixLive_out (s : State) (a : Nat) : (s.fixLive a).out = s.out := rfl
@[simp] theorem fixLive_bus (s : State) (a : Nat) : (s.fixLive a).bus = s.bus := rfl
@[simp] theorem fixLive_freeCtr (s : State) (a : Nat) : (s.fixLive a).freeCtr = s.freeCtr := rfl
@[simp] theorem fixLive_pending (s : State) (a : Nat) : (s.fixLive a).pending = s.pending := rfl
@[simp] theorem fixShadow_regs (s : State) (a : Nat) : (s.fixShadow a).regs = s.regs := rfl
@[simp] theorem fixShadow_shadow (s : State) (a : Nat) : (s.fixShadow a).shadow = s.shadow := rfl
@[simp] theorem fixShadow_badLive (s : State) (a : Nat) : (s.fixShadow a).badLive = s.badLive := rfl
@[simp] theorem fixShadow_staged (s : State) (a : Nat) : (s.fixShadow a).staged = s.staged := rfl
@[simp] theorem fixShadow_latch (s : State) (a : Nat) : (s.fixShadow a).latch = s.latch := rfl
@[simp] theorem fixShadow_posted (s : State) (a : Nat) : (s.fixShadow a).posted = s.posted := rfl
@[simp] theorem fixShadow_wo1Used (s : State) (a : Nat) : (s.fixShadow a).wo1Used = s.wo1Used := rfl
@[simp] theorem fixShadow_dram (s : State) (a : Nat) : (s.fixShadow a).dram = s.dram := rfl
@[simp] theorem fixShadow_time (s : State) (a : Nat) : (s.fixShadow a).time = s.time := rfl
@[simp] theorem fixShadow_ingest (s : State) (a : Nat) : (s.fixShadow a).ingest = s.ingest := rfl
@[simp] theorem fixShadow_kennel (s : State) (a : Nat) : (s.fixShadow a).kennel = s.kennel := rfl
@[simp] theorem fixShadow_calib (s : State) (a : Nat) : (s.fixShadow a).calib = s.calib := rfl
@[simp] theorem fixShadow_plan (s : State) (a : Nat) : (s.fixShadow a).plan = s.plan := rfl
@[simp] theorem fixShadow_vocon (s : State) (a : Nat) : (s.fixShadow a).vocon = s.vocon := rfl
@[simp] theorem fixShadow_heel (s : State) (a : Nat) : (s.fixShadow a).heel = s.heel := rfl
@[simp] theorem fixShadow_fixture (s : State) (a : Nat) : (s.fixShadow a).fixture = s.fixture := rfl
@[simp] theorem fixShadow_uart (s : State) (a : Nat) : (s.fixShadow a).uart = s.uart := rfl
@[simp] theorem fixShadow_hub (s : State) (a : Nat) : (s.fixShadow a).hub = s.hub := rfl
@[simp] theorem fixShadow_mac (s : State) (a : Nat) : (s.fixShadow a).mac = s.mac := rfl
@[simp] theorem fixShadow_host (s : State) (a : Nat) : (s.fixShadow a).host = s.host := rfl
@[simp] theorem fixShadow_far (s : State) (a : Nat) : (s.fixShadow a).far = s.far := rfl
@[simp] theorem fixShadow_intc (s : State) (a : Nat) : (s.fixShadow a).intc = s.intc := rfl
@[simp] theorem fixShadow_brace (s : State) (a : Nat) : (s.fixShadow a).brace = s.brace := rfl
@[simp] theorem fixShadow_sheaf (s : State) (a : Nat) : (s.fixShadow a).sheaf = s.sheaf := rfl
@[simp] theorem fixShadow_sec (s : State) (a : Nat) : (s.fixShadow a).sec = s.sec := rfl
@[simp] theorem fixShadow_check (s : State) (a : Nat) : (s.fixShadow a).check = s.check := rfl
@[simp] theorem fixShadow_upd (s : State) (a : Nat) : (s.fixShadow a).upd = s.upd := rfl
@[simp] theorem fixShadow_winnow (s : State) (a : Nat) : (s.fixShadow a).winnow = s.winnow := rfl
@[simp] theorem fixShadow_pins (s : State) (a : Nat) : (s.fixShadow a).pins = s.pins := rfl
@[simp] theorem fixShadow_power (s : State) (a : Nat) : (s.fixShadow a).power = s.power := rfl
@[simp] theorem fixShadow_out (s : State) (a : Nat) : (s.fixShadow a).out = s.out := rfl
@[simp] theorem fixShadow_bus (s : State) (a : Nat) : (s.fixShadow a).bus = s.bus := rfl
@[simp] theorem fixShadow_freeCtr (s : State) (a : Nat) : (s.fixShadow a).freeCtr = s.freeCtr := rfl
@[simp] theorem fixShadow_pending (s : State) (a : Nat) : (s.fixShadow a).pending = s.pending := rfl
@[simp] theorem send_regs (s : State) (x : Sent) : (s.send x).regs = s.regs := rfl
@[simp] theorem send_shadow (s : State) (x : Sent) : (s.send x).shadow = s.shadow := rfl
@[simp] theorem send_badLive (s : State) (x : Sent) : (s.send x).badLive = s.badLive := rfl
@[simp] theorem send_badShadow (s : State) (x : Sent) : (s.send x).badShadow = s.badShadow := rfl
@[simp] theorem send_staged (s : State) (x : Sent) : (s.send x).staged = s.staged := rfl
@[simp] theorem send_latch (s : State) (x : Sent) : (s.send x).latch = s.latch := rfl
@[simp] theorem send_posted (s : State) (x : Sent) : (s.send x).posted = s.posted := rfl
@[simp] theorem send_wo1Used (s : State) (x : Sent) : (s.send x).wo1Used = s.wo1Used := rfl
@[simp] theorem send_dram (s : State) (x : Sent) : (s.send x).dram = s.dram := rfl
@[simp] theorem send_time (s : State) (x : Sent) : (s.send x).time = s.time := rfl
@[simp] theorem send_ingest (s : State) (x : Sent) : (s.send x).ingest = s.ingest := rfl
@[simp] theorem send_kennel (s : State) (x : Sent) : (s.send x).kennel = s.kennel := rfl
@[simp] theorem send_calib (s : State) (x : Sent) : (s.send x).calib = s.calib := rfl
@[simp] theorem send_plan (s : State) (x : Sent) : (s.send x).plan = s.plan := rfl
@[simp] theorem send_vocon (s : State) (x : Sent) : (s.send x).vocon = s.vocon := rfl
@[simp] theorem send_heel (s : State) (x : Sent) : (s.send x).heel = s.heel := rfl
@[simp] theorem send_fixture (s : State) (x : Sent) : (s.send x).fixture = s.fixture := rfl
@[simp] theorem send_uart (s : State) (x : Sent) : (s.send x).uart = s.uart := rfl
@[simp] theorem send_hub (s : State) (x : Sent) : (s.send x).hub = s.hub := rfl
@[simp] theorem send_mac (s : State) (x : Sent) : (s.send x).mac = s.mac := rfl
@[simp] theorem send_host (s : State) (x : Sent) : (s.send x).host = s.host := rfl
@[simp] theorem send_far (s : State) (x : Sent) : (s.send x).far = s.far := rfl
@[simp] theorem send_intc (s : State) (x : Sent) : (s.send x).intc = s.intc := rfl
@[simp] theorem send_brace (s : State) (x : Sent) : (s.send x).brace = s.brace := rfl
@[simp] theorem send_sheaf (s : State) (x : Sent) : (s.send x).sheaf = s.sheaf := rfl
@[simp] theorem send_sec (s : State) (x : Sent) : (s.send x).sec = s.sec := rfl
@[simp] theorem send_check (s : State) (x : Sent) : (s.send x).check = s.check := rfl
@[simp] theorem send_upd (s : State) (x : Sent) : (s.send x).upd = s.upd := rfl
@[simp] theorem send_winnow (s : State) (x : Sent) : (s.send x).winnow = s.winnow := rfl
@[simp] theorem send_pins (s : State) (x : Sent) : (s.send x).pins = s.pins := rfl
@[simp] theorem send_power (s : State) (x : Sent) : (s.send x).power = s.power := rfl
@[simp] theorem send_bus (s : State) (x : Sent) : (s.send x).bus = s.bus := rfl
@[simp] theorem send_freeCtr (s : State) (x : Sent) : (s.send x).freeCtr = s.freeCtr := rfl
@[simp] theorem send_pending (s : State) (x : Sent) : (s.send x).pending = s.pending := rfl
@[simp] theorem begun_regs (s : State) : (s.begun).regs = s.regs := rfl
@[simp] theorem begun_shadow (s : State) : (s.begun).shadow = s.shadow := rfl
@[simp] theorem begun_badLive (s : State) : (s.begun).badLive = s.badLive := rfl
@[simp] theorem begun_badShadow (s : State) : (s.begun).badShadow = s.badShadow := rfl
@[simp] theorem begun_staged (s : State) : (s.begun).staged = s.staged := rfl
@[simp] theorem begun_latch (s : State) : (s.begun).latch = s.latch := rfl
@[simp] theorem begun_posted (s : State) : (s.begun).posted = s.posted := rfl
@[simp] theorem begun_wo1Used (s : State) : (s.begun).wo1Used = s.wo1Used := rfl
@[simp] theorem begun_dram (s : State) : (s.begun).dram = s.dram := rfl
@[simp] theorem begun_time (s : State) : (s.begun).time = s.time := rfl
@[simp] theorem begun_ingest (s : State) : (s.begun).ingest = s.ingest := rfl
@[simp] theorem begun_kennel (s : State) : (s.begun).kennel = s.kennel := rfl
@[simp] theorem begun_calib (s : State) : (s.begun).calib = s.calib := rfl
@[simp] theorem begun_plan (s : State) : (s.begun).plan = s.plan := rfl
@[simp] theorem begun_vocon (s : State) : (s.begun).vocon = s.vocon := rfl
@[simp] theorem begun_heel (s : State) : (s.begun).heel = s.heel := rfl
@[simp] theorem begun_fixture (s : State) : (s.begun).fixture = s.fixture := rfl
@[simp] theorem begun_uart (s : State) : (s.begun).uart = s.uart := rfl
@[simp] theorem begun_hub (s : State) : (s.begun).hub = s.hub := rfl
@[simp] theorem begun_mac (s : State) : (s.begun).mac = s.mac := rfl
@[simp] theorem begun_host (s : State) : (s.begun).host = s.host := rfl
@[simp] theorem begun_far (s : State) : (s.begun).far = s.far := rfl
@[simp] theorem begun_intc (s : State) : (s.begun).intc = s.intc := rfl
@[simp] theorem begun_brace (s : State) : (s.begun).brace = s.brace := rfl
@[simp] theorem begun_sheaf (s : State) : (s.begun).sheaf = s.sheaf := rfl
@[simp] theorem begun_sec (s : State) : (s.begun).sec = s.sec := rfl
@[simp] theorem begun_check (s : State) : (s.begun).check = s.check := rfl
@[simp] theorem begun_upd (s : State) : (s.begun).upd = s.upd := rfl
@[simp] theorem begun_winnow (s : State) : (s.begun).winnow = s.winnow := rfl
@[simp] theorem begun_pins (s : State) : (s.begun).pins = s.pins := rfl
@[simp] theorem begun_power (s : State) : (s.begun).power = s.power := rfl
@[simp] theorem begun_bus (s : State) : (s.begun).bus = s.bus := rfl
@[simp] theorem begun_freeCtr (s : State) : (s.begun).freeCtr = s.freeCtr := rfl
@[simp] theorem begun_pending (s : State) : (s.begun).pending = s.pending := rfl
@[simp] theorem raise_shadow (s : State) (a b : Nat) : (s.raise a b).shadow = s.shadow := rfl
@[simp] theorem raise_badLive (s : State) (a b : Nat) : (s.raise a b).badLive = s.badLive := rfl
@[simp] theorem raise_badShadow (s : State) (a b : Nat) : (s.raise a b).badShadow = s.badShadow := rfl
@[simp] theorem raise_staged (s : State) (a b : Nat) : (s.raise a b).staged = s.staged := rfl
@[simp] theorem raise_latch (s : State) (a b : Nat) : (s.raise a b).latch = s.latch := rfl
@[simp] theorem raise_posted (s : State) (a b : Nat) : (s.raise a b).posted = s.posted := rfl
@[simp] theorem raise_wo1Used (s : State) (a b : Nat) : (s.raise a b).wo1Used = s.wo1Used := rfl
@[simp] theorem raise_dram (s : State) (a b : Nat) : (s.raise a b).dram = s.dram := rfl
@[simp] theorem raise_time (s : State) (a b : Nat) : (s.raise a b).time = s.time := rfl
@[simp] theorem raise_ingest (s : State) (a b : Nat) : (s.raise a b).ingest = s.ingest := rfl
@[simp] theorem raise_kennel (s : State) (a b : Nat) : (s.raise a b).kennel = s.kennel := rfl
@[simp] theorem raise_calib (s : State) (a b : Nat) : (s.raise a b).calib = s.calib := rfl
@[simp] theorem raise_plan (s : State) (a b : Nat) : (s.raise a b).plan = s.plan := rfl
@[simp] theorem raise_vocon (s : State) (a b : Nat) : (s.raise a b).vocon = s.vocon := rfl
@[simp] theorem raise_heel (s : State) (a b : Nat) : (s.raise a b).heel = s.heel := rfl
@[simp] theorem raise_fixture (s : State) (a b : Nat) : (s.raise a b).fixture = s.fixture := rfl
@[simp] theorem raise_uart (s : State) (a b : Nat) : (s.raise a b).uart = s.uart := rfl
@[simp] theorem raise_hub (s : State) (a b : Nat) : (s.raise a b).hub = s.hub := rfl
@[simp] theorem raise_mac (s : State) (a b : Nat) : (s.raise a b).mac = s.mac := rfl
@[simp] theorem raise_host (s : State) (a b : Nat) : (s.raise a b).host = s.host := rfl
@[simp] theorem raise_far (s : State) (a b : Nat) : (s.raise a b).far = s.far := rfl
@[simp] theorem raise_intc (s : State) (a b : Nat) : (s.raise a b).intc = s.intc := rfl
@[simp] theorem raise_brace (s : State) (a b : Nat) : (s.raise a b).brace = s.brace := rfl
@[simp] theorem raise_sheaf (s : State) (a b : Nat) : (s.raise a b).sheaf = s.sheaf := rfl
@[simp] theorem raise_sec (s : State) (a b : Nat) : (s.raise a b).sec = s.sec := rfl
@[simp] theorem raise_check (s : State) (a b : Nat) : (s.raise a b).check = s.check := rfl
@[simp] theorem raise_upd (s : State) (a b : Nat) : (s.raise a b).upd = s.upd := rfl
@[simp] theorem raise_winnow (s : State) (a b : Nat) : (s.raise a b).winnow = s.winnow := rfl
@[simp] theorem raise_pins (s : State) (a b : Nat) : (s.raise a b).pins = s.pins := rfl
@[simp] theorem raise_power (s : State) (a b : Nat) : (s.raise a b).power = s.power := rfl
@[simp] theorem raise_out (s : State) (a b : Nat) : (s.raise a b).out = s.out := rfl
@[simp] theorem raise_bus (s : State) (a b : Nat) : (s.raise a b).bus = s.bus := rfl
@[simp] theorem raise_freeCtr (s : State) (a b : Nat) : (s.raise a b).freeCtr = s.freeCtr := rfl
@[simp] theorem raise_pending (s : State) (a b : Nat) : (s.raise a b).pending = s.pending := rfl
@[simp] theorem lower_shadow (s : State) (a b : Nat) : (s.lower a b).shadow = s.shadow := rfl
@[simp] theorem lower_badLive (s : State) (a b : Nat) : (s.lower a b).badLive = s.badLive := rfl
@[simp] theorem lower_badShadow (s : State) (a b : Nat) : (s.lower a b).badShadow = s.badShadow := rfl
@[simp] theorem lower_staged (s : State) (a b : Nat) : (s.lower a b).staged = s.staged := rfl
@[simp] theorem lower_latch (s : State) (a b : Nat) : (s.lower a b).latch = s.latch := rfl
@[simp] theorem lower_posted (s : State) (a b : Nat) : (s.lower a b).posted = s.posted := rfl
@[simp] theorem lower_wo1Used (s : State) (a b : Nat) : (s.lower a b).wo1Used = s.wo1Used := rfl
@[simp] theorem lower_dram (s : State) (a b : Nat) : (s.lower a b).dram = s.dram := rfl
@[simp] theorem lower_time (s : State) (a b : Nat) : (s.lower a b).time = s.time := rfl
@[simp] theorem lower_ingest (s : State) (a b : Nat) : (s.lower a b).ingest = s.ingest := rfl
@[simp] theorem lower_kennel (s : State) (a b : Nat) : (s.lower a b).kennel = s.kennel := rfl
@[simp] theorem lower_calib (s : State) (a b : Nat) : (s.lower a b).calib = s.calib := rfl
@[simp] theorem lower_plan (s : State) (a b : Nat) : (s.lower a b).plan = s.plan := rfl
@[simp] theorem lower_vocon (s : State) (a b : Nat) : (s.lower a b).vocon = s.vocon := rfl
@[simp] theorem lower_heel (s : State) (a b : Nat) : (s.lower a b).heel = s.heel := rfl
@[simp] theorem lower_fixture (s : State) (a b : Nat) : (s.lower a b).fixture = s.fixture := rfl
@[simp] theorem lower_uart (s : State) (a b : Nat) : (s.lower a b).uart = s.uart := rfl
@[simp] theorem lower_hub (s : State) (a b : Nat) : (s.lower a b).hub = s.hub := rfl
@[simp] theorem lower_mac (s : State) (a b : Nat) : (s.lower a b).mac = s.mac := rfl
@[simp] theorem lower_host (s : State) (a b : Nat) : (s.lower a b).host = s.host := rfl
@[simp] theorem lower_far (s : State) (a b : Nat) : (s.lower a b).far = s.far := rfl
@[simp] theorem lower_intc (s : State) (a b : Nat) : (s.lower a b).intc = s.intc := rfl
@[simp] theorem lower_brace (s : State) (a b : Nat) : (s.lower a b).brace = s.brace := rfl
@[simp] theorem lower_sheaf (s : State) (a b : Nat) : (s.lower a b).sheaf = s.sheaf := rfl
@[simp] theorem lower_sec (s : State) (a b : Nat) : (s.lower a b).sec = s.sec := rfl
@[simp] theorem lower_check (s : State) (a b : Nat) : (s.lower a b).check = s.check := rfl
@[simp] theorem lower_upd (s : State) (a b : Nat) : (s.lower a b).upd = s.upd := rfl
@[simp] theorem lower_winnow (s : State) (a b : Nat) : (s.lower a b).winnow = s.winnow := rfl
@[simp] theorem lower_pins (s : State) (a b : Nat) : (s.lower a b).pins = s.pins := rfl
@[simp] theorem lower_power (s : State) (a b : Nat) : (s.lower a b).power = s.power := rfl
@[simp] theorem lower_out (s : State) (a b : Nat) : (s.lower a b).out = s.out := rfl
@[simp] theorem lower_bus (s : State) (a b : Nat) : (s.lower a b).bus = s.bus := rfl
@[simp] theorem lower_freeCtr (s : State) (a b : Nat) : (s.lower a b).freeCtr = s.freeCtr := rfl
@[simp] theorem lower_pending (s : State) (a b : Nat) : (s.lower a b).pending = s.pending := rfl
@[simp] theorem count_shadow (s : State) (a n : Nat) : (s.count a n).shadow = s.shadow := rfl
@[simp] theorem count_badLive (s : State) (a n : Nat) : (s.count a n).badLive = s.badLive := rfl
@[simp] theorem count_badShadow (s : State) (a n : Nat) : (s.count a n).badShadow = s.badShadow := rfl
@[simp] theorem count_staged (s : State) (a n : Nat) : (s.count a n).staged = s.staged := rfl
@[simp] theorem count_latch (s : State) (a n : Nat) : (s.count a n).latch = s.latch := rfl
@[simp] theorem count_posted (s : State) (a n : Nat) : (s.count a n).posted = s.posted := rfl
@[simp] theorem count_wo1Used (s : State) (a n : Nat) : (s.count a n).wo1Used = s.wo1Used := rfl
@[simp] theorem count_dram (s : State) (a n : Nat) : (s.count a n).dram = s.dram := rfl
@[simp] theorem count_time (s : State) (a n : Nat) : (s.count a n).time = s.time := rfl
@[simp] theorem count_ingest (s : State) (a n : Nat) : (s.count a n).ingest = s.ingest := rfl
@[simp] theorem count_kennel (s : State) (a n : Nat) : (s.count a n).kennel = s.kennel := rfl
@[simp] theorem count_calib (s : State) (a n : Nat) : (s.count a n).calib = s.calib := rfl
@[simp] theorem count_plan (s : State) (a n : Nat) : (s.count a n).plan = s.plan := rfl
@[simp] theorem count_vocon (s : State) (a n : Nat) : (s.count a n).vocon = s.vocon := rfl
@[simp] theorem count_heel (s : State) (a n : Nat) : (s.count a n).heel = s.heel := rfl
@[simp] theorem count_fixture (s : State) (a n : Nat) : (s.count a n).fixture = s.fixture := rfl
@[simp] theorem count_uart (s : State) (a n : Nat) : (s.count a n).uart = s.uart := rfl
@[simp] theorem count_hub (s : State) (a n : Nat) : (s.count a n).hub = s.hub := rfl
@[simp] theorem count_mac (s : State) (a n : Nat) : (s.count a n).mac = s.mac := rfl
@[simp] theorem count_host (s : State) (a n : Nat) : (s.count a n).host = s.host := rfl
@[simp] theorem count_far (s : State) (a n : Nat) : (s.count a n).far = s.far := rfl
@[simp] theorem count_intc (s : State) (a n : Nat) : (s.count a n).intc = s.intc := rfl
@[simp] theorem count_brace (s : State) (a n : Nat) : (s.count a n).brace = s.brace := rfl
@[simp] theorem count_sheaf (s : State) (a n : Nat) : (s.count a n).sheaf = s.sheaf := rfl
@[simp] theorem count_sec (s : State) (a n : Nat) : (s.count a n).sec = s.sec := rfl
@[simp] theorem count_check (s : State) (a n : Nat) : (s.count a n).check = s.check := rfl
@[simp] theorem count_upd (s : State) (a n : Nat) : (s.count a n).upd = s.upd := rfl
@[simp] theorem count_winnow (s : State) (a n : Nat) : (s.count a n).winnow = s.winnow := rfl
@[simp] theorem count_pins (s : State) (a n : Nat) : (s.count a n).pins = s.pins := rfl
@[simp] theorem count_power (s : State) (a n : Nat) : (s.count a n).power = s.power := rfl
@[simp] theorem count_out (s : State) (a n : Nat) : (s.count a n).out = s.out := rfl
@[simp] theorem count_bus (s : State) (a n : Nat) : (s.count a n).bus = s.bus := rfl
@[simp] theorem count_freeCtr (s : State) (a n : Nat) : (s.count a n).freeCtr = s.freeCtr := rfl
@[simp] theorem count_pending (s : State) (a n : Nat) : (s.count a n).pending = s.pending := rfl
@[simp] theorem bump_shadow (s : State) (a : Nat) : (s.bump a).shadow = s.shadow := rfl
@[simp] theorem bump_badLive (s : State) (a : Nat) : (s.bump a).badLive = s.badLive := rfl
@[simp] theorem bump_badShadow (s : State) (a : Nat) : (s.bump a).badShadow = s.badShadow := rfl
@[simp] theorem bump_staged (s : State) (a : Nat) : (s.bump a).staged = s.staged := rfl
@[simp] theorem bump_latch (s : State) (a : Nat) : (s.bump a).latch = s.latch := rfl
@[simp] theorem bump_posted (s : State) (a : Nat) : (s.bump a).posted = s.posted := rfl
@[simp] theorem bump_wo1Used (s : State) (a : Nat) : (s.bump a).wo1Used = s.wo1Used := rfl
@[simp] theorem bump_dram (s : State) (a : Nat) : (s.bump a).dram = s.dram := rfl
@[simp] theorem bump_time (s : State) (a : Nat) : (s.bump a).time = s.time := rfl
@[simp] theorem bump_ingest (s : State) (a : Nat) : (s.bump a).ingest = s.ingest := rfl
@[simp] theorem bump_kennel (s : State) (a : Nat) : (s.bump a).kennel = s.kennel := rfl
@[simp] theorem bump_calib (s : State) (a : Nat) : (s.bump a).calib = s.calib := rfl
@[simp] theorem bump_plan (s : State) (a : Nat) : (s.bump a).plan = s.plan := rfl
@[simp] theorem bump_vocon (s : State) (a : Nat) : (s.bump a).vocon = s.vocon := rfl
@[simp] theorem bump_heel (s : State) (a : Nat) : (s.bump a).heel = s.heel := rfl
@[simp] theorem bump_fixture (s : State) (a : Nat) : (s.bump a).fixture = s.fixture := rfl
@[simp] theorem bump_uart (s : State) (a : Nat) : (s.bump a).uart = s.uart := rfl
@[simp] theorem bump_hub (s : State) (a : Nat) : (s.bump a).hub = s.hub := rfl
@[simp] theorem bump_mac (s : State) (a : Nat) : (s.bump a).mac = s.mac := rfl
@[simp] theorem bump_host (s : State) (a : Nat) : (s.bump a).host = s.host := rfl
@[simp] theorem bump_far (s : State) (a : Nat) : (s.bump a).far = s.far := rfl
@[simp] theorem bump_intc (s : State) (a : Nat) : (s.bump a).intc = s.intc := rfl
@[simp] theorem bump_brace (s : State) (a : Nat) : (s.bump a).brace = s.brace := rfl
@[simp] theorem bump_sheaf (s : State) (a : Nat) : (s.bump a).sheaf = s.sheaf := rfl
@[simp] theorem bump_sec (s : State) (a : Nat) : (s.bump a).sec = s.sec := rfl
@[simp] theorem bump_check (s : State) (a : Nat) : (s.bump a).check = s.check := rfl
@[simp] theorem bump_upd (s : State) (a : Nat) : (s.bump a).upd = s.upd := rfl
@[simp] theorem bump_winnow (s : State) (a : Nat) : (s.bump a).winnow = s.winnow := rfl
@[simp] theorem bump_pins (s : State) (a : Nat) : (s.bump a).pins = s.pins := rfl
@[simp] theorem bump_power (s : State) (a : Nat) : (s.bump a).power = s.power := rfl
@[simp] theorem bump_out (s : State) (a : Nat) : (s.bump a).out = s.out := rfl
@[simp] theorem bump_bus (s : State) (a : Nat) : (s.bump a).bus = s.bus := rfl
@[simp] theorem bump_freeCtr (s : State) (a : Nat) : (s.bump a).freeCtr = s.freeCtr := rfl
@[simp] theorem bump_pending (s : State) (a : Nat) : (s.bump a).pending = s.pending := rfl
@[simp] theorem setField_shadow (s : State) (a hi lo v : Nat) : (s.setField a hi lo v).shadow = s.shadow := rfl
@[simp] theorem setField_badLive (s : State) (a hi lo v : Nat) : (s.setField a hi lo v).badLive = s.badLive := rfl
@[simp] theorem setField_badShadow (s : State) (a hi lo v : Nat) : (s.setField a hi lo v).badShadow = s.badShadow := rfl
@[simp] theorem setField_staged (s : State) (a hi lo v : Nat) : (s.setField a hi lo v).staged = s.staged := rfl
@[simp] theorem setField_latch (s : State) (a hi lo v : Nat) : (s.setField a hi lo v).latch = s.latch := rfl
@[simp] theorem setField_posted (s : State) (a hi lo v : Nat) : (s.setField a hi lo v).posted = s.posted := rfl
@[simp] theorem setField_wo1Used (s : State) (a hi lo v : Nat) : (s.setField a hi lo v).wo1Used = s.wo1Used := rfl
@[simp] theorem setField_dram (s : State) (a hi lo v : Nat) : (s.setField a hi lo v).dram = s.dram := rfl
@[simp] theorem setField_time (s : State) (a hi lo v : Nat) : (s.setField a hi lo v).time = s.time := rfl
@[simp] theorem setField_ingest (s : State) (a hi lo v : Nat) : (s.setField a hi lo v).ingest = s.ingest := rfl
@[simp] theorem setField_kennel (s : State) (a hi lo v : Nat) : (s.setField a hi lo v).kennel = s.kennel := rfl
@[simp] theorem setField_calib (s : State) (a hi lo v : Nat) : (s.setField a hi lo v).calib = s.calib := rfl
@[simp] theorem setField_plan (s : State) (a hi lo v : Nat) : (s.setField a hi lo v).plan = s.plan := rfl
@[simp] theorem setField_vocon (s : State) (a hi lo v : Nat) : (s.setField a hi lo v).vocon = s.vocon := rfl
@[simp] theorem setField_heel (s : State) (a hi lo v : Nat) : (s.setField a hi lo v).heel = s.heel := rfl
@[simp] theorem setField_fixture (s : State) (a hi lo v : Nat) : (s.setField a hi lo v).fixture = s.fixture := rfl
@[simp] theorem setField_uart (s : State) (a hi lo v : Nat) : (s.setField a hi lo v).uart = s.uart := rfl
@[simp] theorem setField_hub (s : State) (a hi lo v : Nat) : (s.setField a hi lo v).hub = s.hub := rfl
@[simp] theorem setField_mac (s : State) (a hi lo v : Nat) : (s.setField a hi lo v).mac = s.mac := rfl
@[simp] theorem setField_host (s : State) (a hi lo v : Nat) : (s.setField a hi lo v).host = s.host := rfl
@[simp] theorem setField_far (s : State) (a hi lo v : Nat) : (s.setField a hi lo v).far = s.far := rfl
@[simp] theorem setField_intc (s : State) (a hi lo v : Nat) : (s.setField a hi lo v).intc = s.intc := rfl
@[simp] theorem setField_brace (s : State) (a hi lo v : Nat) : (s.setField a hi lo v).brace = s.brace := rfl
@[simp] theorem setField_sheaf (s : State) (a hi lo v : Nat) : (s.setField a hi lo v).sheaf = s.sheaf := rfl
@[simp] theorem setField_sec (s : State) (a hi lo v : Nat) : (s.setField a hi lo v).sec = s.sec := rfl
@[simp] theorem setField_check (s : State) (a hi lo v : Nat) : (s.setField a hi lo v).check = s.check := rfl
@[simp] theorem setField_upd (s : State) (a hi lo v : Nat) : (s.setField a hi lo v).upd = s.upd := rfl
@[simp] theorem setField_winnow (s : State) (a hi lo v : Nat) : (s.setField a hi lo v).winnow = s.winnow := rfl
@[simp] theorem setField_pins (s : State) (a hi lo v : Nat) : (s.setField a hi lo v).pins = s.pins := rfl
@[simp] theorem setField_power (s : State) (a hi lo v : Nat) : (s.setField a hi lo v).power = s.power := rfl
@[simp] theorem setField_out (s : State) (a hi lo v : Nat) : (s.setField a hi lo v).out = s.out := rfl
@[simp] theorem setField_bus (s : State) (a hi lo v : Nat) : (s.setField a hi lo v).bus = s.bus := rfl
@[simp] theorem setField_freeCtr (s : State) (a hi lo v : Nat) : (s.setField a hi lo v).freeCtr = s.freeCtr := rfl
@[simp] theorem setField_pending (s : State) (a hi lo v : Nat) : (s.setField a hi lo v).pending = s.pending := rfl
@[simp] theorem waitUntil_regs (s : State) (t : Int) : (s.waitUntil t).regs = s.regs := rfl
@[simp] theorem waitUntil_shadow (s : State) (t : Int) : (s.waitUntil t).shadow = s.shadow := rfl
@[simp] theorem waitUntil_badLive (s : State) (t : Int) : (s.waitUntil t).badLive = s.badLive := rfl
@[simp] theorem waitUntil_badShadow (s : State) (t : Int) : (s.waitUntil t).badShadow = s.badShadow := rfl
@[simp] theorem waitUntil_staged (s : State) (t : Int) : (s.waitUntil t).staged = s.staged := rfl
@[simp] theorem waitUntil_latch (s : State) (t : Int) : (s.waitUntil t).latch = s.latch := rfl
@[simp] theorem waitUntil_posted (s : State) (t : Int) : (s.waitUntil t).posted = s.posted := rfl
@[simp] theorem waitUntil_wo1Used (s : State) (t : Int) : (s.waitUntil t).wo1Used = s.wo1Used := rfl
@[simp] theorem waitUntil_dram (s : State) (t : Int) : (s.waitUntil t).dram = s.dram := rfl
@[simp] theorem waitUntil_ingest (s : State) (t : Int) : (s.waitUntil t).ingest = s.ingest := rfl
@[simp] theorem waitUntil_kennel (s : State) (t : Int) : (s.waitUntil t).kennel = s.kennel := rfl
@[simp] theorem waitUntil_calib (s : State) (t : Int) : (s.waitUntil t).calib = s.calib := rfl
@[simp] theorem waitUntil_plan (s : State) (t : Int) : (s.waitUntil t).plan = s.plan := rfl
@[simp] theorem waitUntil_vocon (s : State) (t : Int) : (s.waitUntil t).vocon = s.vocon := rfl
@[simp] theorem waitUntil_heel (s : State) (t : Int) : (s.waitUntil t).heel = s.heel := rfl
@[simp] theorem waitUntil_fixture (s : State) (t : Int) : (s.waitUntil t).fixture = s.fixture := rfl
@[simp] theorem waitUntil_uart (s : State) (t : Int) : (s.waitUntil t).uart = s.uart := rfl
@[simp] theorem waitUntil_hub (s : State) (t : Int) : (s.waitUntil t).hub = s.hub := rfl
@[simp] theorem waitUntil_mac (s : State) (t : Int) : (s.waitUntil t).mac = s.mac := rfl
@[simp] theorem waitUntil_host (s : State) (t : Int) : (s.waitUntil t).host = s.host := rfl
@[simp] theorem waitUntil_far (s : State) (t : Int) : (s.waitUntil t).far = s.far := rfl
@[simp] theorem waitUntil_intc (s : State) (t : Int) : (s.waitUntil t).intc = s.intc := rfl
@[simp] theorem waitUntil_brace (s : State) (t : Int) : (s.waitUntil t).brace = s.brace := rfl
@[simp] theorem waitUntil_sheaf (s : State) (t : Int) : (s.waitUntil t).sheaf = s.sheaf := rfl
@[simp] theorem waitUntil_sec (s : State) (t : Int) : (s.waitUntil t).sec = s.sec := rfl
@[simp] theorem waitUntil_check (s : State) (t : Int) : (s.waitUntil t).check = s.check := rfl
@[simp] theorem waitUntil_upd (s : State) (t : Int) : (s.waitUntil t).upd = s.upd := rfl
@[simp] theorem waitUntil_winnow (s : State) (t : Int) : (s.waitUntil t).winnow = s.winnow := rfl
@[simp] theorem waitUntil_pins (s : State) (t : Int) : (s.waitUntil t).pins = s.pins := rfl
@[simp] theorem waitUntil_power (s : State) (t : Int) : (s.waitUntil t).power = s.power := rfl
@[simp] theorem waitUntil_out (s : State) (t : Int) : (s.waitUntil t).out = s.out := rfl
@[simp] theorem waitUntil_bus (s : State) (t : Int) : (s.waitUntil t).bus = s.bus := rfl
@[simp] theorem waitUntil_freeCtr (s : State) (t : Int) : (s.waitUntil t).freeCtr = s.freeCtr := rfl
@[simp] theorem waitUntil_pending (s : State) (t : Int) : (s.waitUntil t).pending = s.pending := rfl
@[simp] theorem setRate_regs (s : State) (r : Int) : (s.setRate r).regs = s.regs := rfl
@[simp] theorem setRate_shadow (s : State) (r : Int) : (s.setRate r).shadow = s.shadow := rfl
@[simp] theorem setRate_badLive (s : State) (r : Int) : (s.setRate r).badLive = s.badLive := rfl
@[simp] theorem setRate_badShadow (s : State) (r : Int) : (s.setRate r).badShadow = s.badShadow := rfl
@[simp] theorem setRate_staged (s : State) (r : Int) : (s.setRate r).staged = s.staged := rfl
@[simp] theorem setRate_latch (s : State) (r : Int) : (s.setRate r).latch = s.latch := rfl
@[simp] theorem setRate_posted (s : State) (r : Int) : (s.setRate r).posted = s.posted := rfl
@[simp] theorem setRate_wo1Used (s : State) (r : Int) : (s.setRate r).wo1Used = s.wo1Used := rfl
@[simp] theorem setRate_dram (s : State) (r : Int) : (s.setRate r).dram = s.dram := rfl
@[simp] theorem setRate_ingest (s : State) (r : Int) : (s.setRate r).ingest = s.ingest := rfl
@[simp] theorem setRate_kennel (s : State) (r : Int) : (s.setRate r).kennel = s.kennel := rfl
@[simp] theorem setRate_calib (s : State) (r : Int) : (s.setRate r).calib = s.calib := rfl
@[simp] theorem setRate_plan (s : State) (r : Int) : (s.setRate r).plan = s.plan := rfl
@[simp] theorem setRate_vocon (s : State) (r : Int) : (s.setRate r).vocon = s.vocon := rfl
@[simp] theorem setRate_heel (s : State) (r : Int) : (s.setRate r).heel = s.heel := rfl
@[simp] theorem setRate_fixture (s : State) (r : Int) : (s.setRate r).fixture = s.fixture := rfl
@[simp] theorem setRate_uart (s : State) (r : Int) : (s.setRate r).uart = s.uart := rfl
@[simp] theorem setRate_hub (s : State) (r : Int) : (s.setRate r).hub = s.hub := rfl
@[simp] theorem setRate_mac (s : State) (r : Int) : (s.setRate r).mac = s.mac := rfl
@[simp] theorem setRate_host (s : State) (r : Int) : (s.setRate r).host = s.host := rfl
@[simp] theorem setRate_far (s : State) (r : Int) : (s.setRate r).far = s.far := rfl
@[simp] theorem setRate_intc (s : State) (r : Int) : (s.setRate r).intc = s.intc := rfl
@[simp] theorem setRate_brace (s : State) (r : Int) : (s.setRate r).brace = s.brace := rfl
@[simp] theorem setRate_sheaf (s : State) (r : Int) : (s.setRate r).sheaf = s.sheaf := rfl
@[simp] theorem setRate_sec (s : State) (r : Int) : (s.setRate r).sec = s.sec := rfl
@[simp] theorem setRate_check (s : State) (r : Int) : (s.setRate r).check = s.check := rfl
@[simp] theorem setRate_upd (s : State) (r : Int) : (s.setRate r).upd = s.upd := rfl
@[simp] theorem setRate_winnow (s : State) (r : Int) : (s.setRate r).winnow = s.winnow := rfl
@[simp] theorem setRate_pins (s : State) (r : Int) : (s.setRate r).pins = s.pins := rfl
@[simp] theorem setRate_power (s : State) (r : Int) : (s.setRate r).power = s.power := rfl
@[simp] theorem setRate_out (s : State) (r : Int) : (s.setRate r).out = s.out := rfl
@[simp] theorem setRate_bus (s : State) (r : Int) : (s.setRate r).bus = s.bus := rfl
@[simp] theorem setRate_freeCtr (s : State) (r : Int) : (s.setRate r).freeCtr = s.freeCtr := rfl
@[simp] theorem setRate_pending (s : State) (r : Int) : (s.setRate r).pending = s.pending := rfl
@[simp] theorem wdrop_shadow (s : State) (b : Block) (i : Nat) : (s.wdrop b i).shadow = s.shadow := rfl
@[simp] theorem wdrop_badLive (s : State) (b : Block) (i : Nat) : (s.wdrop b i).badLive = s.badLive := rfl
@[simp] theorem wdrop_badShadow (s : State) (b : Block) (i : Nat) : (s.wdrop b i).badShadow = s.badShadow := rfl
@[simp] theorem wdrop_staged (s : State) (b : Block) (i : Nat) : (s.wdrop b i).staged = s.staged := rfl
@[simp] theorem wdrop_latch (s : State) (b : Block) (i : Nat) : (s.wdrop b i).latch = s.latch := rfl
@[simp] theorem wdrop_posted (s : State) (b : Block) (i : Nat) : (s.wdrop b i).posted = s.posted := rfl
@[simp] theorem wdrop_wo1Used (s : State) (b : Block) (i : Nat) : (s.wdrop b i).wo1Used = s.wo1Used := rfl
@[simp] theorem wdrop_dram (s : State) (b : Block) (i : Nat) : (s.wdrop b i).dram = s.dram := rfl
@[simp] theorem wdrop_time (s : State) (b : Block) (i : Nat) : (s.wdrop b i).time = s.time := rfl
@[simp] theorem wdrop_ingest (s : State) (b : Block) (i : Nat) : (s.wdrop b i).ingest = s.ingest := rfl
@[simp] theorem wdrop_kennel (s : State) (b : Block) (i : Nat) : (s.wdrop b i).kennel = s.kennel := rfl
@[simp] theorem wdrop_calib (s : State) (b : Block) (i : Nat) : (s.wdrop b i).calib = s.calib := rfl
@[simp] theorem wdrop_plan (s : State) (b : Block) (i : Nat) : (s.wdrop b i).plan = s.plan := rfl
@[simp] theorem wdrop_vocon (s : State) (b : Block) (i : Nat) : (s.wdrop b i).vocon = s.vocon := rfl
@[simp] theorem wdrop_heel (s : State) (b : Block) (i : Nat) : (s.wdrop b i).heel = s.heel := rfl
@[simp] theorem wdrop_fixture (s : State) (b : Block) (i : Nat) : (s.wdrop b i).fixture = s.fixture := rfl
@[simp] theorem wdrop_uart (s : State) (b : Block) (i : Nat) : (s.wdrop b i).uart = s.uart := rfl
@[simp] theorem wdrop_hub (s : State) (b : Block) (i : Nat) : (s.wdrop b i).hub = s.hub := rfl
@[simp] theorem wdrop_mac (s : State) (b : Block) (i : Nat) : (s.wdrop b i).mac = s.mac := rfl
@[simp] theorem wdrop_host (s : State) (b : Block) (i : Nat) : (s.wdrop b i).host = s.host := rfl
@[simp] theorem wdrop_far (s : State) (b : Block) (i : Nat) : (s.wdrop b i).far = s.far := rfl
@[simp] theorem wdrop_intc (s : State) (b : Block) (i : Nat) : (s.wdrop b i).intc = s.intc := rfl
@[simp] theorem wdrop_brace (s : State) (b : Block) (i : Nat) : (s.wdrop b i).brace = s.brace := rfl
@[simp] theorem wdrop_sheaf (s : State) (b : Block) (i : Nat) : (s.wdrop b i).sheaf = s.sheaf := rfl
@[simp] theorem wdrop_sec (s : State) (b : Block) (i : Nat) : (s.wdrop b i).sec = s.sec := rfl
@[simp] theorem wdrop_check (s : State) (b : Block) (i : Nat) : (s.wdrop b i).check = s.check := rfl
@[simp] theorem wdrop_upd (s : State) (b : Block) (i : Nat) : (s.wdrop b i).upd = s.upd := rfl
@[simp] theorem wdrop_winnow (s : State) (b : Block) (i : Nat) : (s.wdrop b i).winnow = s.winnow := rfl
@[simp] theorem wdrop_pins (s : State) (b : Block) (i : Nat) : (s.wdrop b i).pins = s.pins := rfl
@[simp] theorem wdrop_power (s : State) (b : Block) (i : Nat) : (s.wdrop b i).power = s.power := rfl
@[simp] theorem wdrop_out (s : State) (b : Block) (i : Nat) : (s.wdrop b i).out = s.out := rfl
@[simp] theorem wdrop_bus (s : State) (b : Block) (i : Nat) : (s.wdrop b i).bus = s.bus := rfl
@[simp] theorem wdrop_freeCtr (s : State) (b : Block) (i : Nat) : (s.wdrop b i).freeCtr = s.freeCtr := rfl
@[simp] theorem wdrop_pending (s : State) (b : Block) (i : Nat) : (s.wdrop b i).pending = s.pending := rfl
@[simp] theorem lockerr_shadow (s : State) (b : Block) (i : Nat) : (s.lockerr b i).shadow = s.shadow := rfl
@[simp] theorem lockerr_badLive (s : State) (b : Block) (i : Nat) : (s.lockerr b i).badLive = s.badLive := rfl
@[simp] theorem lockerr_badShadow (s : State) (b : Block) (i : Nat) : (s.lockerr b i).badShadow = s.badShadow := rfl
@[simp] theorem lockerr_staged (s : State) (b : Block) (i : Nat) : (s.lockerr b i).staged = s.staged := rfl
@[simp] theorem lockerr_latch (s : State) (b : Block) (i : Nat) : (s.lockerr b i).latch = s.latch := rfl
@[simp] theorem lockerr_posted (s : State) (b : Block) (i : Nat) : (s.lockerr b i).posted = s.posted := rfl
@[simp] theorem lockerr_wo1Used (s : State) (b : Block) (i : Nat) : (s.lockerr b i).wo1Used = s.wo1Used := rfl
@[simp] theorem lockerr_dram (s : State) (b : Block) (i : Nat) : (s.lockerr b i).dram = s.dram := rfl
@[simp] theorem lockerr_time (s : State) (b : Block) (i : Nat) : (s.lockerr b i).time = s.time := rfl
@[simp] theorem lockerr_ingest (s : State) (b : Block) (i : Nat) : (s.lockerr b i).ingest = s.ingest := rfl
@[simp] theorem lockerr_kennel (s : State) (b : Block) (i : Nat) : (s.lockerr b i).kennel = s.kennel := rfl
@[simp] theorem lockerr_calib (s : State) (b : Block) (i : Nat) : (s.lockerr b i).calib = s.calib := rfl
@[simp] theorem lockerr_plan (s : State) (b : Block) (i : Nat) : (s.lockerr b i).plan = s.plan := rfl
@[simp] theorem lockerr_vocon (s : State) (b : Block) (i : Nat) : (s.lockerr b i).vocon = s.vocon := rfl
@[simp] theorem lockerr_heel (s : State) (b : Block) (i : Nat) : (s.lockerr b i).heel = s.heel := rfl
@[simp] theorem lockerr_fixture (s : State) (b : Block) (i : Nat) : (s.lockerr b i).fixture = s.fixture := rfl
@[simp] theorem lockerr_uart (s : State) (b : Block) (i : Nat) : (s.lockerr b i).uart = s.uart := rfl
@[simp] theorem lockerr_hub (s : State) (b : Block) (i : Nat) : (s.lockerr b i).hub = s.hub := rfl
@[simp] theorem lockerr_mac (s : State) (b : Block) (i : Nat) : (s.lockerr b i).mac = s.mac := rfl
@[simp] theorem lockerr_host (s : State) (b : Block) (i : Nat) : (s.lockerr b i).host = s.host := rfl
@[simp] theorem lockerr_far (s : State) (b : Block) (i : Nat) : (s.lockerr b i).far = s.far := rfl
@[simp] theorem lockerr_intc (s : State) (b : Block) (i : Nat) : (s.lockerr b i).intc = s.intc := rfl
@[simp] theorem lockerr_brace (s : State) (b : Block) (i : Nat) : (s.lockerr b i).brace = s.brace := rfl
@[simp] theorem lockerr_sheaf (s : State) (b : Block) (i : Nat) : (s.lockerr b i).sheaf = s.sheaf := rfl
@[simp] theorem lockerr_sec (s : State) (b : Block) (i : Nat) : (s.lockerr b i).sec = s.sec := rfl
@[simp] theorem lockerr_check (s : State) (b : Block) (i : Nat) : (s.lockerr b i).check = s.check := rfl
@[simp] theorem lockerr_upd (s : State) (b : Block) (i : Nat) : (s.lockerr b i).upd = s.upd := rfl
@[simp] theorem lockerr_winnow (s : State) (b : Block) (i : Nat) : (s.lockerr b i).winnow = s.winnow := rfl
@[simp] theorem lockerr_pins (s : State) (b : Block) (i : Nat) : (s.lockerr b i).pins = s.pins := rfl
@[simp] theorem lockerr_power (s : State) (b : Block) (i : Nat) : (s.lockerr b i).power = s.power := rfl
@[simp] theorem lockerr_out (s : State) (b : Block) (i : Nat) : (s.lockerr b i).out = s.out := rfl
@[simp] theorem lockerr_bus (s : State) (b : Block) (i : Nat) : (s.lockerr b i).bus = s.bus := rfl
@[simp] theorem lockerr_freeCtr (s : State) (b : Block) (i : Nat) : (s.lockerr b i).freeCtr = s.freeCtr := rfl
@[simp] theorem lockerr_pending (s : State) (b : Block) (i : Nat) : (s.lockerr b i).pending = s.pending := rfl
@[simp] theorem raiseIf_shadow (s : State) (c : Bool) (a b : Nat) : (s.raiseIf c a b).shadow = s.shadow := by cases c <;> rfl
@[simp] theorem raiseIf_badLive (s : State) (c : Bool) (a b : Nat) : (s.raiseIf c a b).badLive = s.badLive := by cases c <;> rfl
@[simp] theorem raiseIf_badShadow (s : State) (c : Bool) (a b : Nat) : (s.raiseIf c a b).badShadow = s.badShadow := by cases c <;> rfl
@[simp] theorem raiseIf_staged (s : State) (c : Bool) (a b : Nat) : (s.raiseIf c a b).staged = s.staged := by cases c <;> rfl
@[simp] theorem raiseIf_latch (s : State) (c : Bool) (a b : Nat) : (s.raiseIf c a b).latch = s.latch := by cases c <;> rfl
@[simp] theorem raiseIf_posted (s : State) (c : Bool) (a b : Nat) : (s.raiseIf c a b).posted = s.posted := by cases c <;> rfl
@[simp] theorem raiseIf_wo1Used (s : State) (c : Bool) (a b : Nat) : (s.raiseIf c a b).wo1Used = s.wo1Used := by cases c <;> rfl
@[simp] theorem raiseIf_dram (s : State) (c : Bool) (a b : Nat) : (s.raiseIf c a b).dram = s.dram := by cases c <;> rfl
@[simp] theorem raiseIf_time (s : State) (c : Bool) (a b : Nat) : (s.raiseIf c a b).time = s.time := by cases c <;> rfl
@[simp] theorem raiseIf_ingest (s : State) (c : Bool) (a b : Nat) : (s.raiseIf c a b).ingest = s.ingest := by cases c <;> rfl
@[simp] theorem raiseIf_kennel (s : State) (c : Bool) (a b : Nat) : (s.raiseIf c a b).kennel = s.kennel := by cases c <;> rfl
@[simp] theorem raiseIf_calib (s : State) (c : Bool) (a b : Nat) : (s.raiseIf c a b).calib = s.calib := by cases c <;> rfl
@[simp] theorem raiseIf_plan (s : State) (c : Bool) (a b : Nat) : (s.raiseIf c a b).plan = s.plan := by cases c <;> rfl
@[simp] theorem raiseIf_vocon (s : State) (c : Bool) (a b : Nat) : (s.raiseIf c a b).vocon = s.vocon := by cases c <;> rfl
@[simp] theorem raiseIf_heel (s : State) (c : Bool) (a b : Nat) : (s.raiseIf c a b).heel = s.heel := by cases c <;> rfl
@[simp] theorem raiseIf_fixture (s : State) (c : Bool) (a b : Nat) : (s.raiseIf c a b).fixture = s.fixture := by cases c <;> rfl
@[simp] theorem raiseIf_uart (s : State) (c : Bool) (a b : Nat) : (s.raiseIf c a b).uart = s.uart := by cases c <;> rfl
@[simp] theorem raiseIf_hub (s : State) (c : Bool) (a b : Nat) : (s.raiseIf c a b).hub = s.hub := by cases c <;> rfl
@[simp] theorem raiseIf_mac (s : State) (c : Bool) (a b : Nat) : (s.raiseIf c a b).mac = s.mac := by cases c <;> rfl
@[simp] theorem raiseIf_host (s : State) (c : Bool) (a b : Nat) : (s.raiseIf c a b).host = s.host := by cases c <;> rfl
@[simp] theorem raiseIf_far (s : State) (c : Bool) (a b : Nat) : (s.raiseIf c a b).far = s.far := by cases c <;> rfl
@[simp] theorem raiseIf_intc (s : State) (c : Bool) (a b : Nat) : (s.raiseIf c a b).intc = s.intc := by cases c <;> rfl
@[simp] theorem raiseIf_brace (s : State) (c : Bool) (a b : Nat) : (s.raiseIf c a b).brace = s.brace := by cases c <;> rfl
@[simp] theorem raiseIf_sheaf (s : State) (c : Bool) (a b : Nat) : (s.raiseIf c a b).sheaf = s.sheaf := by cases c <;> rfl
@[simp] theorem raiseIf_sec (s : State) (c : Bool) (a b : Nat) : (s.raiseIf c a b).sec = s.sec := by cases c <;> rfl
@[simp] theorem raiseIf_check (s : State) (c : Bool) (a b : Nat) : (s.raiseIf c a b).check = s.check := by cases c <;> rfl
@[simp] theorem raiseIf_upd (s : State) (c : Bool) (a b : Nat) : (s.raiseIf c a b).upd = s.upd := by cases c <;> rfl
@[simp] theorem raiseIf_winnow (s : State) (c : Bool) (a b : Nat) : (s.raiseIf c a b).winnow = s.winnow := by cases c <;> rfl
@[simp] theorem raiseIf_pins (s : State) (c : Bool) (a b : Nat) : (s.raiseIf c a b).pins = s.pins := by cases c <;> rfl
@[simp] theorem raiseIf_power (s : State) (c : Bool) (a b : Nat) : (s.raiseIf c a b).power = s.power := by cases c <;> rfl
@[simp] theorem raiseIf_out (s : State) (c : Bool) (a b : Nat) : (s.raiseIf c a b).out = s.out := by cases c <;> rfl
@[simp] theorem raiseIf_bus (s : State) (c : Bool) (a b : Nat) : (s.raiseIf c a b).bus = s.bus := by cases c <;> rfl
@[simp] theorem raiseIf_freeCtr (s : State) (c : Bool) (a b : Nat) : (s.raiseIf c a b).freeCtr = s.freeCtr := by cases c <;> rfl
@[simp] theorem raiseIf_pending (s : State) (c : Bool) (a b : Nat) : (s.raiseIf c a b).pending = s.pending := by cases c <;> rfl
@[simp] theorem bumpIf_shadow (s : State) (c : Bool) (a : Nat) : (s.bumpIf c a).shadow = s.shadow := by cases c <;> rfl
@[simp] theorem bumpIf_badLive (s : State) (c : Bool) (a : Nat) : (s.bumpIf c a).badLive = s.badLive := by cases c <;> rfl
@[simp] theorem bumpIf_badShadow (s : State) (c : Bool) (a : Nat) : (s.bumpIf c a).badShadow = s.badShadow := by cases c <;> rfl
@[simp] theorem bumpIf_staged (s : State) (c : Bool) (a : Nat) : (s.bumpIf c a).staged = s.staged := by cases c <;> rfl
@[simp] theorem bumpIf_latch (s : State) (c : Bool) (a : Nat) : (s.bumpIf c a).latch = s.latch := by cases c <;> rfl
@[simp] theorem bumpIf_posted (s : State) (c : Bool) (a : Nat) : (s.bumpIf c a).posted = s.posted := by cases c <;> rfl
@[simp] theorem bumpIf_wo1Used (s : State) (c : Bool) (a : Nat) : (s.bumpIf c a).wo1Used = s.wo1Used := by cases c <;> rfl
@[simp] theorem bumpIf_dram (s : State) (c : Bool) (a : Nat) : (s.bumpIf c a).dram = s.dram := by cases c <;> rfl
@[simp] theorem bumpIf_time (s : State) (c : Bool) (a : Nat) : (s.bumpIf c a).time = s.time := by cases c <;> rfl
@[simp] theorem bumpIf_ingest (s : State) (c : Bool) (a : Nat) : (s.bumpIf c a).ingest = s.ingest := by cases c <;> rfl
@[simp] theorem bumpIf_kennel (s : State) (c : Bool) (a : Nat) : (s.bumpIf c a).kennel = s.kennel := by cases c <;> rfl
@[simp] theorem bumpIf_calib (s : State) (c : Bool) (a : Nat) : (s.bumpIf c a).calib = s.calib := by cases c <;> rfl
@[simp] theorem bumpIf_plan (s : State) (c : Bool) (a : Nat) : (s.bumpIf c a).plan = s.plan := by cases c <;> rfl
@[simp] theorem bumpIf_vocon (s : State) (c : Bool) (a : Nat) : (s.bumpIf c a).vocon = s.vocon := by cases c <;> rfl
@[simp] theorem bumpIf_heel (s : State) (c : Bool) (a : Nat) : (s.bumpIf c a).heel = s.heel := by cases c <;> rfl
@[simp] theorem bumpIf_fixture (s : State) (c : Bool) (a : Nat) : (s.bumpIf c a).fixture = s.fixture := by cases c <;> rfl
@[simp] theorem bumpIf_uart (s : State) (c : Bool) (a : Nat) : (s.bumpIf c a).uart = s.uart := by cases c <;> rfl
@[simp] theorem bumpIf_hub (s : State) (c : Bool) (a : Nat) : (s.bumpIf c a).hub = s.hub := by cases c <;> rfl
@[simp] theorem bumpIf_mac (s : State) (c : Bool) (a : Nat) : (s.bumpIf c a).mac = s.mac := by cases c <;> rfl
@[simp] theorem bumpIf_host (s : State) (c : Bool) (a : Nat) : (s.bumpIf c a).host = s.host := by cases c <;> rfl
@[simp] theorem bumpIf_far (s : State) (c : Bool) (a : Nat) : (s.bumpIf c a).far = s.far := by cases c <;> rfl
@[simp] theorem bumpIf_intc (s : State) (c : Bool) (a : Nat) : (s.bumpIf c a).intc = s.intc := by cases c <;> rfl
@[simp] theorem bumpIf_brace (s : State) (c : Bool) (a : Nat) : (s.bumpIf c a).brace = s.brace := by cases c <;> rfl
@[simp] theorem bumpIf_sheaf (s : State) (c : Bool) (a : Nat) : (s.bumpIf c a).sheaf = s.sheaf := by cases c <;> rfl
@[simp] theorem bumpIf_sec (s : State) (c : Bool) (a : Nat) : (s.bumpIf c a).sec = s.sec := by cases c <;> rfl
@[simp] theorem bumpIf_check (s : State) (c : Bool) (a : Nat) : (s.bumpIf c a).check = s.check := by cases c <;> rfl
@[simp] theorem bumpIf_upd (s : State) (c : Bool) (a : Nat) : (s.bumpIf c a).upd = s.upd := by cases c <;> rfl
@[simp] theorem bumpIf_winnow (s : State) (c : Bool) (a : Nat) : (s.bumpIf c a).winnow = s.winnow := by cases c <;> rfl
@[simp] theorem bumpIf_pins (s : State) (c : Bool) (a : Nat) : (s.bumpIf c a).pins = s.pins := by cases c <;> rfl
@[simp] theorem bumpIf_power (s : State) (c : Bool) (a : Nat) : (s.bumpIf c a).power = s.power := by cases c <;> rfl
@[simp] theorem bumpIf_out (s : State) (c : Bool) (a : Nat) : (s.bumpIf c a).out = s.out := by cases c <;> rfl
@[simp] theorem bumpIf_bus (s : State) (c : Bool) (a : Nat) : (s.bumpIf c a).bus = s.bus := by cases c <;> rfl
@[simp] theorem bumpIf_freeCtr (s : State) (c : Bool) (a : Nat) : (s.bumpIf c a).freeCtr = s.freeCtr := by cases c <;> rfl
@[simp] theorem bumpIf_pending (s : State) (c : Bool) (a : Nat) : (s.bumpIf c a).pending = s.pending := by cases c <;> rfl
@[simp] theorem putBit_shadow (s : State) (a b : Nat) (v : Bool) : (s.putBit a b v).shadow = s.shadow := by cases v <;> rfl
@[simp] theorem putBit_badLive (s : State) (a b : Nat) (v : Bool) : (s.putBit a b v).badLive = s.badLive := by cases v <;> rfl
@[simp] theorem putBit_badShadow (s : State) (a b : Nat) (v : Bool) : (s.putBit a b v).badShadow = s.badShadow := by cases v <;> rfl
@[simp] theorem putBit_staged (s : State) (a b : Nat) (v : Bool) : (s.putBit a b v).staged = s.staged := by cases v <;> rfl
@[simp] theorem putBit_latch (s : State) (a b : Nat) (v : Bool) : (s.putBit a b v).latch = s.latch := by cases v <;> rfl
@[simp] theorem putBit_posted (s : State) (a b : Nat) (v : Bool) : (s.putBit a b v).posted = s.posted := by cases v <;> rfl
@[simp] theorem putBit_wo1Used (s : State) (a b : Nat) (v : Bool) : (s.putBit a b v).wo1Used = s.wo1Used := by cases v <;> rfl
@[simp] theorem putBit_dram (s : State) (a b : Nat) (v : Bool) : (s.putBit a b v).dram = s.dram := by cases v <;> rfl
@[simp] theorem putBit_time (s : State) (a b : Nat) (v : Bool) : (s.putBit a b v).time = s.time := by cases v <;> rfl
@[simp] theorem putBit_ingest (s : State) (a b : Nat) (v : Bool) : (s.putBit a b v).ingest = s.ingest := by cases v <;> rfl
@[simp] theorem putBit_kennel (s : State) (a b : Nat) (v : Bool) : (s.putBit a b v).kennel = s.kennel := by cases v <;> rfl
@[simp] theorem putBit_calib (s : State) (a b : Nat) (v : Bool) : (s.putBit a b v).calib = s.calib := by cases v <;> rfl
@[simp] theorem putBit_plan (s : State) (a b : Nat) (v : Bool) : (s.putBit a b v).plan = s.plan := by cases v <;> rfl
@[simp] theorem putBit_vocon (s : State) (a b : Nat) (v : Bool) : (s.putBit a b v).vocon = s.vocon := by cases v <;> rfl
@[simp] theorem putBit_heel (s : State) (a b : Nat) (v : Bool) : (s.putBit a b v).heel = s.heel := by cases v <;> rfl
@[simp] theorem putBit_fixture (s : State) (a b : Nat) (v : Bool) : (s.putBit a b v).fixture = s.fixture := by cases v <;> rfl
@[simp] theorem putBit_uart (s : State) (a b : Nat) (v : Bool) : (s.putBit a b v).uart = s.uart := by cases v <;> rfl
@[simp] theorem putBit_hub (s : State) (a b : Nat) (v : Bool) : (s.putBit a b v).hub = s.hub := by cases v <;> rfl
@[simp] theorem putBit_mac (s : State) (a b : Nat) (v : Bool) : (s.putBit a b v).mac = s.mac := by cases v <;> rfl
@[simp] theorem putBit_host (s : State) (a b : Nat) (v : Bool) : (s.putBit a b v).host = s.host := by cases v <;> rfl
@[simp] theorem putBit_far (s : State) (a b : Nat) (v : Bool) : (s.putBit a b v).far = s.far := by cases v <;> rfl
@[simp] theorem putBit_intc (s : State) (a b : Nat) (v : Bool) : (s.putBit a b v).intc = s.intc := by cases v <;> rfl
@[simp] theorem putBit_brace (s : State) (a b : Nat) (v : Bool) : (s.putBit a b v).brace = s.brace := by cases v <;> rfl
@[simp] theorem putBit_sheaf (s : State) (a b : Nat) (v : Bool) : (s.putBit a b v).sheaf = s.sheaf := by cases v <;> rfl
@[simp] theorem putBit_sec (s : State) (a b : Nat) (v : Bool) : (s.putBit a b v).sec = s.sec := by cases v <;> rfl
@[simp] theorem putBit_check (s : State) (a b : Nat) (v : Bool) : (s.putBit a b v).check = s.check := by cases v <;> rfl
@[simp] theorem putBit_upd (s : State) (a b : Nat) (v : Bool) : (s.putBit a b v).upd = s.upd := by cases v <;> rfl
@[simp] theorem putBit_winnow (s : State) (a b : Nat) (v : Bool) : (s.putBit a b v).winnow = s.winnow := by cases v <;> rfl
@[simp] theorem putBit_pins (s : State) (a b : Nat) (v : Bool) : (s.putBit a b v).pins = s.pins := by cases v <;> rfl
@[simp] theorem putBit_power (s : State) (a b : Nat) (v : Bool) : (s.putBit a b v).power = s.power := by cases v <;> rfl
@[simp] theorem putBit_out (s : State) (a b : Nat) (v : Bool) : (s.putBit a b v).out = s.out := by cases v <;> rfl
@[simp] theorem putBit_bus (s : State) (a b : Nat) (v : Bool) : (s.putBit a b v).bus = s.bus := by cases v <;> rfl
@[simp] theorem putBit_freeCtr (s : State) (a b : Nat) (v : Bool) : (s.putBit a b v).freeCtr = s.freeCtr := by cases v <;> rfl
@[simp] theorem putBit_pending (s : State) (a b : Nat) (v : Bool) : (s.putBit a b v).pending = s.pending := by cases v <;> rfl
@[simp] theorem wr8_regs (s : State) (a : Nat) (v : Byte) : (s.wr8 a v).regs = s.regs := by unfold wr8; split <;> rfl
@[simp] theorem wr8_shadow (s : State) (a : Nat) (v : Byte) : (s.wr8 a v).shadow = s.shadow := by unfold wr8; split <;> rfl
@[simp] theorem wr8_badLive (s : State) (a : Nat) (v : Byte) : (s.wr8 a v).badLive = s.badLive := by unfold wr8; split <;> rfl
@[simp] theorem wr8_badShadow (s : State) (a : Nat) (v : Byte) : (s.wr8 a v).badShadow = s.badShadow := by unfold wr8; split <;> rfl
@[simp] theorem wr8_staged (s : State) (a : Nat) (v : Byte) : (s.wr8 a v).staged = s.staged := by unfold wr8; split <;> rfl
@[simp] theorem wr8_latch (s : State) (a : Nat) (v : Byte) : (s.wr8 a v).latch = s.latch := by unfold wr8; split <;> rfl
@[simp] theorem wr8_posted (s : State) (a : Nat) (v : Byte) : (s.wr8 a v).posted = s.posted := by unfold wr8; split <;> rfl
@[simp] theorem wr8_wo1Used (s : State) (a : Nat) (v : Byte) : (s.wr8 a v).wo1Used = s.wo1Used := by unfold wr8; split <;> rfl
@[simp] theorem wr8_time (s : State) (a : Nat) (v : Byte) : (s.wr8 a v).time = s.time := by unfold wr8; split <;> rfl
@[simp] theorem wr8_ingest (s : State) (a : Nat) (v : Byte) : (s.wr8 a v).ingest = s.ingest := by unfold wr8; split <;> rfl
@[simp] theorem wr8_kennel (s : State) (a : Nat) (v : Byte) : (s.wr8 a v).kennel = s.kennel := by unfold wr8; split <;> rfl
@[simp] theorem wr8_calib (s : State) (a : Nat) (v : Byte) : (s.wr8 a v).calib = s.calib := by unfold wr8; split <;> rfl
@[simp] theorem wr8_plan (s : State) (a : Nat) (v : Byte) : (s.wr8 a v).plan = s.plan := by unfold wr8; split <;> rfl
@[simp] theorem wr8_vocon (s : State) (a : Nat) (v : Byte) : (s.wr8 a v).vocon = s.vocon := by unfold wr8; split <;> rfl
@[simp] theorem wr8_heel (s : State) (a : Nat) (v : Byte) : (s.wr8 a v).heel = s.heel := by unfold wr8; split <;> rfl
@[simp] theorem wr8_fixture (s : State) (a : Nat) (v : Byte) : (s.wr8 a v).fixture = s.fixture := by unfold wr8; split <;> rfl
@[simp] theorem wr8_uart (s : State) (a : Nat) (v : Byte) : (s.wr8 a v).uart = s.uart := by unfold wr8; split <;> rfl
@[simp] theorem wr8_hub (s : State) (a : Nat) (v : Byte) : (s.wr8 a v).hub = s.hub := by unfold wr8; split <;> rfl
@[simp] theorem wr8_mac (s : State) (a : Nat) (v : Byte) : (s.wr8 a v).mac = s.mac := by unfold wr8; split <;> rfl
@[simp] theorem wr8_host (s : State) (a : Nat) (v : Byte) : (s.wr8 a v).host = s.host := by unfold wr8; split <;> rfl
@[simp] theorem wr8_far (s : State) (a : Nat) (v : Byte) : (s.wr8 a v).far = s.far := by unfold wr8; split <;> rfl
@[simp] theorem wr8_intc (s : State) (a : Nat) (v : Byte) : (s.wr8 a v).intc = s.intc := by unfold wr8; split <;> rfl
@[simp] theorem wr8_brace (s : State) (a : Nat) (v : Byte) : (s.wr8 a v).brace = s.brace := by unfold wr8; split <;> rfl
@[simp] theorem wr8_sheaf (s : State) (a : Nat) (v : Byte) : (s.wr8 a v).sheaf = s.sheaf := by unfold wr8; split <;> rfl
@[simp] theorem wr8_sec (s : State) (a : Nat) (v : Byte) : (s.wr8 a v).sec = s.sec := by unfold wr8; split <;> rfl
@[simp] theorem wr8_check (s : State) (a : Nat) (v : Byte) : (s.wr8 a v).check = s.check := by unfold wr8; split <;> rfl
@[simp] theorem wr8_upd (s : State) (a : Nat) (v : Byte) : (s.wr8 a v).upd = s.upd := by unfold wr8; split <;> rfl
@[simp] theorem wr8_winnow (s : State) (a : Nat) (v : Byte) : (s.wr8 a v).winnow = s.winnow := by unfold wr8; split <;> rfl
@[simp] theorem wr8_pins (s : State) (a : Nat) (v : Byte) : (s.wr8 a v).pins = s.pins := by unfold wr8; split <;> rfl
@[simp] theorem wr8_power (s : State) (a : Nat) (v : Byte) : (s.wr8 a v).power = s.power := by unfold wr8; split <;> rfl
@[simp] theorem wr8_out (s : State) (a : Nat) (v : Byte) : (s.wr8 a v).out = s.out := by unfold wr8; split <;> rfl
@[simp] theorem wr8_bus (s : State) (a : Nat) (v : Byte) : (s.wr8 a v).bus = s.bus := by unfold wr8; split <;> rfl
@[simp] theorem wr8_freeCtr (s : State) (a : Nat) (v : Byte) : (s.wr8 a v).freeCtr = s.freeCtr := by unfold wr8; split <;> rfl
@[simp] theorem wr8_pending (s : State) (a : Nat) (v : Byte) : (s.wr8 a v).pending = s.pending := by unfold wr8; split <;> rfl
@[simp] theorem fresh_regs (s : State) : s.fresh.2.regs = s.regs := rfl
@[simp] theorem fresh_shadow (s : State) : s.fresh.2.shadow = s.shadow := rfl
@[simp] theorem fresh_badLive (s : State) : s.fresh.2.badLive = s.badLive := rfl
@[simp] theorem fresh_badShadow (s : State) : s.fresh.2.badShadow = s.badShadow := rfl
@[simp] theorem fresh_staged (s : State) : s.fresh.2.staged = s.staged := rfl
@[simp] theorem fresh_latch (s : State) : s.fresh.2.latch = s.latch := rfl
@[simp] theorem fresh_posted (s : State) : s.fresh.2.posted = s.posted := rfl
@[simp] theorem fresh_wo1Used (s : State) : s.fresh.2.wo1Used = s.wo1Used := rfl
@[simp] theorem fresh_dram (s : State) : s.fresh.2.dram = s.dram := rfl
@[simp] theorem fresh_time (s : State) : s.fresh.2.time = s.time := rfl
@[simp] theorem fresh_ingest (s : State) : s.fresh.2.ingest = s.ingest := rfl
@[simp] theorem fresh_kennel (s : State) : s.fresh.2.kennel = s.kennel := rfl
@[simp] theorem fresh_calib (s : State) : s.fresh.2.calib = s.calib := rfl
@[simp] theorem fresh_plan (s : State) : s.fresh.2.plan = s.plan := rfl
@[simp] theorem fresh_vocon (s : State) : s.fresh.2.vocon = s.vocon := rfl
@[simp] theorem fresh_heel (s : State) : s.fresh.2.heel = s.heel := rfl
@[simp] theorem fresh_fixture (s : State) : s.fresh.2.fixture = s.fixture := rfl
@[simp] theorem fresh_uart (s : State) : s.fresh.2.uart = s.uart := rfl
@[simp] theorem fresh_hub (s : State) : s.fresh.2.hub = s.hub := rfl
@[simp] theorem fresh_mac (s : State) : s.fresh.2.mac = s.mac := rfl
@[simp] theorem fresh_host (s : State) : s.fresh.2.host = s.host := rfl
@[simp] theorem fresh_far (s : State) : s.fresh.2.far = s.far := rfl
@[simp] theorem fresh_intc (s : State) : s.fresh.2.intc = s.intc := rfl
@[simp] theorem fresh_brace (s : State) : s.fresh.2.brace = s.brace := rfl
@[simp] theorem fresh_sheaf (s : State) : s.fresh.2.sheaf = s.sheaf := rfl
@[simp] theorem fresh_sec (s : State) : s.fresh.2.sec = s.sec := rfl
@[simp] theorem fresh_check (s : State) : s.fresh.2.check = s.check := rfl
@[simp] theorem fresh_upd (s : State) : s.fresh.2.upd = s.upd := rfl
@[simp] theorem fresh_winnow (s : State) : s.fresh.2.winnow = s.winnow := rfl
@[simp] theorem fresh_pins (s : State) : s.fresh.2.pins = s.pins := rfl
@[simp] theorem fresh_power (s : State) : s.fresh.2.power = s.power := rfl
@[simp] theorem fresh_out (s : State) : s.fresh.2.out = s.out := rfl
@[simp] theorem fresh_bus (s : State) : s.fresh.2.bus = s.bus := rfl
@[simp] theorem fresh_pending (s : State) : s.fresh.2.pending = s.pending := rfl

@[simp] theorem send_out (s : State) (x : Sent) : (s.send x).out = s.out ++ [x] := rfl
@[simp] theorem begun_out (s : State) : s.begun.out = [] := rfl
@[simp] theorem fresh_freeCtr (s : State) : s.fresh.2.freeCtr = s.freeCtr + 1 := rfl
@[simp] theorem waitUntil_frc (s : State) (t : Int) : (s.waitUntil t).time.frc = max s.time.frc (s.frcAt t) := rfl

/-! ## Registers after an update -/

theorem reg_of_regs {s t : State} (h : t.regs = s.regs) (a : Nat) : t.reg a = s.reg a := by unfold reg; rw [h]
theorem flag_of_regs {s t : State} (h : t.regs = s.regs) (a b : Nat) : t.flag a b = s.flag a b := by unfold flag; rw [reg_of_regs h]
theorem rd8_of_dram {s t : State} (h : t.dram = s.dram) (a : Nat) : t.rd8 a = s.rd8 a := by unfold rd8; rw [h]
theorem sh_of_shadow {s t : State} (h : t.shadow = s.shadow) (a : Nat) : t.sh a = s.sh a := by unfold sh; rw [h]

@[simp] theorem setReg_reg (s : State) (a : Nat) (v : Word) : (s.setReg a v).reg a = v := Sparse.get_put_same _ _ _ _
theorem setReg_reg_ne (s : State) {a b : Nat} (v : Word) (h : b ≠ a) : (s.setReg a v).reg b = s.reg b := Sparse.get_put_ne _ _ _ v h
@[simp] theorem setSh_sh (s : State) (a : Nat) (v : Word) : (s.setSh a v).sh a = v := Sparse.get_put_same _ _ _ _
theorem setSh_sh_ne (s : State) {a b : Nat} (v : Word) (h : b ≠ a) : (s.setSh a v).sh b = s.sh b := Sparse.get_put_ne _ _ _ v h
@[simp] theorem setBoth_reg (s : State) (a : Nat) (v : Word) : (s.setBoth a v).reg a = v := setReg_reg s a v
@[simp] theorem setBoth_sh (s : State) (a : Nat) (v : Word) : (s.setBoth a v).sh a = v := setSh_sh (s.setReg a v) a v
@[simp] theorem raise_reg (s : State) (a b : Nat) : (s.raise a b).reg a = s.reg a ||| BitVec.ofNat 32 (2 ^ b) := setReg_reg s a _
@[simp] theorem lower_reg (s : State) (a b : Nat) : (s.lower a b).reg a = s.reg a &&& ~~~ BitVec.ofNat 32 (2 ^ b) := setReg_reg s a _
@[simp] theorem count_reg (s : State) (a n : Nat) : (s.count a n).reg a = s.reg a + BitVec.ofNat 32 n := setReg_reg s a _
@[simp] theorem bump_reg (s : State) (a : Nat) : (s.bump a).reg a = s.reg a + 1 := setReg_reg s a _
theorem raise_reg_ne (s : State) {a c : Nat} (b : Nat) (h : c ≠ a) : (s.raise a b).reg c = s.reg c := setReg_reg_ne s _ h
theorem lower_reg_ne (s : State) {a c : Nat} (b : Nat) (h : c ≠ a) : (s.lower a b).reg c = s.reg c := setReg_reg_ne s _ h
theorem count_reg_ne (s : State) {a c : Nat} (n : Nat) (h : c ≠ a) : (s.count a n).reg c = s.reg c := setReg_reg_ne s _ h
theorem bump_reg_ne (s : State) {a c : Nat} (h : c ≠ a) : (s.bump a).reg c = s.reg c := setReg_reg_ne s _ h
theorem raiseIf_reg_ne (s : State) {a c : Nat} (p : Bool) (b : Nat) (h : c ≠ a) : (s.raiseIf p a b).reg c = s.reg c := by
  cases p
  · rfl
  · exact raise_reg_ne s b h
theorem bumpIf_reg_ne (s : State) {a c : Nat} (p : Bool) (h : c ≠ a) : (s.bumpIf p a).reg c = s.reg c := by
  cases p
  · rfl
  · exact bump_reg_ne s h

theorem bit_or_two_pow (w : Word) {b : Nat} (hb : b < 32) (c : Nat) : bit (w ||| BitVec.ofNat 32 (2 ^ b)) c = (bit w c || decide (c = b)) := by
  unfold bit
  rw [BitVec.getLsbD_or, BitVec.getLsbD_ofNat, Nat.testBit_two_pow]
  by_cases hc : c = b
  · simp [hc, hb]
  · have : ¬ b = c := fun h => hc h.symm
    simp [hc, this]

theorem bit_and_not_two_pow (w : Word) {b : Nat} (hb : b < 32) (c : Nat) :
    bit (w &&& ~~~ BitVec.ofNat 32 (2 ^ b)) c = (bit w c && !decide (c = b)) := by
  unfold bit
  rw [BitVec.getLsbD_and, BitVec.getLsbD_not, BitVec.getLsbD_ofNat, Nat.testBit_two_pow]
  by_cases hc : c = b
  · simp [hc, hb]
  · have : ¬ b = c := fun h => hc h.symm
    by_cases h32 : c < 32
    · simp [hc, this, h32]
    · simp [hc, this, h32, BitVec.getLsbD_of_ge w c (by omega)]

/-- A status bit that the hardware sets reads 1. -/
theorem raise_flag (s : State) (a : Nat) {b : Nat} (hb : b < 32) : (s.raise a b).flag a b = true := by
  rw [flag, raise_reg, bit_or_two_pow _ hb]; simp
/-- The other bits of the register keep their values. -/
theorem raise_flag_ne (s : State) (a : Nat) {b c : Nat} (hb : b < 32) (h : c ≠ b) : (s.raise a b).flag a c = s.flag a c := by
  rw [flag, raise_reg, bit_or_two_pow _ hb]; simp [flag, h]
/-- A status bit that was set stays set. -/
theorem raise_flag_mono (s : State) (a : Nat) {b c : Nat} (hb : b < 32) (h : s.flag a c = true) : (s.raise a b).flag a c = true := by
  simp only [flag] at h
  rw [flag, raise_reg, bit_or_two_pow _ hb]; simp [h]
theorem raise_flag_other (s : State) {a c : Nat} (b d : Nat) (h : c ≠ a) : (s.raise a b).flag c d = s.flag c d := by
  simp [flag, raise_reg_ne s b h]
theorem lower_flag (s : State) (a : Nat) {b : Nat} (hb : b < 32) : (s.lower a b).flag a b = false := by
  rw [flag, lower_reg, bit_and_not_two_pow _ hb]; simp
theorem lower_flag_ne (s : State) (a : Nat) {b c : Nat} (hb : b < 32) (h : c ≠ b) : (s.lower a b).flag a c = s.flag a c := by
  rw [flag, lower_reg, bit_and_not_two_pow _ hb]; simp [flag, h]
theorem lower_flag_other (s : State) {a c : Nat} (b d : Nat) (h : c ≠ a) : (s.lower a b).flag c d = s.flag c d := by
  simp [flag, lower_reg_ne s b h]
theorem setReg_flag_other (s : State) {a c : Nat} (v : Word) (d : Nat) (h : c ≠ a) : (s.setReg a v).flag c d = s.flag c d := by
  simp [flag, setReg_reg_ne s v h]
theorem bump_flag_other (s : State) {a c : Nat} (d : Nat) (h : c ≠ a) : (s.bump a).flag c d = s.flag c d := by
  simp [flag, bump_reg_ne s h]
theorem count_flag_other (s : State) {a c : Nat} (n d : Nat) (h : c ≠ a) : (s.count a n).flag c d = s.flag c d := by
  simp [flag, count_reg_ne s n h]

/-! ## Memory -/

theorem wr8_rd8 (s : State) {a : Nat} (v : Byte) (h : a < dramSize) : (s.wr8 a v).rd8 a = v := by
  simp [wr8, h, rd8]
theorem wr8_rd8_ne (s : State) {a b : Nat} (v : Byte) (h : b ≠ a) : (s.wr8 a v).rd8 b = s.rd8 b := by
  unfold wr8
  split
  · exact Sparse.get_put_ne _ _ _ v h
  · rfl
/-- Outside the space nothing is written. -/
theorem wr8_outside (s : State) {a : Nat} (v : Byte) (h : dramSize ≤ a) : s.wr8 a v = s := by
  unfold wr8
  rw [if_neg (by omega)]
theorem wr8_wf (s : State) (a : Nat) (v : Byte) (h : Memory.wf s.dram = true) : Memory.wf (s.wr8 a v).dram = true := by
  unfold wr8
  split
  · exact Sparse.wf_put (fun _ => (0 : Byte)) a v h
  · exact h
theorem wrBytes_wf (s : State) (a : Nat) (l : Bytes) (h : Memory.wf s.dram = true) : Memory.wf (s.wrBytes a l).dram = true := by
  induction l generalizing s a with
  | nil => exact h
  | cons b t ih => exact ih (s.wr8 a b) (a + 1) (wr8_wf s a b h)
theorem wrLE_wf (s : State) (a k v : Nat) (h : Memory.wf s.dram = true) : Memory.wf (s.wrLE a k v).dram = true :=
  wrBytes_wf s a _ h
/-- A write of bytes leaves every byte outside its range alone. -/
theorem wrBytes_rd8_outside (s : State) (a : Nat) (l : Bytes) {b : Nat} (h : b < a ∨ a + l.length ≤ b) :
    (s.wrBytes a l).rd8 b = s.rd8 b := by
  induction l generalizing s a with
  | nil => rfl
  | cons x t ih =>
    simp only [List.length_cons] at h
    show (wrBytes (s.wr8 a x) (a + 1) t).rd8 b = s.rd8 b
    rw [ih (s.wr8 a x) (a + 1) (by omega), wr8_rd8_ne s x (by omega)]
/-- Inside its range it reads back. -/
theorem wrBytes_rd8_inside (s : State) (a : Nat) (l : Bytes) {i : Nat} (hi : i < l.length) (h : a + l.length ≤ dramSize) :
    (s.wrBytes a l).rd8 (a + i) = l[i] := by
  induction l generalizing s a i with
  | nil => simp at hi
  | cons x t ih =>
    simp only [List.length_cons] at h hi
    show (wrBytes (s.wr8 a x) (a + 1) t).rd8 (a + i) = _
    cases i with
    | zero => rw [wrBytes_rd8_outside _ _ _ (by omega)]; exact wr8_rd8 s x (by omega)
    | succ j =>
      rw [show a + (j + 1) = a + 1 + j by omega, ih (s.wr8 a x) (a + 1) (by omega) (by omega)]
      rfl

@[simp] theorem wrBytes_regs (s : State) (a : Nat) (l : Bytes) : (s.wrBytes a l).regs = s.regs := by
  induction l generalizing s a with
  | nil => rfl
  | cons b t ih => rw [wrBytes, ih, wr8_regs]
@[simp] theorem wrBytes_shadow (s : State) (a : Nat) (l : Bytes) : (s.wrBytes a l).shadow = s.shadow := by
  induction l generalizing s a with
  | nil => rfl
  | cons b t ih => rw [wrBytes, ih, wr8_shadow]
@[simp] theorem wrBytes_badLive (s : State) (a : Nat) (l : Bytes) : (s.wrBytes a l).badLive = s.badLive := by
  induction l generalizing s a with
  | nil => rfl
  | cons b t ih => rw [wrBytes, ih, wr8_badLive]
@[simp] theorem wrBytes_badShadow (s : State) (a : Nat) (l : Bytes) : (s.wrBytes a l).badShadow = s.badShadow := by
  induction l generalizing s a with
  | nil => rfl
  | cons b t ih => rw [wrBytes, ih, wr8_badShadow]
@[simp] theorem wrBytes_staged (s : State) (a : Nat) (l : Bytes) : (s.wrBytes a l).staged = s.staged := by
  induction l generalizing s a with
  | nil => rfl
  | cons b t ih => rw [wrBytes, ih, wr8_staged]
@[simp] theorem wrBytes_latch (s : State) (a : Nat) (l : Bytes) : (s.wrBytes a l).latch = s.latch := by
  induction l generalizing s a with
  | nil => rfl
  | cons b t ih => rw [wrBytes, ih, wr8_latch]
@[simp] theorem wrBytes_posted (s : State) (a : Nat) (l : Bytes) : (s.wrBytes a l).posted = s.posted := by
  induction l generalizing s a with
  | nil => rfl
  | cons b t ih => rw [wrBytes, ih, wr8_posted]
@[simp] theorem wrBytes_wo1Used (s : State) (a : Nat) (l : Bytes) : (s.wrBytes a l).wo1Used = s.wo1Used := by
  induction l generalizing s a with
  | nil => rfl
  | cons b t ih => rw [wrBytes, ih, wr8_wo1Used]
@[simp] theorem wrBytes_time (s : State) (a : Nat) (l : Bytes) : (s.wrBytes a l).time = s.time := by
  induction l generalizing s a with
  | nil => rfl
  | cons b t ih => rw [wrBytes, ih, wr8_time]
@[simp] theorem wrBytes_ingest (s : State) (a : Nat) (l : Bytes) : (s.wrBytes a l).ingest = s.ingest := by
  induction l generalizing s a with
  | nil => rfl
  | cons b t ih => rw [wrBytes, ih, wr8_ingest]
@[simp] theorem wrBytes_kennel (s : State) (a : Nat) (l : Bytes) : (s.wrBytes a l).kennel = s.kennel := by
  induction l generalizing s a with
  | nil => rfl
  | cons b t ih => rw [wrBytes, ih, wr8_kennel]
@[simp] theorem wrBytes_calib (s : State) (a : Nat) (l : Bytes) : (s.wrBytes a l).calib = s.calib := by
  induction l generalizing s a with
  | nil => rfl
  | cons b t ih => rw [wrBytes, ih, wr8_calib]
@[simp] theorem wrBytes_plan (s : State) (a : Nat) (l : Bytes) : (s.wrBytes a l).plan = s.plan := by
  induction l generalizing s a with
  | nil => rfl
  | cons b t ih => rw [wrBytes, ih, wr8_plan]
@[simp] theorem wrBytes_vocon (s : State) (a : Nat) (l : Bytes) : (s.wrBytes a l).vocon = s.vocon := by
  induction l generalizing s a with
  | nil => rfl
  | cons b t ih => rw [wrBytes, ih, wr8_vocon]
@[simp] theorem wrBytes_heel (s : State) (a : Nat) (l : Bytes) : (s.wrBytes a l).heel = s.heel := by
  induction l generalizing s a with
  | nil => rfl
  | cons b t ih => rw [wrBytes, ih, wr8_heel]
@[simp] theorem wrBytes_fixture (s : State) (a : Nat) (l : Bytes) : (s.wrBytes a l).fixture = s.fixture := by
  induction l generalizing s a with
  | nil => rfl
  | cons b t ih => rw [wrBytes, ih, wr8_fixture]
@[simp] theorem wrBytes_uart (s : State) (a : Nat) (l : Bytes) : (s.wrBytes a l).uart = s.uart := by
  induction l generalizing s a with
  | nil => rfl
  | cons b t ih => rw [wrBytes, ih, wr8_uart]
@[simp] theorem wrBytes_hub (s : State) (a : Nat) (l : Bytes) : (s.wrBytes a l).hub = s.hub := by
  induction l generalizing s a with
  | nil => rfl
  | cons b t ih => rw [wrBytes, ih, wr8_hub]
@[simp] theorem wrBytes_mac (s : State) (a : Nat) (l : Bytes) : (s.wrBytes a l).mac = s.mac := by
  induction l generalizing s a with
  | nil => rfl
  | cons b t ih => rw [wrBytes, ih, wr8_mac]
@[simp] theorem wrBytes_host (s : State) (a : Nat) (l : Bytes) : (s.wrBytes a l).host = s.host := by
  induction l generalizing s a with
  | nil => rfl
  | cons b t ih => rw [wrBytes, ih, wr8_host]
@[simp] theorem wrBytes_far (s : State) (a : Nat) (l : Bytes) : (s.wrBytes a l).far = s.far := by
  induction l generalizing s a with
  | nil => rfl
  | cons b t ih => rw [wrBytes, ih, wr8_far]
@[simp] theorem wrBytes_intc (s : State) (a : Nat) (l : Bytes) : (s.wrBytes a l).intc = s.intc := by
  induction l generalizing s a with
  | nil => rfl
  | cons b t ih => rw [wrBytes, ih, wr8_intc]
@[simp] theorem wrBytes_brace (s : State) (a : Nat) (l : Bytes) : (s.wrBytes a l).brace = s.brace := by
  induction l generalizing s a with
  | nil => rfl
  | cons b t ih => rw [wrBytes, ih, wr8_brace]
@[simp] theorem wrBytes_sheaf (s : State) (a : Nat) (l : Bytes) : (s.wrBytes a l).sheaf = s.sheaf := by
  induction l generalizing s a with
  | nil => rfl
  | cons b t ih => rw [wrBytes, ih, wr8_sheaf]
@[simp] theorem wrBytes_sec (s : State) (a : Nat) (l : Bytes) : (s.wrBytes a l).sec = s.sec := by
  induction l generalizing s a with
  | nil => rfl
  | cons b t ih => rw [wrBytes, ih, wr8_sec]
@[simp] theorem wrBytes_check (s : State) (a : Nat) (l : Bytes) : (s.wrBytes a l).check = s.check := by
  induction l generalizing s a with
  | nil => rfl
  | cons b t ih => rw [wrBytes, ih, wr8_check]
@[simp] theorem wrBytes_upd (s : State) (a : Nat) (l : Bytes) : (s.wrBytes a l).upd = s.upd := by
  induction l generalizing s a with
  | nil => rfl
  | cons b t ih => rw [wrBytes, ih, wr8_upd]
@[simp] theorem wrBytes_winnow (s : State) (a : Nat) (l : Bytes) : (s.wrBytes a l).winnow = s.winnow := by
  induction l generalizing s a with
  | nil => rfl
  | cons b t ih => rw [wrBytes, ih, wr8_winnow]
@[simp] theorem wrBytes_pins (s : State) (a : Nat) (l : Bytes) : (s.wrBytes a l).pins = s.pins := by
  induction l generalizing s a with
  | nil => rfl
  | cons b t ih => rw [wrBytes, ih, wr8_pins]
@[simp] theorem wrBytes_power (s : State) (a : Nat) (l : Bytes) : (s.wrBytes a l).power = s.power := by
  induction l generalizing s a with
  | nil => rfl
  | cons b t ih => rw [wrBytes, ih, wr8_power]
@[simp] theorem wrBytes_out (s : State) (a : Nat) (l : Bytes) : (s.wrBytes a l).out = s.out := by
  induction l generalizing s a with
  | nil => rfl
  | cons b t ih => rw [wrBytes, ih, wr8_out]
@[simp] theorem wrBytes_bus (s : State) (a : Nat) (l : Bytes) : (s.wrBytes a l).bus = s.bus := by
  induction l generalizing s a with
  | nil => rfl
  | cons b t ih => rw [wrBytes, ih, wr8_bus]
@[simp] theorem wrBytes_freeCtr (s : State) (a : Nat) (l : Bytes) : (s.wrBytes a l).freeCtr = s.freeCtr := by
  induction l generalizing s a with
  | nil => rfl
  | cons b t ih => rw [wrBytes, ih, wr8_freeCtr]
@[simp] theorem wrBytes_pending (s : State) (a : Nat) (l : Bytes) : (s.wrBytes a l).pending = s.pending := by
  induction l generalizing s a with
  | nil => rfl
  | cons b t ih => rw [wrBytes, ih, wr8_pending]

/-- The memory of the state after reset has the canonical form. -/
theorem reset_dram_wf : Memory.wf State.reset.dram = true := rfl

end State

end Sys2Proof.Machine
end

