-- ==== Sys2Proof/Laws/Settle.lean ====
section
/-! SUPPORT. What the settling of the interrupt controller can do (R434, R438, R442, R443): it changes the controller's own state and
INTC_REROUTE_CNT, and nothing else; and what a command that every meaning ends with answers. -/

namespace Sys2Proof.Machine

namespace State

/-- Two states that differ in the interrupt controller's state and in INTC_REROUTE_CNT alone. -/
def OnlyIntc (s t : State) : Prop :=
  ∃ (ic : IntcSt) (r : List (Nat × Word)), t = { s with intc := ic, regs := r } ∧
    ∀ (d : Word) (a : Nat), a ≠ R.INTC_REROUTE_CNT → Sparse.get d r a = Sparse.get d s.regs a

theorem OnlyIntc.refl (s : State) : OnlyIntc s s := ⟨s.intc, s.regs, rfl, fun _ _ _ => rfl⟩

theorem OnlyIntc.trans {s t u : State} (h : OnlyIntc s t) (g : OnlyIntc t u) : OnlyIntc s u := by
  obtain ⟨ic, r, rfl, hr⟩ := h
  obtain ⟨jc, q, rfl, hq⟩ := g
  exact ⟨jc, q, rfl, fun d a ha => (hq d a ha).trans (hr d a ha)⟩

theorem onlyIntc_withdraw (s : State) (c : Nat) : OnlyIntc s (s.withdraw c) := by
  unfold withdraw
  split
  · exact OnlyIntc.refl s
  · split
    · exact OnlyIntc.refl s
    · exact ⟨_, _, rfl, fun d a ha => Sparse.get_put_ne _ d s.regs _ ha⟩

theorem onlyIntc_fallen (s : State) : OnlyIntc s s.fallen := ⟨_, _, rfl, fun _ _ _ => rfl⟩
theorem onlyIntc_sample (s : State) : OnlyIntc s s.sample := ⟨_, _, rfl, fun _ _ _ => rfl⟩

theorem onlyIntc_join (s : State) (c : Nat) : OnlyIntc s (s.join c) := by
  unfold join
  simp only
  split
  · exact OnlyIntc.refl s
  · split
    · exact OnlyIntc.refl s
    · exact ⟨_, _, rfl, fun _ _ _ => rfl⟩

/-- Settling touches nothing but the controller and its counter. -/
theorem onlyIntc_settle (s : State) : OnlyIntc s s.settle := by
  unfold settle
  exact (((((((((onlyIntc_withdraw s 0).trans (onlyIntc_withdraw _ 1)).trans (onlyIntc_withdraw _ 2)).trans (onlyIntc_withdraw _ 3)).trans
    (onlyIntc_fallen _)).trans (onlyIntc_sample _)).trans (onlyIntc_join _ 0)).trans (onlyIntc_join _ 1)).trans (onlyIntc_join _ 2)).trans
    (onlyIntc_join _ 3)

theorem OnlyIntc.reg {s t : State} (h : OnlyIntc s t) {a : Nat} (ha : a ≠ R.INTC_REROUTE_CNT) : t.reg a = s.reg a := by
  obtain ⟨ic, r, rfl, hr⟩ := h
  exact hr _ a ha

theorem settle_reg (s : State) {a : Nat} (ha : a ≠ R.INTC_REROUTE_CNT) : s.settle.reg a = s.reg a := (onlyIntc_settle s).reg ha
theorem settle_flag (s : State) {a : Nat} (b : Nat) (ha : a ≠ R.INTC_REROUTE_CNT) : s.settle.flag a b = s.flag a b := by
  unfold flag; rw [settle_reg s ha]
theorem settle_field (s : State) {a : Nat} (hi lo : Nat) (ha : a ≠ R.INTC_REROUTE_CNT) : s.settle.field a hi lo = s.field a hi lo := by
  unfold field; rw [settle_reg s ha]

@[simp] theorem settle_shadow (s : State) : s.settle.shadow = s.shadow := by
  obtain ⟨_, _, h, _⟩ := onlyIntc_settle s
  rw [h]
@[simp] theorem settle_badLive (s : State) : s.settle.badLive = s.badLive := by
  obtain ⟨_, _, h, _⟩ := onlyIntc_settle s
  rw [h]
@[simp] theorem settle_badShadow (s : State) : s.settle.badShadow = s.badShadow := by
  obtain ⟨_, _, h, _⟩ := onlyIntc_settle s
  rw [h]
@[simp] theorem settle_staged (s : State) : s.settle.staged = s.staged := by
  obtain ⟨_, _, h, _⟩ := onlyIntc_settle s
  rw [h]
@[simp] theorem settle_latch (s : State) : s.settle.latch = s.latch := by
  obtain ⟨_, _, h, _⟩ := onlyIntc_settle s
  rw [h]
@[simp] theorem settle_posted (s : State) : s.settle.posted = s.posted := by
  obtain ⟨_, _, h, _⟩ := onlyIntc_settle s
  rw [h]
@[simp] theorem settle_wo1Used (s : State) : s.settle.wo1Used = s.wo1Used := by
  obtain ⟨_, _, h, _⟩ := onlyIntc_settle s
  rw [h]
@[simp] theorem settle_dram (s : State) : s.settle.dram = s.dram := by
  obtain ⟨_, _, h, _⟩ := onlyIntc_settle s
  rw [h]
@[simp] theorem settle_time (s : State) : s.settle.time = s.time := by
  obtain ⟨_, _, h, _⟩ := onlyIntc_settle s
  rw [h]
@[simp] theorem settle_ingest (s : State) : s.settle.ingest = s.ingest := by
  obtain ⟨_, _, h, _⟩ := onlyIntc_settle s
  rw [h]
@[simp] theorem settle_kennel (s : State) : s.settle.kennel = s.kennel := by
  obtain ⟨_, _, h, _⟩ := onlyIntc_settle s
  rw [h]
@[simp] theorem settle_calib (s : State) : s.settle.calib = s.calib := by
  obtain ⟨_, _, h, _⟩ := onlyIntc_settle s
  rw [h]
@[simp] theorem settle_plan (s : State) : s.settle.plan = s.plan := by
  obtain ⟨_, _, h, _⟩ := onlyIntc_settle s
  rw [h]
@[simp] theorem settle_vocon (s : State) : s.settle.vocon = s.vocon := by
  obtain ⟨_, _, h, _⟩ := onlyIntc_settle s
  rw [h]
@[simp] theorem settle_heel (s : State) : s.settle.heel = s.heel := by
  obtain ⟨_, _, h, _⟩ := onlyIntc_settle s
  rw [h]
@[simp] theorem settle_fixture (s : State) : s.settle.fixture = s.fixture := by
  obtain ⟨_, _, h, _⟩ := onlyIntc_settle s
  rw [h]
@[simp] theorem settle_uart (s : State) : s.settle.uart = s.uart := by
  obtain ⟨_, _, h, _⟩ := onlyIntc_settle s
  rw [h]
@[simp] theorem settle_hub (s : State) : s.settle.hub = s.hub := by
  obtain ⟨_, _, h, _⟩ := onlyIntc_settle s
  rw [h]
@[simp] theorem settle_mac (s : State) : s.settle.mac = s.mac := by
  obtain ⟨_, _, h, _⟩ := onlyIntc_settle s
  rw [h]
@[simp] theorem settle_host (s : State) : s.settle.host = s.host := by
  obtain ⟨_, _, h, _⟩ := onlyIntc_settle s
  rw [h]
@[simp] theorem settle_far (s : State) : s.settle.far = s.far := by
  obtain ⟨_, _, h, _⟩ := onlyIntc_settle s
  rw [h]
@[simp] theorem settle_brace (s : State) : s.settle.brace = s.brace := by
  obtain ⟨_, _, h, _⟩ := onlyIntc_settle s
  rw [h]
@[simp] theorem settle_sheaf (s : State) : s.settle.sheaf = s.sheaf := by
  obtain ⟨_, _, h, _⟩ := onlyIntc_settle s
  rw [h]
@[simp] theorem settle_sec (s : State) : s.settle.sec = s.sec := by
  obtain ⟨_, _, h, _⟩ := onlyIntc_settle s
  rw [h]
@[simp] theorem settle_check (s : State) : s.settle.check = s.check := by
  obtain ⟨_, _, h, _⟩ := onlyIntc_settle s
  rw [h]
@[simp] theorem settle_upd (s : State) : s.settle.upd = s.upd := by
  obtain ⟨_, _, h, _⟩ := onlyIntc_settle s
  rw [h]
@[simp] theorem settle_winnow (s : State) : s.settle.winnow = s.winnow := by
  obtain ⟨_, _, h, _⟩ := onlyIntc_settle s
  rw [h]
@[simp] theorem settle_pins (s : State) : s.settle.pins = s.pins := by
  obtain ⟨_, _, h, _⟩ := onlyIntc_settle s
  rw [h]
@[simp] theorem settle_power (s : State) : s.settle.power = s.power := by
  obtain ⟨_, _, h, _⟩ := onlyIntc_settle s
  rw [h]
@[simp] theorem settle_out (s : State) : s.settle.out = s.out := by
  obtain ⟨_, _, h, _⟩ := onlyIntc_settle s
  rw [h]
@[simp] theorem settle_bus (s : State) : s.settle.bus = s.bus := by
  obtain ⟨_, _, h, _⟩ := onlyIntc_settle s
  rw [h]
@[simp] theorem settle_freeCtr (s : State) : s.settle.freeCtr = s.freeCtr := by
  obtain ⟨_, _, h, _⟩ := onlyIntc_settle s
  rw [h]
@[simp] theorem settle_pending (s : State) : s.settle.pending = s.pending := by
  obtain ⟨_, _, h, _⟩ := onlyIntc_settle s
  rw [h]

@[simp] theorem settle_sh (s : State) (a : Nat) : s.settle.sh a = s.sh a := by unfold sh; rw [settle_shadow]
@[simp] theorem settle_rd8 (s : State) (a : Nat) : s.settle.rd8 a = s.rd8 a := by unfold rd8; rw [settle_dram]

/-! ## What settling leaves of the controller -/

@[simp] theorem withdraw_src (s : State) (c : Nat) : (s.withdraw c).intc.src = s.intc.src := by
  unfold withdraw; (split; rfl; split <;> rfl)
@[simp] theorem withdraw_mask (s : State) (c : Nat) : (s.withdraw c).intc.mask = s.intc.mask := by
  unfold withdraw; (split; rfl; split <;> rfl)
@[simp] theorem withdraw_pend (s : State) (c : Nat) : (s.withdraw c).intc.pend = s.intc.pend := by
  unfold withdraw; (split; rfl; split <;> rfl)
@[simp] theorem join_src (s : State) (c : Nat) : (s.join c).intc.src = s.intc.src := by
  unfold join; simp only; (split; rfl; split <;> rfl)
@[simp] theorem join_mask (s : State) (c : Nat) : (s.join c).intc.mask = s.intc.mask := by
  unfold join; simp only; (split; rfl; split <;> rfl)
@[simp] theorem join_pend (s : State) (c : Nat) : (s.join c).intc.pend = s.intc.pend := by
  unfold join; simp only; (split; rfl; split <;> rfl)
@[simp] theorem join_regs (s : State) (c : Nat) : (s.join c).regs = s.regs := by
  unfold join; simp only; (split; rfl; split <;> rfl)

@[simp] theorem settle_src (s : State) : s.settle.intc.src = s.intc.src := by simp [settle, sample, fallen]
@[simp] theorem settle_mask (s : State) : s.settle.intc.mask = s.intc.mask := by simp [settle, sample, fallen]

end State

/-! ## How a command ends -/

open State

theorem onMain_on {s : State} (f : State → State) (h : s.mainOn = true) : onMain s f = .next (f s.begun).settle := by
  simp [onMain, done, h]
/-- R39: while MAIN is off a command of the MAIN domain changes nothing; nothing leaves the device. -/
theorem onMain_off {s : State} (f : State → State) (h : s.mainOn = false) : onMain s f = .next s.begun.settle := by
  simp [onMain, done, h]
theorem onLoader_on {s : State} (f : State → State) (h : s.mainRuns = true) : onLoader s f = .next (f s.begun).settle := by
  simp [onLoader, done, h]
theorem onLoader_off {s : State} (f : State → State) (h : s.mainRuns = false) : onLoader s f = .next s.begun.settle := by
  simp [onLoader, done, h]
theorem onPort_main {n : Nat} (s : State) (f : State → State) (h : n ≠ 36) : onPort n s f = onMain s f := by simp [onPort, h]
theorem onPort_service (s : State) (f : State → State) : onPort 36 s f = onLoader s f := rfl
theorem onLoader_next (s : State) (f : State → State) : ∃ t, onLoader s f = .next t := ⟨_, rfl⟩
theorem onPort_next (n : Nat) (s : State) (f : State → State) : ∃ t, onPort n s f = .next t := by
  unfold onPort; split <;> exact ⟨_, rfl⟩
theorem onAny_eq (s : State) (f : State → State) : onAny s f = .next (f s.begun).settle := rfl
theorem onMain_next (s : State) (f : State → State) : ∃ t, onMain s f = .next t := ⟨_, rfl⟩
theorem onAny_next (s : State) (f : State → State) : ∃ t, onAny s f = .next t := ⟨_, rfl⟩
@[simp] theorem begun_reg (s : State) (a : Nat) : s.begun.reg a = s.reg a := rfl
@[simp] theorem begun_flag (s : State) (a b : Nat) : s.begun.flag a b = s.flag a b := rfl
@[simp] theorem begun_field (s : State) (a hi lo : Nat) : s.begun.field a hi lo = s.field a hi lo := rfl
@[simp] theorem begun_sh (s : State) (a : Nat) : s.begun.sh a = s.sh a := rfl
@[simp] theorem begun_inShow (s : State) : s.begun.inShow = s.inShow := rfl
@[simp] theorem begun_mainOn (s : State) : s.begun.mainOn = s.mainOn := rfl

end Sys2Proof.Machine
end

