-- ==== Sys2Proof/Laws/Frame.lean ====
section
/-! SUPPORT. Frames: how `Differs` and `SameBlocks` pass through the updates of the state and through settling. -/

namespace Sys2Proof.Machine

namespace State

theorem SameBlocks.refl (s : State) : SameBlocks s s := rfl

theorem SameBlocks.trans {s t u : State} (h : SameBlocks s t) (g : SameBlocks t u) : SameBlocks s u := by
  unfold SameBlocks at *
  rw [g, h]

theorem Differs.refl (l : List Nat) (s : State) : Differs l s s := ⟨fun _ _ _ => rfl, ⟨rfl, rfl⟩, rfl⟩

theorem Differs.trans {l : List Nat} {s t u : State} (h : Differs l s t) (g : Differs l t u) : Differs l s u :=
  ⟨fun a h1 h2 => (g.1 a h1 h2).trans (h.1 a h1 h2), ⟨g.2.1.1.trans h.2.1.1, g.2.1.2.trans h.2.1.2⟩, SameBlocks.trans h.2.2 g.2.2⟩

theorem Differs.mono {l l' : List Nat} {s t : State} (h : Differs l s t) (hl : ∀ a ∈ l, a ∈ l') : Differs l' s t :=
  ⟨fun a h1 h2 => h.1 a (fun hm => h1 (hl a hm)) h2, h.2.1, h.2.2⟩

theorem differs_setReg {l : List Nat} (s : State) {a : Nat} (v : Word) (h : a ∈ l) : Differs l s (s.setReg a v) :=
  ⟨fun _ h1 _ => setReg_reg_ne s v (fun hb => h1 (hb ▸ h)), ⟨rfl, rfl⟩, rfl⟩

theorem differs_raise {l : List Nat} (s : State) {a : Nat} (b : Nat) (h : a ∈ l) : Differs l s (s.raise a b) := differs_setReg s _ h
theorem differs_lower {l : List Nat} (s : State) {a : Nat} (b : Nat) (h : a ∈ l) : Differs l s (s.lower a b) := differs_setReg s _ h
theorem differs_count {l : List Nat} (s : State) {a : Nat} (n : Nat) (h : a ∈ l) : Differs l s (s.count a n) := differs_setReg s _ h
theorem differs_bump {l : List Nat} (s : State) {a : Nat} (h : a ∈ l) : Differs l s (s.bump a) := differs_setReg s _ h
theorem differs_raiseIf {l : List Nat} (s : State) {a : Nat} (c : Bool) (b : Nat) (h : a ∈ l) : Differs l s (s.raiseIf c a b) := by
  cases c
  · exact Differs.refl l s
  · exact differs_raise s b h
theorem differs_bumpIf {l : List Nat} (s : State) {a : Nat} (c : Bool) (h : a ∈ l) : Differs l s (s.bumpIf c a) := by
  cases c
  · exact Differs.refl l s
  · exact differs_bump s h
theorem differs_send {l : List Nat} (s : State) (x : Sent) : Differs l s (s.send x) := ⟨fun _ _ _ => rfl, ⟨rfl, rfl⟩, rfl⟩
theorem differs_begin {l : List Nat} (s : State) : Differs l s s.begun := ⟨fun _ _ _ => rfl, ⟨rfl, rfl⟩, rfl⟩

theorem differs_settle {l : List Nat} (s : State) : Differs l s s.settle :=
  ⟨fun a _ h => settle_reg s h, ⟨settle_src s, settle_mask s⟩, by
    obtain ⟨ic, r, h, _⟩ := onlyIntc_settle s
    rw [h]⟩

/-- The usual end of a command: what its effect leaves alone, settling leaves alone. -/
theorem Differs.settled {l : List Nat} {u s : State} (h : Differs l u s) : Differs l u s.settle := h.trans (differs_settle s)

end State

end Sys2Proof.Machine
end

