-- ==== Sys2Proof/Laws/Memory.lean ====
section
/-! SUPPORT. Both memories: every operation on them keeps the canonical form, and a byte of host memory reads as it was last written. -/

namespace Sys2Proof.Machine

namespace Sparse

variable {α : Type}

theorem rising_filter {m : List (Nat × α)} {b : Nat} (p : Nat × α → Bool) (hm : rising b m = true) : rising b (m.filter p) = true := by
  induction m generalizing b with
  | nil => rfl
  | cons e t ih =>
    obtain ⟨k, v⟩ := e
    simp only [rising, Bool.and_eq_true, decide_eq_true_eq] at hm
    by_cases h : p (k, v) = true
    · simp only [List.filter_cons, h, if_true, rising, Bool.and_eq_true, decide_eq_true_eq]
      exact ⟨hm.1, ih hm.2⟩
    · simp only [List.filter_cons, h]
      exact rising_mono (by omega) (ih hm.2)

/-- Cells taken out leave the canonical form. -/
theorem wf_filter [DecidableEq α] (d : Nat → α) {m : List (Nat × α)} (p : Nat × α → Bool) (hm : wf d m = true) :
    wf d (m.filter p) = true := by
  simp only [wf, Bool.and_eq_true, List.all_eq_true, bne_iff_ne, ne_eq] at hm ⊢
  exact ⟨rising_filter p hm.1, fun e he => hm.2 e (List.mem_filter.mp he).1⟩

end Sparse

namespace State

@[simp] theorem hostWr8_dram (s : State) (a : Nat) (v : Byte) : (s.hostWr8 a v).dram = s.dram := rfl

theorem hostWr8_hostRd8 (s : State) (a : Nat) (v : Byte) : (s.hostWr8 a v).hostRd8 a = v := by
  simp [hostWr8, hostRd8]
theorem hostWr8_hostRd8_ne (s : State) {a b : Nat} (v : Byte) (h : b % 2 ^ 64 ≠ a % 2 ^ 64) :
    (s.hostWr8 a v).hostRd8 b = s.hostRd8 b := Sparse.get_put_ne _ _ _ v h

theorem hostWr8_memRule (s : State) (a : Nat) (v : Byte) (h : s.MemRule) : (s.hostWr8 a v).MemRule :=
  ⟨h.1, Sparse.wf_put (fun _ => (0 : Byte)) _ v h.2⟩
theorem wr8_memRule (s : State) (a : Nat) (v : Byte) (h : s.MemRule) : (s.wr8 a v).MemRule :=
  ⟨wr8_wf s a v h.1, by rw [wr8_host]; exact h.2⟩
theorem wrBytes_memRule (s : State) (a : Nat) (l : Bytes) (h : s.MemRule) : (s.wrBytes a l).MemRule := by
  induction l generalizing s a with
  | nil => exact h
  | cons b t ih => exact ih (s.wr8 a b) (a + 1) (wr8_memRule s a b h)
/-- A write to the memory of a ring's owner keeps both memories canonical. -/
theorem ownWrite_memRule (s : State) (r a : Nat) (l : Bytes) (h : s.MemRule) : (s.ownWrite r a l).MemRule := by
  induction l generalizing s a with
  | nil => exact h
  | cons b t ih =>
    refine ih _ (a + 1) ?_
    split
    · split
      · exact wr8_memRule s a b h
      · exact h
    · exact hostWr8_memRule s a b h

end State

end Sys2Proof.Machine
end

