-- ==== Sys2Proof/WellFormed.lean ====
section
/-! DEFINITION. Which commands can occur: every operand lies in the range that the spec gives what it names (37 MACs, 64 serial ports, 64
rings, 16 engines, 32,768 tiles, and so on), and every number that a wire carries fits its field. The machine answers a command that
is not well-formed as well; the statements do not ask it for more than that. -/

namespace Sys2Proof

/-- R7: 48 bits of seconds and 32 of nanoseconds; R9 judges the nanoseconds. -/
def Ts.wf (t : Ts) : Bool := decide (t.sec < 2 ^ 48) && decide (t.ns < 2 ^ 32)

/-- R80: sequence numbers have 16 bits, clock identities 64, corrections 64 with sign. -/
def correctionWf (c : Int) : Bool := decide (-(2 ^ 63) ≤ c) && decide (c < 2 ^ 63)

/-- R80. -/
def PtpMsg.wf : PtpMsg → Bool
  | .followUp seq t1 c => decide (seq < 2 ^ 16) && t1.wf && correctionWf c
  | .delayReq seq clock t => decide (seq < 2 ^ 16) && decide (clock < 2 ^ 64) && t.wf
  | .delayResp seq t4 c => decide (seq < 2 ^ 16) && t4.wf && correctionWf c
  | .pdelayReq seq clock t => decide (seq < 2 ^ 16) && decide (clock < 2 ^ 64) && t.wf
  | .pdelayResp seq t2 c _ => decide (seq < 2 ^ 16) && t2.wf && correctionWf c
  | .pdelayRespFollowUp seq t3 c => decide (seq < 2 ^ 16) && t3.wf && correctionWf c
  | .announce o t => t.wf && (match o with
    | some x => decide (-(2 ^ 31) ≤ x) && decide (x < 2 ^ 31)
    | none => true)

/-- R105: media come in at ports 0 to 35; a UDP port has 16 bits, an RTP payload type 7. -/
def RtpHdr.wf (h : RtpHdr) : Bool := decide (h.port < 36) && decide (h.udp < 2 ^ 16) && decide (h.payloadType < 128)

/-- R106: a sample row data header has 15 bits of row number, 15 of offset and 16 of length. -/
def Srd.wf (x : Srd) : Bool := decide (x.row < 2 ^ 15) && decide (x.offset < 2 ^ 15) && decide (x.length < 2 ^ 16)

/-- R516: a sender has a MAC address of 6 bytes, an IPv4 address and a UDP port. -/
def Peer.wf (p : Peer) : Bool := decide (p.mac.length = 6) && decide (p.ip < 2 ^ 32) && decide (p.port < 2 ^ 16)

/-- R37: a SerDes lane is one of 32, a DisplayPort output one of two. -/
def ClockUnit.wf : ClockUnit → Bool
  | .main | .phy | .pcie => true
  | .lane l | .recovery l => decide (l < 32)
  | .displayPort o => decide (o < 2)

/-- R55: bit 32 is the parity bit. -/
def Upset.wf (u : Upset) : Bool := decide (u.offset < 2 ^ 26) && decide (u.offset % 4 = 0) && decide (u.bitNo ≤ 32)

/-- R30, R533: a register's offset, or bytes of the configuration store that fit in DRAM. -/
def Restore.wf : Restore → Bool
  | .reg o _ => decide (o < 2 ^ 26) && decide (o % 4 = 0)
  | .table a f n => decide (a + n ≤ 2 ^ 34) && decide (0x20200000 ≤ f) && decide (f + n ≤ 0x38200000)

/-- R533, R487: the engines are 16, the stages 7; the extractor corrects up to 25 %. -/
def BootReport.wf (r : BootReport) : Bool :=
  decide (r.ber < 2 ^ 32) && (!r.pufOk || decide (r.ber ≤ 250)) && r.restored.all Restore.wf && decide (r.late < 8) && r.katFailed.all (fun e => decide (e < 16)) && (r.train ++ r.delays).all (fun x => decide (x.1 < 2 ^ 26) && decide (x.1 % 4 = 0))

/-- R41: an offset in the 64 MiB register window. -/
def offsetWf (o : Nat) : Bool := decide (o < 2 ^ 26) && decide (o % 4 = 0)
/-- R25, R41: where a write may go: a host and the partner write to BAR0 offsets; a control core also to DRAM's 16 GiB and, for the
registers, to 0xFF_0000_0000 and the offset. -/
def writeWf (init : Initiator) (a : Nat) : Bool :=
  offsetWf a || decide (init = .core) && decide (a % 4 = 0)
    && (decide (a < 2 ^ 34) || decide (0xFF00000000 ≤ a) && decide (a < 0xFF00000000 + 2 ^ 26))
/-- R367: MACs 0 to 36. -/
def portWf (n : Nat) : Bool := decide (n < 37)
/-- R396: rings 0 to 63. -/
def ringWf (r : Nat) : Bool := decide (r < 64)
/-- Serial ports 0 to 63 (R316). -/
def uartWf (p : Nat) : Bool := decide (p < 64)
/-- Render engines 0 to 15. -/
def engineWf (e : Nat) : Bool := decide (e < 16)
/-- A 16-bit half of a wire field or of a register. -/
def halfWf (n : Nat) : Bool := decide (n < 2 ^ 16)
/-- A frame of bytes: none that a port hands on is longer than 65,536. -/
def frameWf (l : Bytes) : Bool := decide (l.length ≤ 2 ^ 16)

/-- The operands of a command are in range. -/
def Instr.wf : Instr → Bool
  | .registerWrite init o _ be => writeWf init o && decide (be < 16)
  | .unmappedAccess o _ => offsetWf o
  | .postedWriteComplete k => offsetWf k
  | .updateNow _ | .updateAtEpoch _ | .updateAtHeel _ | .updateReservedWhen _ => true
  | .groupApplyImmediate => true
  | .paritySweep u => u.all Upset.wf
  | .epochBoundary | .heelTimeReached => true
  | .timeMeasWrite _ => true
  | .ptpSyncRx p ph seq d _ t1 c => portWf p && decide (ph < 8) && halfWf seq && decide (d < 256) && t1.wf && correctionWf c
  | .ptpMessageRx p ph d m => portWf p && decide (ph < 8) && decide (d < 256) && m.wf
  | .ptpSyncTx p | .delayReqSend p => portWf p
  | .ppsCapture _ | .ppsMissing | .ref10mMeasure | .ref10mMissing | .holdoverTimeout => true
  | .timeRateWrite _ | .timeStepWrite _ | .timeSetWrite _ _ _ | .framePeriodWrite _ _ | .epochAdjWrite _ => true
  | .ltcFrameRx _ _ _ | .ltcLoss | .ltcOutFrame | .tsqPop | .tsqLostPop => true
  | .hoTargetPush n _ _ _ | .heelOutEdge n | .heelOutPulseEnd n => decide (n < 8)
  | .videoPacketRx rx h _ _ _ l => decide (rx < 8) && h.wf && l.all Srd.wf
  | .audioPacketRx rx h _ _ l => decide (rx < 8) && h.wf && frameWf l
  | .pathTimeout rx _ _ | .audioGap rx => decide (rx < 8)
  | .audioLagSecond => true
  | .rasterFetchDone l => halfWf l
  | .rasterPixelDue | .rasterHoldRelease => true
  | .previewHpd n _ | .previewHpdDrop n | .previewPixelDue n _ | .pvAuxCmd n _ => decide (n < 2)
  | .auxDone n _ l => decide (n < 2) && decide (l.length ≤ 16)
  | .graphCopyDone | .frameComplete | .frameDeadline => true
  | .grainReady n => halfWf n
  | .grainTake e | .grainComplete e | .engineWatchdog e | .engineRestart e => engineWf e
  | .localStoreError e _ => engineWf e
  | .paramDataWrite _ => true
  | .calibGainsDone | .calibCopy | .calibCopyDone | .calibCommit _ | .commitValidated | .calibCancel => true
  | .safeInWrite z _ => decide (z < 256)
  | .scCoeffWrite o _ => offsetWf o
  | .scApplyIfg l => decide (l < 32)
  | .planDiagClear | .planDiagClearDone => true
  | .ledStatusAge l => decide (l < 2 ^ 25)
  | .voconSinkRecord => true
  | .fragmentReady t _ j => decide (t < 32768) && halfWf j
  | .planFragmentSend p => decide (p < 32)
  | .resendWindowClose | .vcnKeyAgeLimit => true
  | .helloRx p l | .echoReportRx p l | .echoLossRx p l | .echoDetectRx p l | .diagPingRx p l | .diagTileRx p l => portWf p && frameWf l
  | .heelCopySend | .verifySinkRecord | .verifyClose => true
  | .fixtureSinkRecord | .sacnPacketSend | .sacnGuardExpiry | .sacnSyncSend | .streamTerminatedSend => true
  | .sacnInputRx p l | .sacnInputSyncRx p l => portWf p && frameWf l
  | .sacnSourceLoss i cid | .sacnSyncHoldExpiry i cid => decide (i < 4096) && decide (cid < 2 ^ 129)
  | .eptAge e => decide (e < 2 ^ 18)
  | .fixOvrDataWrite _ => true
  | .dmxPacketStart p | .dmxSourceLoss p | .rdmGo p | .rdmTimeout p => uartWf p
  | .dmxPacketRx p _ _ _ l => uartWf p && decide (l.length ≤ 513)
  | .rdmResponseRx p _ _ l => uartWf p && decide (l.length ≤ 257)
  | .uartCharRx p d x y z _ => uartWf p && decide (d.length ≤ 9) && (x :: y :: z :: d).all (fun l => decide (3 ≤ l.length))
  | .uartBreakEnd p _ => uartWf p
  | .uartBreakDetect p | .uartLineStuck p | .uartStuckRearm p | .uartRxTimeout p | .uartDataRead p | .uartDataWrite p _ => uartWf p
  | .uartLsrRead p | .uartTxEntryStart p | .uartTxDone p | .flushRx p | .flushTx p | .uartFalseStart p | .lineRiseHeldCharacter p => uartWf p
  | .sentenceComplete p | .hubTxqMove p => uartWf p
  | .ruleCopyDone => true
  | .sigmapPass n => decide (n ≤ 4096)
  | .macFrameRx p l _ => portWf p && frameWf l
  | .pauseRx p q _ => portWf p && halfWf q
  | .pfcRx p _ l _ => portWf p && decide (l.length = 8) && l.all halfWf
  | .pauseExpiry p | .leashLimit p | .leashHoldEnd p => portWf p
  | .fcXoffSend p _ | .fcRefresh p _ | .fcXonSend p _ => portWf p
  | .macTxFrame p _ _ | .deadlineDrop p | .preemptVerify p _ => portWf p
  | .macLinkChange p l => portWf p && (match l with
    | some x => decide (x.speed < 8) && decide (x.fec < 4) && decide (x.pauseAdv < 4)
    | none => true)
  | .wakeFrameRx p l => decide (32 ≤ p) && portWf p && frameWf l
  | .downshiftDown p | .downshiftUp p => portWf p
  | .macsecSaWrite p sc an _ => decide (32 ≤ p) && portWf p && decide (an < 4) && (match sc with
    | some x => decide (x < 8)
    | none => true)
  | .macStatRead p k => portWf p && decide (k < 64)
  | .cmdTailWrite r _ | .cplHeadWrite r _ | .ringEnable r | .ringDisable r | .ringDrained r => ringWf r
  | .descriptorFetch _ => true
  | .nop r | .paramWrite r | .dmaToDevice r | .dmaFromDevice r | .calibOp r | .updateOp r | .epochWait r | .txFrame r | .rxPost r => ringWf r
  | .dmaComplete r i _ => ringWf r && halfWf i
  | .pcieLinkLoss | .functionLevelReset => true
  | .pcieLinkUp g w b _ _ => decide (1 ≤ g) && decide (g ≤ 5) && decide (w ≤ 16) && decide (b < 2 ^ 64)
  | .bar4Access o _ n => decide (o < 2 ^ 34) && decide (n ≤ 4096)
  | .cfgrspRx p l => portWf p && frameWf l
  | .farWrite r | .farRead r => ringWf r
  | .farPieceTimeout t => halfWf t
  | .prefetchExpire w => decide (w < 128)
  | .farPoll => true
  | .farPollTimeout t => decide (t < 32768)
  | .intcOffer _ _ => true
  | .intcEntry c | .intcModRelease c | .intcCoreIdle c => decide (c < 4)
  | .intcEoi c _ => decide (c < 4)
  | .intcSrcWrite k _ => decide (k < 2048)
  | .intcPendWrite w _ => decide (w < 64)
  | .msixMessage v | .msixModExpiry v => decide (v < 256)
  | .braceStateSend | .braceSb3Edge | .braceSb2Fall | .partnerLost | .seekTimeout | .braceRelease => true
  | .braceStateRx l | .braceReleaseRx l | .braceHandoverRx l | .echoFwdRx l | .farReqRx l | .farRspRx l => frameWf l
  | .braceCmdRelease | .braceCmdHandover | .braceCmdRejoin => true
  | .braceOp r => ringWf r
  | .katRun _ => true
  | .confirmationTestDone l => l.all engineWf
  | .classDigestDone c => decide (c < 8)
  | .sheafSweep | .sheafArm | .sheafDisarm | .sheafRecompute => true
  | .sheafOpArm r | .sheafOpDisarm r | .sheafOpRecompute r => ringWf r
  | .keyLoad r _ | .keyUnwrap r _ => ringWf r
  | .keyErase r | .keyInfo r | .tamperClear r | .debugClose r => ringWf r
  | .tamperDetect k x => decide (k < 10) && (k == 6 || x == 0 || x == 1)
  | .secMaintWrite _ | .maintEnd | .trngHealthFail => true
  | .checkFeed8 _ n _ | .checkFeed16 _ n _ | .checkFeed32 _ n _ => decide (n < 8)
  | .checkInit _ n | .checkAppend _ n => decide (n < 8)
  | .checkFrameEnd n => decide (n < 8)
  | .updOpen p l | .updBlock p l | .updVerify p l | .updActivate p l | .updAbort p l | .updStatusReq p l | .updRecover p l => p.wf && frameWf l
  | .updVerifyDone => true
  | .imageWriteDone _ => true
  | .updOpVerify r | .updOpActivate r | .updOpConfirm r | .updOpReject r | .updOpAbort r => ringWf r
  | .pllUnlock u | .pllRelock u => u.wf
  | .sbyTrimMeasure e => decide (-(2 ^ 31) ≤ e) && decide (e < 2 ^ 31)
  | .coreWatchdogReset _ => true
  | .boot r => r.wf
  | .bootStageOverrun n => decide (n < 8)
  | .dramScrub _ | .sramScrub _ => true
  | .dramUeShow a => decide (a < 2 ^ 34)
  | .flashRefresh o _ _ => decide (o < 2 ^ 30)
  | .telemetrySample t v => decide (t.length ≤ 8) && decide (v.length ≤ 8) && v.all halfWf
      && t.all (fun x => decide (-32768 ≤ x) && decide (x ≤ 32767))
  | .selfCalMeasure l => l.all (fun x => offsetWf x.1)
  | .gpioSet _ _ | .gpioClr _ _ => true
  | .pinInterruptEdge i _ => decide (i < 64) || i == 66 || i == 67
  | .updSessionTimeout | .trialTimeout => true
  | .pwrCmdShow | .pwrCmdIdle | .pwrCmdStandby | .pwrCmdWarm => true
  | .standbyEntryDone | .wakePin | .rtcAlarm | .supply12vRise | .supply12vFail | .supply33vLoss | .supply33vRise | .pinReset => true

end Sys2Proof
end

