-- ==== Sys2Proof/Tests/Slice0.lean ====
section
/-! SUPPORT. Tests. Ill-formed commands are refused by the well-formedness checks; single commands and operations give what the spec's tables
and worked examples state; and every statement of Certificates/Slice0/Obligations.lean that has hypotheses has a state and operands
that meet them, at boundary values of their ranges. -/

open Sys2Proof Sys2Proof.Machine

namespace Sys2Proof.Tests

set_option linter.unusedVariables false
-- a kernel evaluation waits for the ones before it: elaborated one after another they need no threads that wait
set_option Elab.async false

/-- The machine after reset with these registers. -/
def st (l : List (Nat × Word)) : State := l.foldl (fun s x => s.setReg x.1 x.2) State.reset
/-- That machine with MAC n running and its link up. -/
def link (s : State) (n : Nat) : State := { s.setReg (R.MACn_CTRL n) 7 with mac := { s.mac with port := s.mac.port ++ [(n, { up := true })] } }
/-- The state after a command. -/
def after (c : Instr) (s : State) : State := match exec c s with
  | .next t => t
  | .fault _ | .refused _ => s
/-- ASCII text as bytes. -/
def ascii (t : String) : Bytes := t.toList.map (fun c => BitVec.ofNat 8 c.toNat)

/-! ## Well-formed commands -/

theorem test_wf_refuses_registers :
    ([.registerWrite .host 2 0 15, .registerWrite .host 0x4000000 0 15, .registerWrite .host 0xFF00000000 0 15,
      .registerWrite .core 0x400000000 0 15, .registerWrite .core 0xFF04000000 0 15, .registerWrite .host 0 0 16, .unmappedAccess 1 true,
      .unmappedAccess 0x4000000 true, .postedWriteComplete 3, .paritySweep [⟨.live, 2, 0⟩], .paritySweep [⟨.live, 0, 33⟩],
      .paritySweep [⟨.live, 0x4000000, 0⟩]] : List Instr).all (fun c => !c.wf) = true := by decide +kernel
theorem test_wf_refuses_time :
    ([.ptpSyncRx 37 0 0 0 true ⟨0, 0⟩ 0, .ptpSyncRx 0 8 0 0 true ⟨0, 0⟩ 0, .ptpSyncRx 0 0 65536 0 true ⟨0, 0⟩ 0,
      .ptpSyncRx 0 0 0 256 true ⟨0, 0⟩ 0, .ptpSyncRx 0 0 0 0 true ⟨2 ^ 48, 0⟩ 0, .ptpSyncRx 0 0 0 0 true ⟨0, 2 ^ 32⟩ 0,
      .ptpSyncRx 0 0 0 0 true ⟨0, 0⟩ (2 ^ 63), .ptpMessageRx 0 0 0 (.followUp 65536 ⟨0, 0⟩ 0), .ptpMessageRx 0 0 0 (.delayReq 0 (2 ^ 64) ⟨0, 0⟩),
      .ptpMessageRx 0 0 0 (.delayResp 0 ⟨2 ^ 48, 0⟩ 0), .ptpMessageRx 0 0 0 (.pdelayReq 65536 0 ⟨0, 0⟩),
      .ptpMessageRx 0 0 0 (.pdelayResp 0 ⟨0, 2 ^ 32⟩ 0 true), .ptpMessageRx 0 0 0 (.pdelayRespFollowUp 0 ⟨0, 0⟩ (-(2 ^ 63) - 1)),
      .ptpMessageRx 0 0 0 (.announce (some (2 ^ 31)) ⟨0, 0⟩), .ptpSyncTx 37, .delayReqSend 37, .hoTargetPush 8 0 0 0, .heelOutEdge 8,
      .heelOutPulseEnd 8] : List Instr).all (fun c => !c.wf) = true := by decide +kernel
theorem test_wf_refuses_media :
    ([.videoPacketRx 8 ⟨0, 0, 0, 0, 0⟩ 0 0 true [], .videoPacketRx 0 ⟨36, 0, 0, 0, 0⟩ 0 0 true [],
      .videoPacketRx 0 ⟨0, 0, 0, 65536, 0⟩ 0 0 true [], .videoPacketRx 0 ⟨0, 0, 0, 0, 128⟩ 0 0 true [],
      .videoPacketRx 0 ⟨0, 0, 0, 0, 0⟩ 0 0 true [⟨32768, 0, 0, []⟩], .videoPacketRx 0 ⟨0, 0, 0, 0, 0⟩ 0 0 true [⟨0, 32768, 0, []⟩],
      .videoPacketRx 0 ⟨0, 0, 0, 0, 0⟩ 0 0 true [⟨0, 0, 65536, []⟩], .audioPacketRx 8 ⟨0, 0, 0, 0, 0⟩ 0 0 [], .pathTimeout 8 true true,
      .audioGap 8, .rasterFetchDone 65536, .previewHpd 2 true, .previewHpdDrop 2, .previewPixelDue 2 true, .pvAuxCmd 2 0,
      .auxDone 2 .ack [], .auxDone 0 .ack (List.replicate 17 0), .grainReady 65536, .grainTake 16, .grainComplete 16, .engineWatchdog 16,
      .engineRestart 16, .localStoreError 16 true, .safeInWrite 256 0, .scCoeffWrite 1 0, .scApplyIfg 32,
      .ledStatusAge (2 ^ 25)] : List Instr).all (fun c => !c.wf) = true := by decide +kernel
theorem test_wf_refuses_show :
    ([.fragmentReady 32768 0 0, .fragmentReady 0 0 65536, .planFragmentSend 32, .helloRx 37 [], .echoReportRx 37 [], .echoLossRx 37 [],
      .echoDetectRx 37 [], .diagPingRx 37 [], .diagTileRx 37 [], .sacnInputRx 37 [], .sacnInputSyncRx 37 [], .sacnSourceLoss 4096 0,
      .sacnSourceLoss 0 (2 ^ 129), .sacnSyncHoldExpiry 4096 0, .eptAge (2 ^ 18), .dmxPacketStart 64, .dmxSourceLoss 64, .rdmGo 64,
      .rdmTimeout 64, .dmxPacketRx 64 0 0 true [], .dmxPacketRx 0 0 0 true (List.replicate 514 0), .rdmResponseRx 64 0 true [],
      .rdmResponseRx 0 0 true (List.replicate 258 0), .uartCharRx 64 [] [] [] [] 0, .uartCharRx 0 (List.replicate 10 [true]) [true] [true] [true] 0,
      .uartBreakEnd 64 0, .uartBreakDetect 64, .uartLineStuck 64, .uartStuckRearm 64, .uartRxTimeout 64, .uartDataRead 64,
      .uartDataWrite 64 0, .uartLsrRead 64, .uartTxEntryStart 64, .uartTxDone 64, .flushRx 64, .flushTx 64, .uartFalseStart 64,
      .lineRiseHeldCharacter 64, .sentenceComplete 64, .hubTxqMove 64, .sigmapPass 4097] : List Instr).all (fun c => !c.wf) = true := by
  decide +kernel
theorem test_wf_refuses_network :
    ([.macFrameRx 37 [] {}, .pauseRx 37 0 0, .pauseRx 0 65536 0, .pfcRx 37 0 (List.replicate 8 0) 0, .pfcRx 0 0 [] 0,
      .pfcRx 0 0 (List.replicate 8 65536) 0, .pauseExpiry 37, .leashLimit 37, .leashHoldEnd 37, .fcXoffSend 37 0, .fcRefresh 37 0,
      .fcXonSend 37 0, .macTxFrame 37 true none, .deadlineDrop 37, .preemptVerify 37 true, .macLinkChange 37 none,
      .macLinkChange 0 (some ⟨8, 0, true, true, 0⟩), .macLinkChange 0 (some ⟨0, 4, true, true, 0⟩),
      .macLinkChange 0 (some ⟨0, 0, true, true, 4⟩), .wakeFrameRx 31 [], .wakeFrameRx 37 [], .downshiftDown 37, .downshiftUp 37,
      .macsecSaWrite 31 none 0 0, .macsecSaWrite 32 none 4 0, .macsecSaWrite 32 (some 8) 0 0, .macStatRead 37 0,
      .macStatRead 0 64] : List Instr).all (fun c => !c.wf) = true := by decide +kernel
theorem test_wf_refuses_rings :
    ([.cmdTailWrite 64 0, .cplHeadWrite 64 0, .ringEnable 64, .ringDisable 64, .ringDrained 64, .nop 64, .paramWrite 64, .dmaToDevice 64,
      .dmaFromDevice 64, .calibOp 64, .updateOp 64, .epochWait 64, .txFrame 64, .rxPost 64, .dmaComplete 64 0 true,
      .dmaComplete 0 65536 true, .pcieLinkUp 0 16 0 true true, .pcieLinkUp 6 16 0 true true, .pcieLinkUp 1 17 0 true true,
      .pcieLinkUp 1 16 (2 ^ 64) true true, .bar4Access (2 ^ 34) none 0, .bar4Access 0 none 4097, .farWrite 64, .farRead 64, .braceOp 64,
      .sheafOpArm 64, .sheafOpDisarm 64, .sheafOpRecompute 64, .keyLoad 64 true, .keyUnwrap 64 true, .keyErase 64, .keyInfo 64,
      .tamperClear 64, .debugClose 64, .updOpVerify 64, .updOpActivate 64, .updOpConfirm 64, .updOpReject 64,
      .updOpAbort 64] : List Instr).all (fun c => !c.wf) = true := by decide +kernel
theorem test_wf_refuses_control :
    ([.cfgrspRx 37 [], .farPieceTimeout 65536, .prefetchExpire 128, .farPollTimeout 32768, .intcEntry 4, .intcModRelease 4, .intcCoreIdle 4,
      .intcEoi 4 0, .intcSrcWrite 2048 0, .intcPendWrite 64 0, .msixMessage 256, .msixModExpiry 256, .confirmationTestDone [16],
      .classDigestDone 8, .tamperDetect 10 1, .tamperDetect 5 2, .checkFeed8 .host 8 0, .checkFeed16 .host 8 0, .checkFeed32 .host 8 0, .checkInit .host 8,
      .checkAppend .host 8, .checkFrameEnd 8] : List Instr).all (fun c => !c.wf) = true := by decide +kernel
theorem test_wf_refuses_platform :
    ([.updOpen ⟨[], 0, 0⟩ [], .updBlock ⟨[1, 2, 3, 4, 5, 6], 2 ^ 32, 0⟩ [], .updVerify ⟨[1, 2, 3, 4, 5, 6], 0, 65536⟩ [],
      .updActivate ⟨[], 0, 0⟩ [], .updAbort ⟨[], 0, 0⟩ [], .updStatusReq ⟨[], 0, 0⟩ [], .updRecover ⟨[], 0, 0⟩ [], .pllUnlock (.lane 32),
      .pllRelock (.displayPort 2), .sbyTrimMeasure (2 ^ 31), .sbyTrimMeasure (-(2 ^ 31) - 1), .boot { ber := 2 ^ 32 },
      .boot { katFailed := [16] }, .boot { train := [(2, 0)] }, .boot { delays := [(0x4000000, 0)] }, .bootStageOverrun 8,
      .dramUeShow (2 ^ 34), .flashRefresh (2 ^ 30) 0 true, .telemetrySample (List.replicate 9 0) [], .telemetrySample [] (List.replicate 9 0),
      .telemetrySample [] [65536], .telemetrySample [32768] [], .telemetrySample [-32769] [], .selfCalMeasure [(1, 0)],
      .pinInterruptEdge 64 ⟨true, 0⟩] : List Instr).all (fun c => !c.wf) = true := by decide +kernel
/-- No frame that a port hands on is longer than 65,536 bytes. -/
theorem test_wf_refuses_long_frames : frameWf (List.replicate 65537 0) = false := by
  simp only [frameWf, List.length_replicate, decide_eq_false_iff_not]
  omega
/-- The last value of each range is taken. -/
theorem test_wf_accepts :
    ([.registerWrite .host 0x3FFFFFC 0 15, .registerWrite .core 0x3FFFFFFFC 0 15, .registerWrite .core 0xFF03FFFFFC 0 15,
      .ptpSyncRx 36 7 65535 255 true ⟨2 ^ 48 - 1, 2 ^ 32 - 1⟩ (2 ^ 63 - 1), .heelOutEdge 7,
      .videoPacketRx 7 ⟨35, 0, 0, 65535, 127⟩ 0 0 true [⟨32767, 32767, 65535, []⟩], .grainTake 15, .safeInWrite 255 0,
      .fragmentReady 32767 0 65535, .eptAge (2 ^ 18 - 1), .uartCharRx 63 (List.replicate 9 (List.replicate 3 true)) [true, true, true] [true, true,
      true] [true, true, true] 0, .pfcRx 36 0 (List.replicate 8 65535) 0,
      .macsecSaWrite 36 (some 7) 3 0, .dmaComplete 63 65535 true, .intcSrcWrite 2047 0, .tamperDetect 9 1, .checkFrameEnd 7,
      .updOpen ⟨[1, 2, 3, 4, 5, 6], 2 ^ 32 - 1, 65535⟩ [], .bootStageOverrun 7, .dramUeShow (2 ^ 34 - 1), .pinInterruptEdge 67 ⟨true, 0⟩,
      .pinReset] : List Instr).all Instr.wf = true := by decide +kernel

/-! ## The register bus (02) -/

/-- The table gives its rows no bits. -/
theorem test_no_word_decodes : decodeTableWord 32 0 = none ∧ decodeTableWord 0 0 = none := ⟨rfl, rfl⟩
/-- R46, worked example: 0x0018_15A4 is UART5, offset 0x0A4. -/
theorem test_alias_of_uart5 : resolve 0x1815A4 = resolve (0x181400 + 0xA4) := by decide +kernel
/-- R42: a write without all four byte enables changes nothing but WDROP. -/
theorem test_partial_write : (after (.registerWrite .host R.GPIO_OUT_LO 5 7) (st [])).reg R.GPIO_OUT_LO = 0 := by decide +kernel
/-- R47: a write to an RWB field goes to the shadow; the live value stays. -/
theorem test_rwb_write : let t := after (.registerWrite .host R.RASTER_PIXRATE 0x40000000 15) (st []);
    t.reg R.RASTER_PIXRATE = resetOf R.RASTER_PIXRATE ∧ t.sh R.RASTER_PIXRATE = 0x40000000 := by decide +kernel
/-- R41: a control core reaches the register space at 0xFF_0000_0000. -/
theorem test_core_address : (after (.registerWrite .core (0xFF00000000 + R.GPIO_OUT_LO) 5 15) (st [])).reg R.GPIO_OUT_LO = 5 := by decide +kernel
/-- R45: an access to an unmapped offset sets UNMAPPED and records its offset. -/
theorem test_unmapped : resolve 0x3FFFFF0 = .unmapped ∧ (after (.unmappedAccess 0x3FFFFF0 true) (st [])).reg R.GLOBAL_UNMAPPED_ADDR = 0x3FFFFF0 := by
  decide +kernel

/-! ## Time (00, 03) -/

/-- R10, worked example: at 12 s 880,000,000 ns a TS32 of 3,000,000 is 12 s 887,901,888 ns. -/
theorem test_ts32 : ts32Extend 12880000000 3000000 = 12887901888 := by decide +kernel
/-- R99: a push to a full queue is dropped. -/
theorem test_ho_queue_full : let s := (st []).setHo 0 { queue := [10, 20, 30, 40] };
    (after (.hoTargetPush 0 50 9 0) s).hoOf 0 = s.hoOf 0 := by decide +kernel

/-! ## Calibration (06): the worked example of a white flash -/

theorem test_power_target : State.powerGain { pmax := 2621440, w0 := 21845, w1 := 21845, w2 := 21845, down := 65536, up := 1024, pwrEn := true }
    314567557120 65536 = 35791 := by decide +kernel
theorem test_power_recovers : State.powerGain { pmax := 2621440, down := 65536, up := 1024, pwrEn := true } 0 35791 = 36815 := by decide +kernel

/-! ## Check units (20): the table of R505 -/

theorem test_crc32 : crc32 (ascii "123456789") = 0xCBF43926 := by decide +kernel
theorem test_crc32c : crc32c (ascii "123456789") = 0xE3069283 := by decide +kernel
/-- R512: one byte fed to a unit with ALG 5 is added. -/
theorem test_sum16_feed : (after (.checkFeed8 .core 7 0xFF) (st [(R.CHECKn_CTRL 7, 0x80000005), (R.CHECKn_VALUE 7, 0xFFFF)])).checkResult 7 = 0xFE := by
  decide +kernel
/-- R505: XOR8 over "123456789". -/
theorem test_xor8 : xorAll (ascii "123456789") = 0x31 := by decide +kernel

/-! ## Sentence hub and Signal Map (12): the worked example -/

theorem test_sentence_sum : sentenceOk (ascii "$WIMWV,270.0,R,18.4,M,A*18" ++ [13, 10]) = true
    ∧ sentenceSum (ascii "$WIMWV,270.0,R,18.4,M,A*18" ++ [13, 10]) = some true := by decide +kernel
theorem test_sentence_key : keyOf (ascii "$WIMWV,270.0,R,18.4,M,A*18" ++ [13, 10]) = ascii "WIMWV" := by decide +kernel
theorem test_wind_parses : parseField 0 (ascii "18.4") = some 1205862 := by decide +kernel
theorem test_wind_scales : State.mapScale { MapEntry.read (List.replicate 64 0) with a := -6144 * 65536, b := 139264 } 1205862 = 26214 := by decide +kernel

/-! ## Far bridge (15): the worked example -/

/-- A span 0x0004_01F0 to 0x0004_0447 is cut at 0x200, 0x300 and 0x400. -/
theorem test_far_pieces : ((State.cut 1 0x401F0 600 [] 8).map (fun p => (p.addr, p.bytes)))
    = [(0x401F0, 16), (0x40200, 256), (0x40300, 256), (0x40400, 72)] := by decide +kernel
theorem test_far_tag : State.farTag 5 0x1A2 = 0x0BA2 := by decide +kernel

/-! ## Power, pins and security -/

/-- R565: GPIO_SET sets its bits alone. -/
theorem test_gpio_set : (after (.gpioSet false 0x80000001) (st [(R.GPIO_OUT_LO, 0x10)])).reg R.GPIO_OUT_LO = 0x80000011 := by decide +kernel
/-- R539: SHOW is dropped while the device is not ready. -/
theorem test_show_dropped : (after .pwrCmdShow (st [])).power.request = none := by decide +kernel
/-- R531: a WARM reset shows its cause. -/
theorem test_warm_cause : (after .pwrCmdWarm (st [])).reg R.PWR_RST_CAUSE = 3 := by decide +kernel
/-- R541: WAKE_N wakes with its own cause. -/
theorem test_wake_pin : let t := after .wakePin { st [(R.SBY_CTRL, 2)] with power := { State.reset.power with state := .standby } };
    t.power.state = .up ∧ t.flag R.SBY_WAKE_CAUSE 1 = true := by decide +kernel
/-- R500: a failed health test clears the generator's flag and sets status 3. -/
theorem test_trng_fails : (after .trngHealthFail (st [(R.SEC_TRNG_STAT, 1)])).flag R.SEC_TRNG_STAT 0 = false := by decide +kernel
/-- R376: a PAUSE of quanta 0 ends nothing on a port whose flow control is off. -/
theorem test_pause_off : (after (.pauseRx 34 0xFFFF 0) (st [])).macOf 34 = (st []).macOf 34 := by decide +kernel
/-- The queue: the step takes the command at the front. -/
theorem test_step_front : step { st [] with pending := [.gpioSet false 1, .gpioSet false 2] }
    = exec (.gpioSet false 1) { st [] with pending := [.gpioSet false 2] } := rfl

/-! ## Hypotheses are met -/

namespace A

def s0 : State := State.reset
def stageHeld : State := { s0 with latch := [(R.UPD_STAGE_LO, 0x12345678)] }
def inShowS (l : List (Nat × Word)) : State := { st l with power := { s0.power with inShow := true } }
def secLocked (l : List (Nat × Word)) (c : Nat) (v : Word) : State := { st ((R.SEC_CTRL, 0x80000000) :: l) with posted := [(canon .sec 0 0x800, (c, v))] }
def pendS : State := { s0 with staged := [{ group := 15, when := .epoch, frc := 7, copy := [], bad := [] }, { group := 0, when := .heel 5, frc := 7, copy := [], bad := [] }] }
def stagedBad (g : Nat) (c : List (Nat × Word)) (b : List Nat) : State := { s0 with staged := [{ group := g, when := .now, frc := 7, copy := c, bad := b }, { group := 1, when := .epoch, frc := 7, copy := [], bad := [] }] }
def stagedNow : State := { s0 with staged := [{ group := 7, when := .now, frc := 7, copy := [(R.HEEL_LEAD, 0xFFFF)], bad := [] }, { group := 1, when := .epoch, frc := 7, copy := [], bad := [] }] }
def stagedHeel : State := { s0 with staged := [{ group := 7, when := .heel 0, frc := 7, copy := [(R.HEEL_GAP, 1)], bad := [] }], heel := { s0.heel with eps := [{ epoch := 1, t := 65536000 }] } }
def postedHub : State := { s0 with posted := [(canon .hub 0 0, (canon .hub 0 0x38, 4095))] }
def mainDown : State := { s0 with power := { s0.power with state := .standby } }
def recoverS : State := { s0 with upd := { s0.upd with recovery := true, run := none } }
def coreRing : State := st [(R.HOST_RINGr_CTRL 0, 0x100011)]
def bankRing : State := { st [(R.HOST_RINGr_CTRL 0, 0x100011), (R.CALIB_CTRL, 1)] with calib := { s0.calib with valid := true } }

theorem witness_RegisterWrites :
    (∃ (s : Machine.State) (init : Initiator) (a : Nat) (o : Nat) (b : Block) (i : Nat) (l : Nat) (r : RegRow) (m : Nat) (v : Word), s.mainOn = true ∧
      toRegister init a o ∧ resolve o = Loc.at b i l ∧ rowAt b i l = some r ∧ r.fields = [(Acc.rw, m)] ∧ r.out = 0 ∧ byRow b l = true ∧
      busyKey (Machine.canon b i l) = none ∧ State.scClass (Machine.canon b i l) = none ∧ Machine.canon b i l ≠ R.INTC_REROUTE_CNT ∧
      isWideLow b l = false ∧ wideLow b l = none) ∧
    (∃ (s : Machine.State) (init : Initiator) (a : Nat) (o : Nat) (b : Block) (i : Nat) (l : Nat) (r : RegRow) (v : Word), s.mainOn = true ∧
      s.inShow = false ∧ toRegister init a o ∧ resolve o = Loc.at b i l ∧ rowAt b i l = some r ∧ byRow b l = true ∧
      busyKey (Machine.canon b i l) = none ∧ isWideLow b l = true) ∧
    (∃ (s : Machine.State) (init : Initiator) (a : Nat) (o : Nat) (b : Block) (i : Nat) (l : Nat) (k : Nat) (r : RegRow) (q : RegRow) (m : Nat) (n : Nat) (v : Word),
      s.mainOn = true ∧
      s.inShow = false ∧ toRegister init a o ∧ resolve o = Loc.at b i l ∧ rowAt b i l = some r ∧ r.fields = [(Acc.rw, m)] ∧
      isWideLow b l = false ∧ wideLow b l = some k ∧ rowAt b i k = some q ∧ q.fields = [(Acc.rw, n)] ∧ byRow b l = true ∧ byRow b k = true ∧
      busyKey (Machine.canon b i l) = none ∧ State.scClass (Machine.canon b i l) = none ∧ State.scClass (Machine.canon b i k) = none ∧
      Machine.canon b i l ≠ Machine.canon b i k) ∧
    (∃ (s : Machine.State) (init : Initiator) (a : Nat) (o : Nat) (b : Block) (i : Nat) (l : Nat) (r : RegRow) (m : Nat) (v : Word), s.mainOn = true ∧
      s.inShow = false ∧ toRegister init a o ∧ resolve o = Loc.at b i l ∧ rowAt b i l = some r ∧ r.fields = [(Acc.rwb, m)] ∧
      BitVec.ofNat 32 m ≠ 0 ∧ byRow b l = true ∧ busyKey (Machine.canon b i l) = none ∧ State.scClass (Machine.canon b i l) = none ∧
      isWideLow b l = false ∧ wideLow b l = none) ∧
    (∃ (s : Machine.State) (init : Initiator) (a : Nat) (o : Nat) (b : Block) (i : Nat) (l : Nat) (r : RegRow) (m : Nat) (v : Word), s.mainOn = true ∧
      s.inShow = true ∧ toRegister init a o ∧ resolve o = Loc.at b i l ∧ rowAt b i l = some r ∧ r.fields = [(Acc.rwb, m)] ∧
      BitVec.ofNat 32 m ≠ 0 ∧ byRow b l = true ∧ busyKey (Machine.canon b i l) = none ∧ State.scClass (Machine.canon b i l) = none ∧
      isWideLow b l = false ∧ wideLow b l = none ∧ r.out ≠ 4294967295 ∧ BitVec.ofNat 32 r.out &&& ~~~BitVec.ofNat 32 m = 0) ∧
    (∃ (s : Machine.State) (init : Initiator) (a : Nat) (o : Nat) (b : Block) (i : Nat) (l : Nat) (r : RegRow) (m : Nat) (v : Word), s.mainOn = true ∧
      s.inShow = true ∧ toRegister init a o ∧ resolve o = Loc.at b i l ∧ rowAt b i l = some r ∧ r.fields = [(Acc.rwb, m)] ∧
      BitVec.ofNat 32 m ≠ 0 ∧ byRow b l = true ∧ busyKey (Machine.canon b i l) = none ∧ State.scClass (Machine.canon b i l) = none ∧
      isWideLow b l = false ∧ wideLow b l = none ∧ r.out ≠ 4294967295 ∧ BitVec.ofNat 32 r.out &&& ~~~BitVec.ofNat 32 m = 0) ∧
    (∃ (s : Machine.State) (init : Initiator) (a : Nat) (o : Nat) (b : Block) (i : Nat) (l : Nat) (r : RegRow) (v : Word), s.mainOn = true ∧
      toRegister init a o ∧ resolve o = Loc.at b i l ∧ rowAt b i l = some r ∧ byRow b l = true ∧ busyKey (Machine.canon b i l) = none ∧
      State.scClass (Machine.canon b i l) = none ∧ Machine.canon b i l ≠ R.INTC_REROUTE_CNT ∧ isWideLow b l = false ∧ wideLow b l = none ∧
      r.mask Acc.wo1 = 0 ∧ (s.inShow = true → r.out ≠ 4294967295) ∧ (Machine.canon b i l ≠ (b.status i).fst ∨ r.out = 0 ∧
      r.mask Acc.rwl = 0)) ∧
    (∃ (s : Machine.State) (init : Initiator) (a : Nat) (o : Nat) (b : Block) (i : Nat) (l : Nat) (r : RegRow) (v : Word), s.mainOn = true ∧
      toRegister init a o ∧ resolve o = Loc.at b i l ∧ rowAt b i l = some r ∧ byRow b l = true ∧ busyKey (Machine.canon b i l) = none ∧
      State.scClass (Machine.canon b i l) = none ∧ Machine.canon b i l ≠ R.INTC_REROUTE_CNT ∧ isWideLow b l = false ∧ wideLow b l = none ∧
      r.mask Acc.wo1 = 0 ∧ (s.inShow = true → r.out ≠ 4294967295) ∧ (Machine.canon b i l ≠ (b.status i).fst ∨ r.out = 0 ∧
      r.mask Acc.rwl = 0)) ∧
    (∃ (s : Machine.State) (init : Initiator) (a : Nat) (o : Nat) (b : Block) (i : Nat) (l : Nat) (r : RegRow) (v : Word), s.mainOn = true ∧
      toRegister init a o ∧ resolve o = Loc.at b i l ∧ rowAt b i l = some r ∧ byRow b l = true ∧ busyKey (Machine.canon b i l) = none ∧
      State.scClass (Machine.canon b i l) = none ∧ Machine.canon b i l ≠ R.INTC_REROUTE_CNT ∧ isWideLow b l = false ∧ wideLow b l = none ∧
      r.mask Acc.wo1 = 0 ∧ (s.inShow = true → r.out ≠ 4294967295) ∧ (Machine.canon b i l ≠ (b.status i).fst ∨ r.out = 0 ∧
      r.mask Acc.rwl = 0)) ∧
    (∃ (s : Machine.State) (init : Initiator) (a : Nat) (o : Nat) (b : Block) (i : Nat) (l : Nat) (r : RegRow) (v : Word), s.mainOn = true ∧
      toRegister init a o ∧ resolve o = Loc.at b i l ∧ rowAt b i l = some r ∧ byRow b l = true ∧ busyKey (Machine.canon b i l) = none ∧
      State.scClass (Machine.canon b i l) = none ∧ Machine.canon b i l ≠ R.INTC_REROUTE_CNT ∧ isWideLow b l = false ∧ wideLow b l = none ∧
      r.mask Acc.wo1 = 0 ∧ (s.inShow = true → r.out ≠ 4294967295) ∧ (Machine.canon b i l ≠ (b.status i).fst ∨ r.out = 0 ∧
      r.mask Acc.rwl = 0)) ∧
    (∃ (s : Machine.State) (init : Initiator) (a : Nat) (o : Nat) (b : Block) (i : Nat) (l : Nat) (r : RegRow) (v : Word), s.mainOn = true ∧
      s.inShow = true ∧ toRegister init a o ∧ resolve o = Loc.at b i l ∧ rowAt b i l = some r ∧ byRow b l = true ∧
      busyKey (Machine.canon b i l) = none ∧ State.scClass (Machine.canon b i l) = none ∧ wideLow b l = none ∧ r.out = 4294967295) ∧
    (∃ (s : Machine.State) (init : Initiator) (a : Nat) (o : Nat) (b : Block) (i : Nat) (l : Nat) (r : RegRow) (v : Word), s.mainOn = true ∧
      s.inShow = true ∧ toRegister init a o ∧ resolve o = Loc.at b i l ∧ rowAt b i l = some r ∧ byRow b l = true ∧
      busyKey (Machine.canon b i l) = none ∧ State.scClass (Machine.canon b i l) = none ∧ wideLow b l = none ∧ r.out = 4294967295) ∧
    (∃ (s : Machine.State) (init : Initiator) (a : Nat) (c : Nat) (b : Block) (v : Word), s.mainOn = true ∧
      (b, c) ∈ [(Block.global, R.GLOBAL_CTRL), (Block.sec, R.SEC_CTRL)] ∧ toRegister init a c ∧ s.wo1Used.contains c = false ∧
      bit v 31 = true ∧ s.flag c 31 = false) ∧
    (∃ (s : Machine.State) (init : Initiator) (a : Nat) (c : Nat) (b : Block) (v : Word), s.mainOn = true ∧
      (b, c) ∈ [(Block.global, R.GLOBAL_CTRL), (Block.sec, R.SEC_CTRL)] ∧ toRegister init a c ∧ s.wo1Used.contains c = false ∧
      bit v 31 = true ∧ s.flag c 31 = false) ∧
    (∃ (s : Machine.State) (init : Initiator) (a : Nat) (c : Nat) (b : Block) (v : Word), s.mainOn = true ∧
      (b, c) ∈ [(Block.global, R.GLOBAL_CTRL), (Block.sec, R.SEC_CTRL)] ∧ toRegister init a c ∧ s.wo1Used.contains c = true ∧
      bit v 31 ≠ s.flag c 31) ∧
    (∃ (s : Machine.State) (init : Initiator) (a : Nat) (c : Nat) (b : Block) (v : Word), s.mainOn = true ∧
      (b, c) ∈ [(Block.global, R.GLOBAL_CTRL), (Block.sec, R.SEC_CTRL)] ∧ toRegister init a c ∧ s.wo1Used.contains c = true ∧
      bit v 31 ≠ s.flag c 31) ∧
    (∃ (s : Machine.State) (c : Nat) (k : Nat) (v : Word), s.mainOn = true ∧ c ∈ [R.SEC_TAMPER_CTRL, R.SEC_TAMPER_POL, R.SEC_TEMP_LIMITS] ∧
      (c ≠ R.SEC_TAMPER_CTRL → ∀ (j : Nat), j < 8 → s.tamperAction j = 0) ∧ s.posted = [(k, c, v)] ∧ s.locked Block.sec = true) ∧
    (∃ (s : Machine.State) (c : Nat) (k : Nat) (v : Word), s.mainOn = true ∧ c ∈ [R.SEC_TAMPER_CTRL, R.SEC_TAMPER_POL, R.SEC_TEMP_LIMITS] ∧
      (c ≠ R.SEC_TAMPER_CTRL → ∀ (j : Nat), j < 8 → s.tamperAction j = 0) ∧ s.posted = [(k, c, v)] ∧ s.locked Block.sec = true) :=
  ⟨⟨s0, .core, 0xFF00000000 + R.CLOCK_UNLOCK_CNT, R.CLOCK_UNLOCK_CNT, .clock, 0, 0x14, { off := 0x14, reset := 0x0, fields := [(.rw, 0xFFFFFFFF)] }, 0xFFFFFFFF, 0xFFFFFFFF, by and_intros <;> decide +kernel⟩,
    ⟨s0, .host, R.UPD_STAGE_LO, R.UPD_STAGE_LO, .upd, 0, 0x14, { off := 0x14, reset := 0x0, out := 0xFFFFFFFF, fields := [(.rw, 0xFFFF0000)] }, 0xFFFFFFFF, by decide +kernel⟩,
    ⟨stageHeld, .host, R.UPD_STAGE_HI, R.UPD_STAGE_HI, .upd, 0, 0x18, 0x14, { off := 0x18, reset := 0x0, out := 0xFFFFFFFF, fields := [(.rw, 0x3)] }, { off := 0x14, reset := 0x0, out := 0xFFFFFFFF, fields := [(.rw, 0xFFFF0000)] }, 0x3, 0xFFFF0000, 0xFFFFFFFF, by and_intros <;> decide +kernel⟩,
    ⟨s0, .host, R.HEEL_LATCH_OFFSET, R.HEEL_LATCH_OFFSET, .heel, 0, 8, { off := 0x8, reset := 0x0, cfg := true, fields := [(.rwb, 0x1FFFFFF)] }, 0x1FFFFFF, 0xFFFFFFFF, by and_intros <;> decide +kernel⟩,
    ⟨inShowS [], .host, R.VCN_CTRL, R.VCN_CTRL, .vocon, 0, 0, { off := 0x0, reset := 0x20, cfg := true, out := 0x2, fields := [(.rwb, 0x3F)] }, 0x3F, 0xFFFFFFFF, by and_intros <;> decide +kernel⟩,
    ⟨inShowS [], .core, 0xFF00148000, R.MACn_CTRL 36, .mac, 36, 0, { off := 0x0, reset := 0x426, cfg := true, out := 0x770, fields := [(.rwb, 0x177F)] }, 0x177F, 0xFFFFFFFF, by and_intros <;> decide +kernel⟩,
    ⟨st [(R.CLOCK_STATUS, 0x7F)], .host, R.CLOCK_STATUS, R.CLOCK_STATUS, .clock, 0, 4, { off := 0x4, reset := 0x0, fields := [(.w1c, 0x7F)] }, 0x55, by and_intros <;> decide +kernel⟩,
    ⟨st [(R.GLOBAL_CTRL, 0x80000000)], .host, R.GLOBAL_PARITY_CTRL, R.GLOBAL_PARITY_CTRL, .global, 0, 0x20, { off := 0x20, reset := 0x5, cfg := true, fields := [(.rwl, 0xF)] }, 0xA, by and_intros <;> decide +kernel⟩,
    ⟨s0, .host, R.GLOBAL_PARITY_CTRL, R.GLOBAL_PARITY_CTRL, .global, 0, 0x20, { off := 0x20, reset := 0x5, cfg := true, fields := [(.rwl, 0xF)] }, 0xFFFFFFFA, by and_intros <;> decide +kernel⟩,
    ⟨inShowS [], .host, R.CANVAS_CTRL, R.CANVAS_CTRL, .ingest, 0, 0x8000, { off := 0x8000, reset := 0x133, cfg := true, out := 0xF3, fields := [(.rwb, 0xFF3)] }, 0xF30, by and_intros <;> decide +kernel⟩,
    ⟨inShowS [], .host, R.UPD_STAGE_LO, R.UPD_STAGE_LO, .upd, 0, 0x14, { off := 0x14, reset := 0x0, out := 0xFFFFFFFF, fields := [(.rw, 0xFFFF0000)] }, 0xFFFFFFFF, by and_intros <;> decide +kernel⟩,
    ⟨inShowS [], .host, R.FIX_OUT_COUNT, R.FIX_OUT_COUNT, .fixture, 0, 0x18, { off := 0x18, reset := 0x0, cfg := true, out := 0xFFFFFFFF, fields := [(.rwb, 0x1FFFF)] }, 0, by and_intros <;> decide +kernel⟩,
    ⟨s0, .host, R.GLOBAL_CTRL, R.GLOBAL_CTRL, .global, 0xFFFFFFFF, by decide +kernel⟩,
    ⟨s0, .core, 0xFF00200000, R.SEC_CTRL, .sec, 0x80000006, by decide +kernel⟩,
    ⟨{ s0 with wo1Used := [R.GLOBAL_CTRL] }, .host, R.GLOBAL_CTRL, R.GLOBAL_CTRL, .global, 0x80000000, by decide +kernel⟩,
    ⟨{ st [(R.SEC_CTRL, 0x80000000)] with wo1Used := [R.SEC_CTRL] }, .host, R.SEC_CTRL, R.SEC_CTRL, .sec, 0, by decide +kernel⟩,
    ⟨secLocked [] R.SEC_TAMPER_CTRL 0, R.SEC_TAMPER_CTRL, canon .sec 0 0x800, 0, by decide +kernel⟩,
    ⟨secLocked [(R.SEC_TAMPER_CTRL, 0)] R.SEC_TEMP_LIMITS 0xFFFF, R.SEC_TEMP_LIMITS, canon .sec 0 0x800, 0xFFFF, by decide +kernel⟩⟩

theorem witness_UpdateStrobes :
    (∃ (s : Machine.State) (g : BitVec 16), s.mainOn = true ∧ s.host.ring = [] ∧ g ≠ 0) ∧
    (∃ (s : Machine.State) (g : BitVec 16), s.mainOn = true ∧ s.host.ring = [] ∧ g ≠ 0) ∧
    (∃ (s : Machine.State) (g : BitVec 16), s.mainOn = true ∧ s.host.ring = [] ∧ g ≠ 0) ∧
    (∃ (s : Machine.State) (g : BitVec 16), s.mainOn = true ∧ g ≠ 0) ∧
    (∃ (s : Machine.State) (c : Instr), s.mainOn = true ∧
      c ∈ [Instr.updateNow 0, Instr.updateAtEpoch 0, Instr.updateAtHeel 0, Instr.updateReservedWhen 0]) ∧
    (∃ (s : Machine.State) (c : Instr), s.mainOn = true ∧
      c ∈ [Instr.updateNow 0, Instr.updateAtEpoch 0, Instr.updateAtHeel 0, Instr.updateReservedWhen 0]) ∧
    (∃ (s : Machine.State) (g : BitVec 16) (k : Nat), k < 16 ∧ s.mainOn = true ∧ (List.map Staged.group s.staged).Nodup) ∧
    (∃ (s : Machine.State) (g : BitVec 16) (k : Nat), k < 16 ∧ s.mainOn = true ∧ (List.map Staged.group s.staged).Nodup) ∧
    (∃ (s : Machine.State) (g : Nat) (c : List (Nat × Word)) (bad : List Nat) (f : Nat), s.mainOn = true ∧ g < 16 ∧
      (List.filter (fun x => x.when == When.now) s.staged = [{ group := g, when := When.now, frc := f, copy := c, bad := bad }]) ∧
      (bad ≠ [] ∨ (s.groupBad g c).fst = true)) ∧
    (∃ (s : Machine.State) (g : Nat) (c : List (Nat × Word)) (bad : List Nat) (f : Nat), s.mainOn = true ∧ g < 16 ∧
      (List.filter (fun x => x.when == When.now) s.staged = [{ group := g, when := When.now, frc := f, copy := c, bad := bad }]) ∧
      (bad ≠ [] ∨ (s.groupBad g c).fst = true)) ∧
    (∃ (s : Machine.State) (c : List (Nat × Word)) (f : Nat), s.mainOn = true ∧ s.host.ring = [] ∧ s.mac.port = [] ∧
      (List.filter (fun x => x.when == When.now) s.staged = [{ group := 7, when := When.now, frc := f, copy := c, bad := [] }])) ∧
    (∃ (s : Machine.State) (c : List (Nat × Word)) (at_ : Int) (T : Int) (f : Nat), s.mainOn = true ∧ s.host.ring = [] ∧ s.mac.port = [] ∧
      s.staged = [{ group := 7, when := When.heel at_, frc := f, copy := c, bad := [] }] ∧
      s.heelDue { group := 7, when := When.heel at_, frc := f, copy := c, bad := [] } = some T ∧ s.coincides T = false) :=
  ⟨⟨s0, 0xFFFF, by decide +kernel⟩,
    ⟨s0, 0x8001, by decide +kernel⟩,
    ⟨s0, 0x8000, by decide +kernel⟩,
    ⟨s0, 1, by decide +kernel⟩,
    ⟨s0, .updateNow 0, by decide +kernel⟩,
    ⟨s0, .updateReservedWhen 0, by decide +kernel⟩,
    ⟨pendS, 0x8001, 15, by decide +kernel⟩,
    ⟨pendS, 0x8001, 0, by decide +kernel⟩,
    ⟨stagedBad 15 [] [R.DRAM_CTRL], 15, [], [R.DRAM_CTRL], 7, by decide +kernel⟩,
    ⟨stagedBad 6 [(R.VCN_CTRL, 4), (R.VCN_AUTH_SLOT, 63)] [], 6, [(R.VCN_CTRL, 4), (R.VCN_AUTH_SLOT, 63)], [], 7, by decide +kernel⟩,
    ⟨stagedNow, [(R.HEEL_LEAD, 0xFFFF)], 7, by decide +kernel⟩,
    ⟨stagedHeel, [(R.HEEL_GAP, 1)], 0, 65536000, 7, by decide +kernel⟩⟩

theorem witness_GroupApplications :
    (∃ (s : Machine.State) (g : Nat) (c : List (Nat × Word)) (f : Nat), s.mainOn = true ∧ g < 16 ∧
      (List.filter (fun x => x.when == When.now) s.staged = [{ group := g, when := When.now, frc := f, copy := c, bad := [] }]) ∧
      (s.groupBad g c).fst = false) ∧
    (∃ (s : Machine.State) (g : Nat) (c : List (Nat × Word)) (f : Nat), s.mainOn = true ∧ g < 16 ∧
      (List.filter (fun x => x.when == When.now) s.staged = [{ group := g, when := When.now, frc := f, copy := c, bad := [] }]) ∧
      (s.groupBad g c).fst = false) :=
  ⟨⟨stagedBad 0 [(R.TIME_CTRL, 9)] [], 0, [(R.TIME_CTRL, 9)], 7, by decide +kernel⟩,
    ⟨stagedBad 13 [(R.WIN_CTRL, 0)] [], 13, [(R.WIN_CTRL, 0)], 7, by decide +kernel⟩⟩

theorem witness_BusAccesses :
    (∃ (s : Machine.State) (init : Initiator) (a : Nat) (o : Nat) (b : Block) (i : Nat) (l : Nat) (v : Word) (be : Nat), s.mainOn = true ∧
      toRegister init a o ∧ resolve o = Loc.at b i l ∧ be ≠ 15) ∧
    (∃ (s : Machine.State) (init : Initiator) (a : Nat) (o : Nat) (b : Block) (i : Nat) (l : Nat) (v : Word) (be : Nat), s.mainOn = true ∧
      toRegister init a o ∧ resolve o = Loc.at b i l ∧ be ≠ 15) ∧
    (∃ (s : Machine.State) (a : Nat) (be : Nat) (v : Word), s.mainOn = true ∧ a + 4 ≤ State.dramSize ∧
      (∀ (i : Nat), i < 4 → s.protectedAt (a + i) = false)) ∧
    (∃ (s : Machine.State) (a : Nat) (be : Nat) (v : Word), s.mainOn = true ∧ a + 4 ≤ State.dramSize ∧
      (∀ (i : Nat), i < 4 → s.protectedAt (a + i) = false)) ∧
    (∃ (s : Machine.State) (init : Initiator) (a : Nat) (b : Nat) (x : Nat) (y : Nat) (be : Nat) (v : Word), toRegister init a x ∧
      toRegister init b y ∧ resolve x = resolve y ∧ resolve x ≠ Loc.unmapped) ∧
    (∃ (s : Machine.State) (a : Nat) (b : Nat), resolve a = resolve b ∧ resolve a ≠ Loc.unmapped) ∧
    (∃ (k : Nat) (l : Nat), k < 16 ∧ l < 256) ∧
    (∃ (k : Nat) (l : Nat), k < 16 ∧ l < 4096) ∧
    (∃ (n : Nat) (l : Nat), n < 37 ∧ l < 4096) ∧
    (∃ (a : Nat), a < 67108864 ∧ (2424832 ≤ a ∨ 851968 ≤ a ∧ a < 1048576 ∨ 1351680 ≤ a ∧ a < 1572864 ∨ 1638400 ≤ a ∧
      a < 1703936 ∨ 2033664 ≤ a ∧ a < 2097152)) ∧
    (∃ (s : Machine.State) (a : Nat) (w : Bool), s.mainOn = true ∧ resolve a = Loc.unmapped) ∧
    (∃ (s : Machine.State) (a : Nat) (w : Bool), s.mainOn = true ∧ resolve a = Loc.unmapped) ∧
    (∃ (s : Machine.State) (init : Initiator) (a : Nat) (o : Nat) (be : Nat) (v : Word), toRegister init a o ∧ resolve o = Loc.unmapped) ∧
    (∃ (s : Machine.State) (init : Initiator) (a : Nat) (o : Nat) (b : Block) (v : Word), s.mainOn = true ∧ toRegister init a o ∧
      resolve o = Loc.reads0 b) ∧
    (∃ (s : Machine.State) (init : Initiator) (a : Nat) (o : Nat) (be : Nat) (b : Block) (v : Word), s.mainOn = true ∧ toRegister init a o ∧
      resolve o = Loc.reads0 b ∧ be ≠ 15) ∧
    (∃ (s : Machine.State) (init : Initiator) (a : Nat) (o : Nat) (l : Nat) (k : Nat) (v : Word) (r : RegRow), s.mainOn = true ∧
      toRegister init a o ∧ resolve o = Loc.at Block.hub 0 l ∧ rowAt Block.hub 0 l = some r ∧ busyKey (Machine.canon Block.hub 0 l) = some k ∧
      List.lookup k s.posted = none) ∧
    (∃ (b : Block) (x : Nat) (y : Nat) (i : Nat) (l : Nat), b ∈ [Block.sec, Block.intc, Block.host] ∧ resolve x = Loc.at b i l ∧
      resolve y = Loc.at b i l) ∧
    (∃ (s : Machine.State) (init : Initiator) (a : Nat) (o : Nat) (l : Nat) (k : Nat) (v : Word) (w : Nat × Word), s.mainOn = true ∧
      toRegister init a o ∧ resolve o = Loc.at Block.hub 0 l ∧ busyKey (Machine.canon Block.hub 0 l) = some k ∧
      List.lookup k s.posted = some w) ∧
    (∃ (s : Machine.State) (k : Nat) (i : Nat) (l : Nat) (v : Word) (r : RegRow) (m : Nat), s.mainOn = true ∧
      s.posted = [(k, Machine.canon Block.hub i l, v)] ∧ resolve (Machine.canon Block.hub i l) = Loc.at Block.hub i l ∧
      rowAt Block.hub i l = some r ∧ r.fields = [(Acc.rw, m)] ∧ r.out = 0 ∧ State.scClass (Machine.canon Block.hub i l) = none ∧
      isWideLow Block.hub l = false ∧ wideLow Block.hub l = none) ∧
    (∃ (s : Machine.State) (a : Nat) (n : Nat), s.mainOn = true ∧ s.badLive = [] ∧ s.badShadow = [] ∧ canonOf a = a ∧ isCfg a = true ∧
      n < 32 ∧ ¬(65536 ≤ a ∧ a < 73728) ∧ s.flag R.GLOBAL_STATUS 0 = false) :=
  ⟨⟨s0, .host, R.CLOCK_CTRL, R.CLOCK_CTRL, .clock, 0, 0, 1, 14, by decide +kernel⟩,
    ⟨s0, .host, R.UARTn_DATA 15, R.UARTn_DATA 15, .uart, 15, 0x14, 1, 7, by decide +kernel⟩,
    ⟨s0, 0x3FFFFFFFC, 5, 0x01020304, by decide +kernel⟩,
    ⟨s0, 0, 15, 0x01020304, by decide +kernel⟩,
    ⟨s0, .core, 0xFF00000100, 0xFF00000000, 0x100, 0, 15, 5, by decide +kernel⟩,
    ⟨s0, 0x100, 0, by decide +kernel⟩,
    ⟨15, 0xFF, by decide +kernel⟩,
    ⟨15, 0xFFF, by decide +kernel⟩,
    ⟨36, 0xFFF, by decide +kernel⟩,
    ⟨0x3FFFFFC, by decide +kernel⟩,
    ⟨s0, 0x14A000, true, by decide +kernel⟩,
    ⟨st [(R.GLOBAL_STATUS, 2)], 0xD0000, false, by decide +kernel⟩,
    ⟨s0, .core, 0xFF024FFFF0, 0x24FFFF0, 7, 5, by decide +kernel⟩,
    ⟨s0, .core, 0xFF00014000, 0x14000, .intc, 5, by decide +kernel⟩,
    ⟨s0, .host, 0x14000, 0x14000, 7, .intc, 5, by decide +kernel⟩,
    ⟨s0, .host, canon .hub 0 0x38, canon .hub 0 0x38, 0x38, canon .hub 0 0, 4095, { off := 0x38, reset := 0x0, fields := [(.rw, 0xFFF)] }, by decide +kernel⟩,
    ⟨.intc, 0x13FFC, 0x13FFF, 0, 0x3FFC, by decide +kernel⟩,
    ⟨postedHub, .host, canon .hub 0 0xFFC, canon .hub 0 0xFFC, 0xFFC, canon .hub 0 0, 1, (canon .hub 0 0x38, 4095), by decide +kernel⟩,
    ⟨postedHub, canon .hub 0 0, 0, 0x38, 4095, { off := 0x38, reset := 0x0, fields := [(.rw, 0xFFF)] }, 0xFFF, by and_intros <;> decide +kernel⟩,
    ⟨s0, R.HEEL_CTRL, 31, by decide +kernel⟩⟩

theorem witness_EpochBoundaries :
    (∃ (s : Machine.State), quietState s ∧ s.power.request = none ∧ s.staged = [] ∧ s.time.heldPair = none) ∧
    (∃ (s : Machine.State) (b : Bool), quietState s ∧ s.power.request = some b ∧ s.staged = [] ∧ s.time.heldPair = none) ∧
    (∃ (s : Machine.State) (b : Bool), quietState s ∧ s.power.request = some b ∧ s.staged = [] ∧ s.time.heldPair = none) ∧
    (∃ (s : Machine.State) (c : List (Nat × Word)) (f : Nat), quietState s ∧ s.power.request = none ∧
      s.staged = [{ group := 7, when := When.epoch, frc := f, copy := c, bad := [] }] ∧ s.time.heldPair = none ∧
      f < s.frcAt s.nextInstant) ∧
    (∃ (s : Machine.State) (c : List (Nat × Word)) (f : Nat), quietState s ∧ s.power.request = none ∧
      s.staged = [{ group := 7, when := When.epoch, frc := f, copy := c, bad := [] }] ∧ s.time.heldPair = none ∧
      s.frcAt s.nextInstant ≤ f) ∧
    (∃ (s : Machine.State) (num : Nat) (den : Nat), quietState s ∧ s.power.request = none ∧ s.staged = [] ∧
      s.time.heldPair = some (num, den) ∧ 0 < num ∧ 0 < s.time.den) :=
  ⟨⟨s0, by decide +kernel⟩,
    ⟨{ s0 with power := { s0.power with request := some true } }, true, by decide +kernel⟩,
    ⟨{ s0 with power := { s0.power with request := some false, inShow := true } }, false, by decide +kernel⟩,
    ⟨{ s0 with staged := [{ group := 7, when := .epoch, frc := 0, copy := [(R.HEEL_LEAD, 0xFFFF)], bad := [] }] }, [(R.HEEL_LEAD, 0xFFFF)], 0, by decide +kernel⟩,
    ⟨{ s0 with staged := [{ group := 7, when := .epoch, frc := 0xFFFFFFFFFF, copy := [(R.HEEL_LEAD, 0xFFFF)], bad := [] }] }, [(R.HEEL_LEAD, 0xFFFF)], 0xFFFFFFFFFF, by decide +kernel⟩,
    ⟨{ s0 with time := { s0.time with heldPair := some (1001, 60000) } }, 1001, 60000, by decide +kernel⟩⟩

theorem witness_EveryCommandAnswers :
    (∃ (s : Machine.State) (c : Instr), s.mainRuns = false ∧ sleepCommand c = false) ∧
    (∃ (s : Machine.State) (c : Instr), s.upd.recovery = true ∧ sleepCommand c = false ∧ loaderCommand c = false) ∧
    (∃ (s : Machine.State) (c : Instr), s.upd.recovery = true ∧ sleepCommand c = false ∧ loaderCommand c = false) :=
  ⟨⟨mainDown, .nop 63, by decide +kernel⟩,
    ⟨recoverS, .epochBoundary, by decide +kernel⟩,
    ⟨recoverS, .macLinkChange 35 none, by decide +kernel⟩⟩

theorem witness_Memories :
    (∃ (s : Machine.State) (r : Nat) (a : Nat) (l : Bytes), List.length l ≤ 2 ^ 64 ∧
      (s.coreOwned r = true → a + List.length l ≤ State.fwBase ∧ ∀ (k : Nat), k < List.length l → s.protectedAt (a + k) = false)) ∧
    (∃ (s : Machine.State) (r : Nat) (a : Nat) (l : Bytes), List.length l ≤ 2 ^ 64 ∧
      (s.coreOwned r = true → a + List.length l ≤ State.fwBase ∧ ∀ (k : Nat), k < List.length l → s.protectedAt (a + k) = false)) ∧
    (∃ (s : Machine.State) (r : Nat) (a : Nat) (b : Nat) (l : Bytes), s.coreOwned r = true ∧ (b < a ∨ a + List.length l ≤ b ∨ State.fwBase ≤ b)) ∧
    (∃ (s : Machine.State) (r : Nat) (a : Nat) (b : Nat) (l : Bytes), s.coreOwned r = true ∧ s.protectedAt b = true) ∧
    (∃ (s : Machine.State) (r : Nat) (a : Nat) (b : Nat) (l : Bytes), s.coreOwned r = false ∧
      (∀ (k : Nat), k < List.length l → (a + k) % 2 ^ 64 ≠ b % 2 ^ 64)) ∧
    (∃ (s : Machine.State) (r : Nat) (a : Nat) (l : Bytes), s.MemRule) :=
  ⟨⟨s0, 63, 0xFFFFFFFFFFFFFFFF, [1, 2], by decide +kernel⟩,
    ⟨coreRing, 0, 0x3EFFFFFFE, [1, 2], by decide +kernel⟩,
    ⟨coreRing, 0, 0x3EFFFFFFE, 0x3F0000000, [1, 2], by decide +kernel⟩,
    ⟨bankRing, 0, 0, 1, [1, 2], by decide +kernel⟩,
    ⟨s0, 0, 0xFFFFFFFFFFFFFFFF, 1, [1, 2], by decide +kernel⟩,
    ⟨s0, 63, 5, [1, 2], ⟨by decide +kernel, by decide +kernel⟩⟩⟩

end A

namespace B

def s0 : State := State.reset
def hoFull : State := { s0 with time := { s0.time with ho := [(7, { queue := [1, 2, 3] })] } }
def hoTop : State := { s0 with time := { s0.time with frc := 10, ho := [(7, { queue := [1, 2, 3, 4] })] } }
def servoOn : State := { st [(R.TIME_CTRL, 8), (R.TIME_KP, 70), (R.TIME_KI, 3)] with time := { s0.time with servo := .acquire } }
def ppsOn : State := st [(R.TIME_CTRL, 0), (R.TIME_PPS_CTRL, 0x11)]
def refOn : State := st [(R.TIME_CTRL, 0), (R.TIME_REF10M_CTRL, 1)]
def locked : State := { s0 with time := { s0.time with servo := .locked, integ := 5 } }
def ltcIn : State := st [(R.TIME_LTCI_CTRL, 1)]
def macTx (n : Nat) (l : List (Nat × Word)) : State := { st ((R.MACn_CTRL n, 7) :: l) with mac := { port := [(n, { up := true })] } }
def ptpIn : State := macTx 36 [(R.TIME_PTP_CTRL, 0x240000)]
def ptpAsked : State := { macTx 36 [(R.TIME_PTP_CTRL, 0x240000)] with time := { s0.time with ptp := { s0.time.ptp with lastSync := some (65536000, 131072000), reqSent := [(36, (7, 196608000))] } } }
def stamped : State := { st [(R.TIME_TSQ_SEL, 36)] with time := { s0.time with tsq := [(36, { entries := [{ id := 65535, time := 1, ptp := true }, { id := 3, time := 131072000, ptp := false }], lost := [9, 8] })] } }
def hoQueued : State := { st [(R.TIME_HOn_CTRL 7, 1)] with time := { s0.time with ho := [(7, { queue := [6553600000] })] } }
def hoPulse : State := { st [(R.TIME_HOn_CTRL 7, 0x21)] with time := { s0.time with ho := [(7, { away := true, pulse := some (65536000000, 1000) })] } }

theorem witness_TimeWrites :
    (∃ (s : Machine.State) (v : BitVec 40), s.mainOn = true ∧ -s.rateLimit ≤ v.toInt ∧ v.toInt ≤ s.rateLimit) ∧
    (∃ (s : Machine.State) (v : BitVec 40), s.mainOn = true ∧ -s.rateLimit ≤ v.toInt ∧ v.toInt ≤ s.rateLimit) ∧
    (∃ (s : Machine.State) (d : Word), s.mainOn = true ∧ s.stepRefused = false) ∧
    (∃ (s : Machine.State) (ns : Word) (lo : Word) (hi : Word), s.mainOn = true ∧ s.stepRefused = false ∧ BitVec.toNat ns < 1000000000) ∧
    (∃ (s : Machine.State) (num : Word) (den : Word), s.mainOn = true ∧ State.pairOk (fld num 19 0) (fld den 19 0) = true) ∧
    (∃ (s : Machine.State) (num : Word) (den : Word), s.mainOn = true ∧ State.pairOk (fld num 19 0) (fld den 19 0) = true) ∧
    (∃ (s : Machine.State) (v : Word), s.mainOn = true ∧ s.inShow = false) ∧
    (∃ (s : Machine.State) (n : Nat) (ns : Word) (lo : Word) (hi : Word), s.mainOn = true ∧ n < 8 ∧ BitVec.toNat ns < 1000000000 ∧
      (s.hoOf n).queue.length < 4 ∧ ((s.hoOf n).queue ≠ [] ∨ s.lt < writtenTime ns lo hi)) ∧
    (∃ (s : Machine.State) (n : Nat) (ns : Word) (lo : Word) (hi : Word), s.mainOn = true ∧ n < 8 ∧ BitVec.toNat ns < 1000000000 ∧
      (s.hoOf n).queue = [] ∧ s.hoMode n ≠ 2 ∧ writtenTime ns lo hi ≤ s.lt) ∧
    (∃ (s : Machine.State) (n : Nat) (ns : Word) (lo : Word) (hi : Word), s.mainOn = true ∧ n < 8 ∧
      (1000000000 ≤ BitVec.toNat ns ∨ 4 ≤ (s.hoOf n).queue.length)) ∧
    (∃ (s : Machine.State) (n : Nat) (ns : Word) (lo : Word) (hi : Word), s.mainOn = true ∧ n < 8 ∧
      (1000000000 ≤ BitVec.toNat ns ∨ 4 ≤ (s.hoOf n).queue.length)) :=
  ⟨⟨s0, -1, by decide +kernel⟩,
    ⟨st [(R.TIME_RATE_LIMIT, 1)], 281474976, by decide +kernel⟩,
    ⟨s0, 0x80000000, by decide +kernel⟩,
    ⟨s0, 999999999, 0xFFFFFFFF, 0xFFFF, by decide +kernel⟩,
    ⟨s0, 1001, 24000, by decide +kernel⟩,
    ⟨s0, 1, 240, by decide +kernel⟩,
    ⟨s0, 0xFFFFFFFF, by decide +kernel⟩,
    ⟨hoFull, 7, 999999999, 0, 0, by decide +kernel⟩,
    ⟨hoTop, 6, 1, 0, 0, by decide +kernel⟩,
    ⟨hoTop, 7, 999999999, 0, 0, by decide +kernel⟩,
    ⟨hoTop, 0, 1000000000, 0, 0, by decide +kernel⟩⟩

theorem witness_TimeReferences :
    (∃ (s : Machine.State) (e : Word), s.mainOn = true ∧ s.servoSrc = 0 ∧ s.flag R.TIME_CTRL 3 = true ∧ s.time.servo = Servo.acquire ∧
      (BitVec.toInt e).natAbs ≤ BitVec.toNat (s.reg R.TIME_STEP_LIMIT)) ∧
    (∃ (s : Machine.State) (e : Word), s.mainOn = true ∧ s.servoSrc = 0 ∧ s.flag R.TIME_CTRL 3 = true ∧ s.time.servo = Servo.acquire ∧
      (BitVec.toInt e).natAbs ≤ BitVec.toNat (s.reg R.TIME_STEP_LIMIT)) ∧
    (∃ (s : Machine.State) (up : Bool) (held : Nat), s.mainOn = true ∧ (held < 8 * s.field R.TIME_PPS_CTRL 15 8 ∨ s.time.ppsGlitch = some up)) ∧
    (∃ (s : Machine.State) (up : Bool) (held : Nat), s.mainOn = true ∧ (held < 8 * s.field R.TIME_PPS_CTRL 15 8 ∨ s.time.ppsGlitch = some up)) ∧
    (∃ (s : Machine.State) (up : Bool) (held : Nat), s.mainOn = true ∧ 8 * s.field R.TIME_PPS_CTRL 15 8 ≤ held ∧ s.time.ppsGlitch ≠ some up ∧
      (s.flag R.TIME_PPS_CTRL 0 = false ∨ s.flag R.TIME_PPS_CTRL 4 ≠ up)) ∧
    (∃ (s : Machine.State) (up : Bool) (held : Nat), s.mainOn = true ∧ 8 * s.field R.TIME_PPS_CTRL 15 8 ≤ held ∧ s.time.ppsGlitch ≠ some up ∧
      (s.flag R.TIME_PPS_CTRL 0 = false ∨ s.flag R.TIME_PPS_CTRL 4 ≠ up)) ∧
    (∃ (s : Machine.State) (up : Bool) (held : Nat), s.mainOn = true ∧ s.flag R.TIME_PPS_CTRL 0 = true ∧ s.flag R.TIME_PPS_CTRL 4 = up ∧
      8 * s.field R.TIME_PPS_CTRL 15 8 ≤ held ∧ s.time.ppsGlitch ≠ some up ∧ s.flag R.TIME_CTRL 3 = false) ∧
    (∃ (s : Machine.State) (up : Bool) (held : Nat), s.mainOn = true ∧ s.flag R.TIME_PPS_CTRL 0 = true ∧ s.flag R.TIME_PPS_CTRL 4 = up ∧
      8 * s.field R.TIME_PPS_CTRL 15 8 ≤ held ∧ s.time.ppsGlitch ≠ some up ∧ s.flag R.TIME_CTRL 3 = false) ∧
    (∃ (s : Machine.State), s.mainOn = true ∧ s.flag R.TIME_PPS_CTRL 0 = true ∧ s.time.ppsGap = false) ∧
    (∃ (s : Machine.State), s.mainOn = true ∧ s.flag R.TIME_REF10M_CTRL 0 = true ∧ s.flag R.TIME_CTRL 3 = false) ∧
    (∃ (s : Machine.State), s.mainOn = true ∧ s.flag R.TIME_REF10M_CTRL 0 = true ∧ s.time.refGap = false) ∧
    (∃ (s : Machine.State), s.mainOn = true ∧ s.time.servo = Servo.locked) ∧
    (∃ (s : Machine.State) (tc : Word) (ub : Word) (ago : Nat), s.mainOn = true ∧ s.flag R.TIME_LTCI_CTRL 0 = true) ∧
    (∃ (s : Machine.State), s.mainOn = true ∧ s.flag R.TIME_LTCI_CTRL 0 = true) :=
  ⟨⟨servoOn, 1000, by decide +kernel⟩,
    ⟨{ servoOn with time := { servoOn.time with integ := 281474976710 } }, servoOn.reg R.TIME_STEP_LIMIT, by decide +kernel⟩,
    ⟨st [(R.TIME_PPS_CTRL, 0xFF11)], true, 2039, by decide +kernel⟩,
    ⟨{ ppsOn with time := { s0.time with ppsGlitch := some true } }, true, 65535, by decide +kernel⟩,
    ⟨ppsOn, false, 65535, by decide +kernel⟩,
    ⟨st [(R.TIME_PPS_CTRL, 0xFF11)], false, 2040, by decide +kernel⟩,
    ⟨ppsOn, true, 0, by decide +kernel⟩,
    ⟨st [(R.TIME_CTRL, 0), (R.TIME_PPS_CTRL, 0xFF01)], false, 2040, by decide +kernel⟩,
    ⟨ppsOn, by decide +kernel⟩,
    ⟨refOn, by decide +kernel⟩,
    ⟨refOn, by decide +kernel⟩,
    ⟨locked, by decide +kernel⟩,
    ⟨ltcIn, 0x23595924, 0xFFFFFFFF, 0, by decide +kernel⟩,
    ⟨ltcIn, by decide +kernel⟩⟩

theorem witness_TimeTraffic :
    (∃ (s : Machine.State) (p : Nat) (ph : Nat) (q : Nat) (d : Nat) (t1 : Ts) (c : Int), s.mainOn = true ∧ s.ptpHeard p d = true ∧
      s.isSlave p = true ∧ t1.ns < 1000000000) ∧
    (∃ (s : Machine.State) (p : Nat) (ph : Nat) (q : Nat) (d : Nat) (two : Bool) (t1 : Ts) (c : Int), s.mainOn = true ∧
      s.ptpHeard p d = true ∧ s.isSlave p = true ∧ 1000000000 ≤ t1.ns) ∧
    (∃ (s : Machine.State) (p : Nat) (ph : Nat) (q : Nat) (d : Nat) (t1 : Ts) (c : Int), s.mainOn = true ∧ s.ptpHeard p d = true ∧
      s.isSlave p = true ∧ t1.ns < 1000000000 ∧ s.servoSrc ≠ 1) ∧
    (∃ (s : Machine.State) (p : Nat) (ph : Nat) (d : Nat) (q : Nat) (t4 : Ts) (c : Int) (t3 : Int) (t1 : Int) (t2 : Int), s.mainOn = true ∧
      s.ptpHeard p d = true ∧ s.isSlave p = true ∧ s.flag R.TIME_PTP_CTRL 14 = false ∧ t4.ns < 1000000000 ∧
      s.time.ptp.lastSync = some (t1, t2) ∧ Sparse.get (0, 0) s.time.ptp.reqSent p = (q, t3) ∧
      ((s.time.ptp.reqSent.any fun e => e.fst == p) = true)) ∧
    (∃ (s : Machine.State) (p : Nat), s.mainOn = true ∧ p < 37 ∧ s.isMaster p = true ∧ s.flag (R.MACn_CTRL p) 0 = true ∧ s.outputsOn = true) ∧
    (∃ (s : Machine.State) (p : Nat), s.mainOn = true ∧ p < 37 ∧ s.isSlave p = true ∧ s.flag (R.MACn_CTRL p) 0 = true ∧ s.outputsOn = true ∧
      s.flag R.TIME_PTP_CTRL 14 = false) ∧
    (∃ (s : Machine.State), s.mainOn = true ∧ s.flag R.TIME_LTCO_CTRL 0 = true) ∧
    (∃ (s : Machine.State) (e : Stamp), s.mainOn = true ∧ s.field R.TIME_TSQ_SEL 5 0 < 37 ∧
      (List.find? (fun e => !e.ptp) (s.tsqOf (s.field R.TIME_TSQ_SEL 5 0)).entries = some e)) ∧
    (∃ (s : Machine.State) (i : Nat) (l : List Nat), s.mainOn = true ∧ s.field R.TIME_TSQ_SEL 5 0 < 37 ∧
      (s.tsqOf (s.field R.TIME_TSQ_SEL 5 0)).lost = i :: l) ∧
    (∃ (s : Machine.State) (n : Nat) (x : Int) (q : List Int), s.mainOn = true ∧ n < 8 ∧ s.hoMode n = 1 ∧ (s.hoOf n).queue = x :: q ∧
      (s.flag (R.TIME_HOn_CTRL n) 4 = false ∨ (s.hoOf n).away = false) ∧
      (∀ (y : Int), q.head? = some y → s.ltAt (max s.time.frc (s.launchNow (s.hoLaunch n (x, 1))).fst) < y)) ∧
    (∃ (s : Machine.State) (n : Nat) (l : Int × Nat), s.mainOn = true ∧ n < 8 ∧ (s.hoOf n).pulse = some l ∧ (s.hoOf n).away = true) :=
  ⟨⟨ptpIn, 36, 0, 65535, 0, ⟨1, 999999999⟩, 0, by decide +kernel⟩,
    ⟨ptpIn, 36, 0, 65535, 0, true, ⟨1, 1000000000⟩, 0, by decide +kernel⟩,
    ⟨ptpIn, 36, 0, 65535, 0, ⟨1, 999999999⟩, 65536, by decide +kernel⟩,
    ⟨ptpAsked, 36, 0, 0, 7, ⟨0, 999999999⟩, 65536, 196608000, 65536000, 131072000, by decide +kernel⟩,
    ⟨macTx 31 [(R.TIME_PTP_MASTER_LO, 0x80000000)], 31, by decide +kernel⟩,
    ⟨macTx 31 [(R.TIME_PTP_CTRL, 0x1F0000)], 31, by decide +kernel⟩,
    ⟨st [(R.TIME_LTCO_CTRL, 0x11), (R.TIME_LTCO_UB, 7)], by decide +kernel⟩,
    ⟨stamped, { id := 3, time := 131072000, ptp := false }, by decide +kernel⟩,
    ⟨stamped, 9, [8], by decide +kernel⟩,
    ⟨hoQueued, 7, 6553600000, [], by decide +kernel⟩,
    ⟨hoPulse, 7, (65536000000, 1000), by decide +kernel⟩⟩

end B

namespace C

def s0 : State := State.reset
/-- Video receiver 7 for 16-bit key samples on port 35. -/
def keyRx : State := link (st [(R.INGn_V_CTRL 7, 0x331), (R.INGn_V_PORT 7, 35), (R.INGn_V_DST_IP 7, 5), (R.INGn_V_UDP 7, 5000), (R.INGn_V_SIZE 7, 0x00040004),
  (R.CANVAS_CTRL, 0x3), (R.CANVAS_SIZE, 0x00080008), (R.INGn_V_DST 7, 0x00040004)]) 35
def hdr : RtpHdr := { port := 35, dstIp := 5, srcIp := 9, udp := 5000, payloadType := 96 }
def keySeen : State := { keyRx.setReg (R.INGn_V_CTRL 7) 0x333 with ingest := { s0.ingest with rx := [(7, { seen := [0xFFFFFFFF] })] } }
def keyMiss : State := { keyRx with time := { s0.time with epoch := 0 } }
def audRx : State := link (st [(R.INGn_A_CTRL 7, 1), (R.INGn_A_PORT 7, 35), (R.INGn_A_DST_IP 7, 5), (R.INGn_A_UDP 7, 5000)]) 35
def lagged : State := { audRx with ingest := { s0.ingest with rx := [(7, { lag := some (-3, 4) })] } }
def audHeard : State := { audRx with ingest := { s0.ingest with rx := [(7, { heardAt := [(2, 5)] })] } }
def keyHeard : State := { keySeen with ingest := { s0.ingest with rx := [(7, { heardAt := [(1, 5)] })] } }
def scanning : State := { s0 with ingest := { s0.ingest with raster := { run := true } } }
def scanEnd : State := { st [(R.RASTER_CTRL, 1)] with ingest := { s0.ingest with raster := { run := true, line := 1078 } } }
/-- A graph whose FIFO 0 has no room. -/
def noRoom : Graph := { nodes := [], fifos := [{ base := 0, lines := 0, recElems := 64, sink := false, window := false, cut := false, win := 0, target := 0, hwm := 0 }], flows := 0, gen := 0, table := [], reserve := [1] }
def scanFull : State := { scanning with kennel := { s0.kennel with graph := some noRoom } }
def scanHeld : State := { s0 with ingest := { s0.ingest with raster := { run := true, hold := some 5 } }, time := { s0.time with frc := 105 } }
def pv : State := st [(R.PVn_CTRL 1, 1)]
def pvUp : State := { pv with ingest := { s0.ingest with hpd := [(1, true)], trained := [(1, true)] } }
def pvRun : State := { pv with ingest := { s0.ingest with preview := [(1, { run := true, last := some [1, 2, 3] })] } }
def auxWaits : State := { s0 with ingest := { s0.ingest with auxBusy := [(1, true)] } }

theorem witness_VideoIngest :
    (∃ (s : Machine.State) (n : Nat) (h : RtpHdr) (pathB : Bool) (seq : Word) (ts : Word) (m : Bool) (l : List Srd), s.mainOn = true ∧
      videoReaches s n h pathB ∧ s.videoBad n l = true) ∧
    (∃ (s : Machine.State) (n : Nat) (h : RtpHdr) (pathB : Bool) (seq : Word) (ts : Word) (m : Bool) (l : List Srd), s.mainOn = true ∧
      videoReaches s n h pathB ∧ s.videoBad n l = false ∧ s.streamMerge n false = true ∧ BitVec.toNat seq ∈ (s.rxOf n).seen) ∧
    (∃ (s : Machine.State) (n : Nat) (h : RtpHdr) (pathB : Bool) (seq : Word) (ts : Word) (m : Bool) (l : List Srd), s.mainOn = true ∧
      videoReaches s n h pathB ∧ s.videoBad n l = false ∧ s.streamMerge n false = false ∧ (s.matchInstant n ts = none) ∧ m = false) ∧
    (∃ (s : Machine.State) (n : Nat) (k : Nat) (h : RtpHdr) (pathB : Bool) (seq : Word) (ts : Word) (m : Bool), s.mainOn = true ∧
      videoReaches s n h pathB ∧ s.streamMerge n false = false ∧ videoOpen s n ts k ∧ s.placeClips n = false) ∧
    (∃ (s : Machine.State) (n : Nat) (k : Nat) (x : Nat) (y : Nat) (h : RtpHdr) (pathB : Bool) (seq : Word) (ts : Word) (m : Bool) (hi : Byte) (lo : Byte),
      s.mainOn = true ∧
      videoReaches s n h pathB ∧ s.streamMerge n false = false ∧ videoOpen s n ts k ∧ s.rxSampling n = 3 ∧ s.rxDepth n = 16 ∧
      s.canvComps = 4 ∧ x < s.rxW n ∧ y < s.rxH n ∧ s.cropX n ≤ x ∧ s.cropY n ≤ y ∧ x < s.cropX n + s.cropW n ∧ y < s.cropY n + s.cropH n ∧
      s.dstX n + x - s.cropX n < s.canvW ∧ s.dstY n + y - s.cropY n < s.canvH ∧
      s.topPlace true (s.dstX n + x - s.cropX n) (s.dstY n + y - s.cropY n) = some n ∧
      s.canvAddr (s.slotOf (s.ingestEpoch n k)) (s.dstX n + x - s.cropX n) (s.dstY n + y - s.cropY n) 3 + 1 < State.dramSize) :=
  ⟨⟨keyRx, 7, hdr, false, 1, 0, true, [{ row := 4, offset := 0, length := 2, data := [1, 2] }], by decide +kernel⟩,
    ⟨keySeen, 7, hdr, false, 0xFFFFFFFF, 0, true, [], by decide +kernel⟩,
    ⟨keyMiss, 7, hdr, false, 1, 0x40000000, false, [], by decide +kernel⟩,
    ⟨keyRx, 7, 0, hdr, false, 1, 0, true, by decide +kernel⟩,
    ⟨keyRx, 7, 0, 3, 3, hdr, false, 1, 0, true, 0x12, 0x34, by and_intros <;> decide +kernel⟩⟩

theorem witness_AudioIngest :
    (∃ (s : Machine.State) (n : Nat) (h : RtpHdr) (pathB : Bool) (seq : BitVec 16) (ts : Word) (l : Bytes), s.mainOn = true ∧
      s.audOn n = true ∧ s.rxReady h.port = true ∧ s.streamPath n true h.port = some pathB ∧ s.bracePort h.port = false ∧
      s.streamHears n true h = true ∧ s.streamMerge n true = false ∧ List.length l = s.audChannels n * s.audBytes n * s.audSamples n) ∧
    (∃ (s : Machine.State) (n : Nat), s.mainOn = true ∧ s.audOn n = true) ∧
    (∃ (s : Machine.State), s.mainOn = true) ∧
    (∃ (s : Machine.State) (n : Nat) (f : Nat) (audio : Bool) (pathB : Bool), s.mainOn = true ∧ s.pathUsed n audio pathB = true ∧
      List.lookup (2 * b2n audio + b2n pathB) (s.rxOf n).heardAt = some f) ∧
    (∃ (s : Machine.State) (n : Nat) (f : Nat) (audio : Bool) (pathB : Bool), s.mainOn = true ∧ s.pathUsed n audio pathB = true ∧
      List.lookup (2 * b2n audio + b2n pathB) (s.rxOf n).heardAt = some f) :=
  ⟨⟨audRx, 7, hdr, false, 0xFFFF, 0, List.replicate 96 0x7F, by decide +kernel⟩,
    ⟨audRx, 7, by decide +kernel⟩,
    ⟨lagged, by decide +kernel⟩,
    ⟨audHeard, 7, 5, true, false, by decide +kernel⟩,
    ⟨keyHeard, 7, 5, false, true, by decide +kernel⟩⟩

theorem witness_RasterAndPreviews :
    (∃ (s : Machine.State) (line : Nat), s.mainOn = true ∧ s.flag R.RASTER_CTRL 0 = false) ∧
    (∃ (s : Machine.State) (line : Nat), s.mainOn = true ∧ s.flag R.RASTER_CTRL 0 = true ∧ s.ingest.raster.run = true ∧
      s.ingest.raster.done = false ∧ s.ingest.raster.line ≤ line ∧ line ≤ s.ingest.raster.line + 1 ∧ line < s.rasterTiming.vAct ∧
      List.lookup line s.ingest.raster.fetched = none ∧ s.fetchFrom line < s.boundaryFrc) ∧
    (∃ (s : Machine.State), s.mainOn = true ∧ s.ingest.raster.run = true ∧ s.ingest.raster.done = false ∧ s.ingest.raster.hold = none ∧
      s.pixelDue < s.boundaryFrc ∧ s.rasterFull = false ∧ s.ingest.raster.col + 1 < s.rasterTiming.hAct ∧
      s.ingest.raster.part.length + 1 < (Option.map FifoDesc.elems (s.fifoDesc s.rasterFifo)).getD 64) ∧
    (∃ (s : Machine.State), s.mainOn = true ∧ s.ingest.raster.run = true ∧ s.ingest.raster.done = false ∧ s.ingest.raster.hold = none ∧
      s.pixelDue < s.boundaryFrc ∧ s.rasterFull = true) ∧
    (∃ (s : Machine.State) (f : Nat), s.mainOn = true ∧ s.ingest.raster.hold = some f ∧ s.rasterFull = false ∧ s.ingest.raster.eofWait = false) ∧
    (∃ (s : Machine.State) (n : Nat) (ok : Bool), s.mainOn = true ∧ n < 2 ∧ s.flag (R.PVn_CTRL n) 0 = true) ∧
    (∃ (s : Machine.State) (n : Nat) (ok : Bool), s.mainOn = true ∧ n < 2 ∧ s.flag (R.PVn_CTRL n) 0 = true) ∧
    (∃ (s : Machine.State) (n : Nat), s.mainOn = true ∧ n < 2 ∧ s.hpdOf n = true) ∧
    (∃ (s : Machine.State) (n : Nat) (v : List Nat), s.mainOn = true ∧ n < 2 ∧ (s.previewOf n).run = true ∧ (s.previewOf n).done = false ∧
      (s.previewOf n).last = some v ∧ s.previewDue n < s.boundaryFrc) ∧
    (∃ (s : Machine.State) (n : Nat) (v : Word), s.mainOn = true ∧ n < 2 ∧ fld v 31 28 = 9) ∧
    (∃ (s : Machine.State) (n : Nat), s.mainOn = true ∧ n < 2 ∧ Sparse.get false s.ingest.auxBusy n = true) :=
  ⟨⟨{ scanEnd with regs := [] }, 1079, by decide +kernel⟩,
    ⟨scanEnd, 1079, by and_intros <;> decide +kernel⟩,
    ⟨scanning, by decide +kernel⟩,
    ⟨scanFull, by decide +kernel⟩,
    ⟨scanHeld, 5, by decide +kernel⟩,
    ⟨pv, 1, true, by decide +kernel⟩,
    ⟨pv, 1, false, by decide +kernel⟩,
    ⟨pvUp, 1, by decide +kernel⟩,
    ⟨pvRun, 1, [1, 2, 3], by decide +kernel⟩,
    ⟨s0, 1, 0x9FFFFF00, by decide +kernel⟩,
    ⟨auxWaits, 1, by decide +kernel⟩⟩

end C

namespace D1

def s0 : State := State.reset
def nd (op : Nat) (ordered : Bool) (prio : Nat) (mask in0 in1 out0 out1 : Nat) : Node :=
  { op := op, prio := prio, ordered := ordered, flow := 63, engMask := mask, in0 := in0, in1 := in1, out0 := out0, out1 := out1, tabOff := 0, tabLen := 0, paramBase := 0, paramCnt := 0, opf := [] }
def fd (lines : Nat) (sink : Bool) (target : Nat) : FifoDesc :=
  { base := 0, lines := lines, recElems := 1, sink := sink, window := false, cut := false, win := 0, target := target, hwm := 1 }
/-- a TEE from FIFO 0 to the sinks 1 and 2 -/
def teeGraph (ordered : Bool) : Graph :=
  { nodes := [nd 0x14 ordered 3 0x8000 0 255 1 2], fifos := [fd 1 false 0, fd 1 true 1, fd 2 true 2], flows := 64, gen := 7, table := [], reserve := [1, 1, 1] }
def oneRec : Rec := { kind := 2, ncomp := 0, count := 1, x := 65535, y := 0, tag := 0xFFFFFFFF, seq := 0, payload := [255] }
def teeFrame (ordered : Bool) : State :=
  { st [(R.REn_CTRL 15, 1)] with kennel := { s0.kennel with graph := some (teeGraph ordered), run := true, epoch := 0xFFFFFFFF, fifos := [(0, { recs := [oneRec] })] } }
def gr : Grain := { node := 0, ins := [0], seq := 0, readyAt := 0 }
def teeReady (ordered : Bool) : State := let s := teeFrame ordered; { s with kennel := { s.kennel with ready := [gr], fifos := [(0, { recs := [oneRec], taken := 1 })], nodes := [(0, { formed := 1 })] } }
def teeRuns : State := let s := teeReady false; { s with kennel := { s.kennel with ready := [], engines := [(15, { running := some gr })] } }
def ended : State := { s0 with kennel := { s0.kennel with graph := some (teeGraph true), run := true, epoch := 0xFFFFFFFF, fifos := [(1, { recs := [Rec.eof 0], eof := true }), (2, { recs := [Rec.eof 0], eof := true })] } }
def wdog : State := { teeRuns with regs := [(R.REn_CTRL 15, 1), (R.REn_WDOG_LIMIT 15, 0xFFFFFFFF)] }

theorem witness_Grains :
    (∃ (s : Machine.State) (g : Graph) (i : Nat) (a : Nat) (n : Node), s.mainOn = true ∧ s.kennel.graph = some g ∧ g.nodes[i]? = some n ∧
      n.ins = [a] ∧ s.grainsRun = true ∧ s.inputHere g a = true ∧ s.outputsFit g i n = true ∧ s.inFlight < 4096 ∧
      (n.ordered = true → (s.nodeRun i).formed - (s.nodeRun i).released < 64) ∧ (∀ (e : Nat), (s.engineOf e).asleep = false)) ∧
    (∃ (s : Machine.State) (g : Graph) (i : Nat) (a : Nat) (n : Node), s.mainOn = true ∧ s.kennel.graph = some g ∧ g.nodes[i]? = some n ∧
      n.ins = [a] ∧ s.grainsRun = true ∧ s.inputHere g a = true ∧ s.outputsFit g i n = true ∧ s.inFlight < 4096 ∧
      (n.ordered = true → (s.nodeRun i).formed - (s.nodeRun i).released < 64) ∧ (∀ (e : Nat), (s.engineOf e).asleep = false)) ∧
    (∃ (s : Machine.State) (g : Graph) (e : Nat) (n : Node) (x : Grain), s.mainOn = true ∧ s.engineFree e = true ∧ s.kennel.graph = some g ∧
      s.grainsRun = true ∧ s.takeChoice g e = some (n, x)) ∧
    (∃ (s : Machine.State) (g : Graph) (e : Nat), s.mainOn = true ∧ s.engineFree e = true ∧ s.kennel.graph = some g ∧ s.takeChoice g e = none) ∧
    (∃ (s : Machine.State) (g : Graph) (e : Nat) (n : Node) (x : Grain) (r : Rec), s.mainOn = true ∧ s.kennel.graph = some g ∧
      s.grainsRun = true ∧ (s.engineOf e).running = some x ∧ g.nodes[x.node]? = some n ∧ n.op = 20 ∧ n.ordered = false ∧
      s.grainRecs x = some [r] ∧ n.ins.length = 1) :=
  ⟨⟨teeFrame true, teeGraph true, 0, 0, nd 0x14 true 3 0x8000 0 255 1 2, by and_intros <;> first | decide +kernel | exact fun _ => rfl⟩,
    ⟨{ teeFrame true with kennel := { (teeFrame true).kennel with nodes := [(0, { formed := 63 })] } }, teeGraph true, 0, 0, nd 0x14 true 3 0x8000 0 255 1 2, by and_intros <;> first | decide +kernel | exact fun _ => rfl⟩,
    ⟨teeReady true, teeGraph true, 15, nd 0x14 true 3 0x8000 0 255 1 2, gr, by decide +kernel⟩,
    ⟨teeFrame true, teeGraph true, 15, by decide +kernel⟩,
    ⟨teeRuns, teeGraph false, 15, nd 0x14 false 3 0x8000 0 255 1 2, gr, oneRec, by and_intros <;> decide +kernel⟩⟩

theorem witness_FramesAndEngines :
    (∃ (s : Machine.State) (g : Graph), s.mainOn = true ∧ s.kennel.next = some (GraphLoad.good g)) ∧
    (∃ (s : Machine.State) (v : Word), s.mainOn = true) ∧
    (∃ (s : Machine.State), s.mainOn = true ∧ s.frameWhole_ = true ∧ s.fixEn = false) ∧
    (∃ (s : Machine.State), s.mainOn = true ∧ s.frameRuns = true ∧ s.frameWhole_ = false ∧ s.fixEn = false) ∧
    (∃ (s : Machine.State) (e : Nat) (x : Grain), s.mainOn = true ∧ e < 16 ∧ (s.engineOf e).running = some x) ∧
    (∃ (s : Machine.State) (e : Nat) (x : Grain), s.mainOn = true ∧ e < 16 ∧ (s.engineOf e).running = some x) ∧
    (∃ (s : Machine.State) (e : Nat), s.mainOn = true ∧ e < 16 ∧ s.flag (R.REn_STATUS e) 0 = true) ∧
    (∃ (s : Machine.State) (e : Nat), s.mainOn = true ∧ e < 16) ∧
    (∃ (s : Machine.State) (e : Nat), s.mainOn = true ∧ e < 16 ∧ s.frameRuns = false) :=
  ⟨⟨{ s0 with kennel := { s0.kennel with next := some (.good (teeGraph true)) } }, teeGraph true, by decide +kernel⟩,
    ⟨st [(R.KNL_PARAM_IDX, 4095)], 0xFFFFFFFF, by decide +kernel⟩,
    ⟨ended, by decide +kernel⟩,
    ⟨teeFrame true, by decide +kernel⟩,
    ⟨teeRuns, 15, gr, by decide +kernel⟩,
    ⟨wdog, 15, gr, by decide +kernel⟩,
    ⟨{ st [(R.REn_STATUS 15, 7)] with kennel := { s0.kennel with engines := [(15, { held := true })] } }, 15, by decide +kernel⟩,
    ⟨st [(R.REn_LS_CE_CNT 15, 0xFFFFFFFF)], 15, by decide +kernel⟩,
    ⟨{ teeRuns with kennel := { teeRuns.kennel with complete := true } }, 15, by decide +kernel⟩⟩

end D1

namespace D2

def s0 : State := State.reset
def live : State := { st [(R.CALIB_BANKB_LO, 0x80000000)] with calib := { s0.calib with valid := true } }
def copying : State := { live with calib := { live.calib with run := some .copy }, dram := [(5, 1), (0x500000 - 1, 2), (0x80000000, 9), (0x80500000, 8)] }
def goodBank (t : Option Epoch) : State := { live with calib := { live.calib with run := some (.commit t false) }, dram := [(0x80000000, 0x4B), (0x80000001, 0x43), (0x80000002, 0x41), (0x80000003, 0x4C), (0x80000004, 1)] }
def badBank : State := { goodBank none with dram := [] }

theorem witness_BankCommands :
    (∃ (s : Machine.State), s.mainOn = true ∧ s.calib.run = none ∧ s.calib.valid = true) ∧
    (∃ (s : Machine.State), s.mainOn = true ∧ s.calib.run = none) ∧
    (∃ (s : Machine.State), s.mainOn = true ∧ s.calib.run = none ∧ later (s.reg R.CALIB_COMMIT_EPOCH) s.time.epoch = false) ∧
    (∃ (s : Machine.State), s.mainOn = true ∧ s.calib.run = none) ∧
    (∃ (s : Machine.State) (e : Option Epoch) (ok : Bool), s.mainOn = true ∧ s.calib.run = some (CalibRun.commit e ok) ∧ s.calib.owner = none) :=
  ⟨⟨live, by decide +kernel⟩,
    ⟨s0, by decide +kernel⟩,
    ⟨{ st [(R.CALIB_COMMIT_EPOCH, 0)] with calib := {} }, by decide +kernel⟩,
    ⟨s0, by decide +kernel⟩,
    ⟨goodBank none, none, false, by decide +kernel⟩⟩

theorem witness_GainsAndDiagnosis :
    (∃ (s : Machine.State) (z : Nat) (v : Word), s.mainOn = true ∧ z < 256) :=
  ⟨s0, 255, 0xFFFFFFFF, by decide +kernel⟩

end D2

namespace D3

def s0 : State := State.reset
def live : State := { st [(R.CALIB_BANKB_LO, 0x80000000)] with calib := { s0.calib with valid := true } }
def copying : State := { live with calib := { live.calib with run := some .copy }, dram := [(5, 1), (0x500000 - 1, 2), (0x80000000, 9), (0x80500000, 8)] }
def goodBank (t : Option Epoch) : State := { live with calib := { live.calib with run := some (.commit t false) }, dram := [(0x80000000, 0x4B), (0x80000001, 0x43), (0x80000002, 0x41), (0x80000003, 0x4C), (0x80000004, 1)] }
def badBank : State := { goodBank none with dram := [] }

theorem goodBank_rd8 (t : Option Epoch) {a : Nat} (h : 0x80000005 ≤ a) : (goodBank t).rd8 a = 0 := by
  simp only [State.rd8, goodBank, Sparse.get]
  repeat' split
  all_goals first | omega | rfl

theorem goodBank_rdBytes (t : Option Epoch) (n : Nat) {a : Nat} (h : 0x80000005 ≤ a) : (goodBank t).rdBytes a n = List.replicate n 0 := by
  induction n generalizing a with
  | zero => rfl
  | succ n ih => rw [State.rdBytes, goodBank_rd8 t h, ih (by omega)]; rfl



theorem goodBank_tiles (t : Option Epoch) (i : Nat) : ((goodBank t).tileAt 0x80000000 i).valid = false := by
  simp only [State.tileAt, goodBank_rdBytes t 32 (show 0x80000005 ≤ 0x80000000 + 0x4000 + 128 * i by omega)]
  decide +kernel

theorem goodBank_head (t : Option Epoch) : (goodBank t).rdBytes 0x80000000 64 = [0x4B, 0x43, 0x41, 0x4C, 1] ++ List.replicate 59 0 := by
  rw [show (64 : Nat) = 59 + 1 + 1 + 1 + 1 + 1 from rfl]
  simp only [State.rdBytes]
  rfl

theorem goodBank_size (t : Option Epoch) : (goodBank t).bankSize = (goodBank none).bankSize := rfl
/-- R198: a bank with a good header, a pixel region that fits, and no valid tile passes. -/
theorem bankCheck_noTiles (s : State) (b : Nat) (hm : leAt (s.rdBytes b 64) 0 4 = 0x4C41434B ∧ leAt (s.rdBytes b 64) 4 2 = 1)
    (hp : leAt (s.rdBytes b 64) 16 8 % 32 = 0 ∧ 0x410000 + leAt (s.rdBytes b 64) 16 8 ≤ s.bankSize)
    (ht : ∀ i, (s.tileAt b i).valid = false) : s.bankCheck b = none := by
  unfold State.bankCheck
  rw [if_neg (by omega), if_neg (by omega)]
  have hf : ∀ l : List Nat, l.filter (fun t => (s.tileAt b t).valid) = [] := fun l => List.filter_eq_nil_iff.mpr (by simp [ht])
  simp only [hf, List.find?_nil, Option.map_none]
theorem goodBank_check (t : Option Epoch) : (goodBank t).bankCheck 0x80000000 = none := by
  apply bankCheck_noTiles
  · rw [goodBank_head]; decide +kernel
  · rw [goodBank_head, goodBank_size]; decide +kernel
  · exact goodBank_tiles t

theorem witness_BankCommands_2 :
    (∃ (s : Machine.State), s.mainOn = true ∧ s.calib.run = some CalibRun.copy ∧ s.calib.owner = none ∧
      (s.bankBase !s.calib.bankB) + s.bankSize ≤ State.dramSize) ∧
    (∃ (s : Machine.State) (e : Option Epoch), s.mainOn = true ∧ s.calib.run = some (CalibRun.commit e false) ∧
      s.bankCheck (s.bankBase !s.calib.bankB) = none) ∧
    (∃ (s : Machine.State) (e : Option Epoch) (st : Nat) (idx : Nat), s.mainOn = true ∧ s.calib.run = some (CalibRun.commit e false) ∧
      s.calib.owner = none ∧ s.bankCheck (s.bankBase !s.calib.bankB) = some (st, idx)) :=
  ⟨⟨copying, by decide +kernel⟩,
    ⟨goodBank (some 0xFFFFFFFF), some 0xFFFFFFFF, ⟨by decide +kernel, by decide +kernel,
      by rw [show (goodBank (some 0xFFFFFFFF)).bankBase (!(goodBank (some 0xFFFFFFFF)).calib.bankB) = 0x80000000 by decide +kernel]; exact goodBank_check _⟩⟩,
    ⟨badBank, none, 9, 65535, by decide +kernel⟩⟩

theorem witness_GainsAndDiagnosis_2 :
    (∃ (s : Machine.State), s.mainOn = true ∧ s.calib.work = some true ∧ s.calib.ready = false) :=
  ⟨{ s0 with calib := { s0.calib with work := some true } }, by decide +kernel⟩

end D3

namespace D4

def s0 : State := State.reset
def showing : State := { s0 with power := { s0.power with inShow := true } }
def laneCoeff : State := { s0 with calib := { s0.calib with scPend := [(0x1A7D04, 0xFFFFFFFF)] } }
def clearing : State := { st [(R.PLAN_LED_COUNT, 2), (R.PLAN_LEDTAB_LO, 0x100000), (R.PLAN_LED_UNMEAS, 1), (R.PLAN_LED_FAULT, 1)] with plan := { s0.plan with clearing := true }, dram := [(0xFFFFF, 5), (0x100004, 2), (0x100010, 7)] }
def aged : State := { clearing with plan := s0.plan, time := { s0.time with epoch := 2 } }
def withRoute (s : State) (tile port : Nat) : State :=
  (((s.setReg R.VCN_ROUTE_LO 0x200000).setReg R.FIX_EPT_LO 0x400000).setReg R.VCN_STAGE_LO 0x1000000).wrBytes (0x200000 + 32 * tile)
    ([2, 0, 0, 0, 0, 9] ++ leBytes 1 port ++ [1] ++ leBytes 4 0 ++ leBytes 4 64 ++ leBytes 4 4096 ++ leBytes 4 0)
def vcnOn (tile port : Nat) : State := withRoute (link (st [(R.VCN_CTRL, 1), (R.VCN_PORTS, BitVec.ofNat 32 (2 ^ port))]) port) tile port
def fd (lines : Nat) (sink : Bool) (target : Nat) : FifoDesc :=
  { base := 0, lines := lines, recElems := 1, sink := sink, window := false, cut := false, win := 0, target := target, hwm := 1 }
def planRec : Rec := { kind := 2, ncomp := 0, count := 0, x := 4080, y := 0, tag := 32767, seq := 0, payload := List.replicate 16 7 }
def sinkHas : State := { vcnOn 32767 31 with kennel := { s0.kennel with graph := some { nodes := [], fifos := [fd 9 true 1], flows := 0, gen := 0, table := [], reserve := [1] }, run := true, epoch := 0xFFFFFFFF, fifos := [(0, { recs := [planRec] })] } }
def shortRec : Rec := { kind := 2, ncomp := 0, count := 0, x := 0, y := 0, tag := 32767, seq := 0, payload := [0, 0, 0, 0, 0, 0, 0, 15, 1, 2, 3, 4, 5, 6, 7, 8] }
def sinkShort : State := { sinkHas with kennel := { sinkHas.kennel with fifos := [(0, { recs := [shortRec] })] } }
def stagedPlan : TilePlan := { epoch := 0xFFFFFFFF, port := 31, frag := 1400, len := some 1500, ranges := [(0, 1500)] }
def planIn : State := { vcnOn 32767 31 with vocon := { s0.vocon with plans := [(65535, stagedPlan)], windows := [(0xFFFFFFFF, 6553600000000)] } }
def fr : Frag := { tile := 32767, epoch := 0xFFFFFFFF, idx := 1, resend := false }
def planQueued : State := { planIn with vocon := { planIn.vocon with queue := [(31, [fr])] } }
def keyed (e : Epoch) : State := { st [(R.VCN_CTRL, 4), (R.VCN_KEY_EPOCH0, 1)] with vocon := { s0.vocon with slot := some (3, 0) }, time := { s0.time with epoch := e } }
def vcn (type sub src : Nat) (e : Epoch) (p : Bytes) : Bytes :=
  let b := beBytes 2 0x564E ++ [1] ++ beBytes 1 type ++ [0] ++ beBytes 1 sub ++ beBytes 2 p.length ++ beBytes 2 src ++ beBytes 2 0x8000 ++ beBytes 4 e.toNat ++ List.replicate 16 0 ++ p
  b ++ beBytes 4 (crc32c b)
def rx (type sub src : Nat) (e : Epoch) (p : Bytes) : VcnRx := { type := type, sub := sub, src := src, epoch := e, payload := p, ts := 0 }
def hel : Bytes := [2, 0, 0, 0, 0, 9] ++ List.replicate 10 0 ++ beBytes 2 9000 ++ List.replicate 34 0
def rep : Bytes := [0xFF, 0xFF, 0xFF, 0xFF] ++ List.replicate 7 0 ++ [1, 0xFF, 0xF0] ++ List.replicate 50 0 ++ [0x0F, 0xFF, 0, 0, 0, 0, 0, 0]
def verOpened : State := { vcnOn 32767 31 with heel := { s0.heel with banks := [(1, { opened := true, epoch := 5 })] } }
def loss1 : Bytes := [0, 1, 0, 0, 0, 1, 0, 1]
def lay : Bytes := leBytes 2 16 ++ leBytes 2 1 ++ [1, 1, 1, 16, 8, 0, 7, 0] ++ List.replicate 244 0
def packG : Graph := { nodes := [{ op := 0x10, prio := 0, ordered := false, flow := 0, engMask := 1, in0 := 0, in1 := 255, out0 := 1, out1 := 255, tabOff := 0, tabLen := 288, paramBase := 0, paramCnt := 0, opf := [1] }], fifos := [], flows := 0, gen := 0, table := lay ++ List.replicate 16 255 ++ [0, 1, 0, 0] ++ leBytes 4 10 ++ List.replicate 8 0, reserve := [] }
def det1 : Bytes := [0, 0, 0, 0, 0, 16, 0, 0, 0x80, 0, 0, 1]
def detS : State := { ((vcnOn 1 31).setReg R.PLAN_CTRL 1).setReg R.PLAN_LED_COUNT 58 with kennel := { s0.kennel with graph := some packG }, plan := { s0.plan with flagged := [(1, (9, true, false))], latched := [(1, 9)] } }

theorem witness_GainsAndDiagnosis_3 :
    (∃ (s : Machine.State) (a : Nat) (c : Nat) (v : Word), s.mainOn = true ∧ canonOf a = a ∧ State.scClass a = some c ∧ (c = 0 ∨ c = 2) ∧
      s.inShow = false) ∧
    (∃ (s : Machine.State) (a : Nat) (c : Nat) (v : Word), s.mainOn = true ∧ canonOf a = a ∧ State.scClass a = some c ∧ (c = 0 ∨ c = 2) ∧
      s.inShow = false) ∧
    (∃ (s : Machine.State) (a : Nat) (c : Nat) (v : Word), s.mainOn = true ∧ canonOf a = a ∧ State.scClass a = some c ∧ (c = 0 ∨ c = 2) ∧
      s.inShow = true) ∧
    (∃ (s : Machine.State) (a : Nat) (v : Word), s.mainOn = true ∧ s.calib.scPend = [(a, v)] ∧ State.scClass a = some 1 ∧ s.inShow = false) ∧
    (∃ (s : Machine.State), s.mainOn = true ∧ s.plan.clearing = false) ∧
    (∃ (s : Machine.State), s.mainOn = true ∧ s.plan.clearing = true) ∧
    (∃ (s : Machine.State) (led : Nat), s.mainOn = true ∧ led < s.ledCount ∧ s.rdLE (s.ledTable + 8 * led + 4) 1 % 4 ≠ 0 ∧
      s.diagMaxAge < BitVec.toNat (s.time.epoch - BitVec.ofNat 32 (s.rdLE (s.ledTable + 8 * led) 4)) ∧
      s.ledTable + 8 * led + 4 < State.dramSize) :=
  ⟨⟨s0, R.TIME_PORTn_TXDLY 36, 0, 0xFFFFFFFF, by decide +kernel⟩,
    ⟨s0, R.DRAM_CHc_TRAIN1 3, 2, 0xFFFFFFFF, by decide +kernel⟩,
    ⟨showing, R.DRAM_CHc_TRAIN1 3, 2, 0xFFFFFFFF, by decide +kernel⟩,
    ⟨{ s0 with calib := { s0.calib with scPend := [(R.MACn_CTRL 31 + 0x108, 0xFFFFFFFF)] } }, R.MACn_CTRL 31 + 0x108, 0xFFFFFFFF, by decide +kernel⟩,
    ⟨s0, by decide +kernel⟩,
    ⟨clearing, by decide +kernel⟩,
    ⟨{ aged with regs := (R.PLAN_DIAG_MAXAGE, 1) :: aged.regs }, 0, by decide +kernel⟩⟩

theorem witness_VoconFragments :
    (∃ (s : Machine.State) (f : Nat) (r : Rec), s.mainOn = true ∧ s.vcnEn = true ∧ s.sinkHead 1 = some (f, r) ∧ r.kind = 2 ∧ r.tag < 65536 ∧
      (s.routeOf r.tag).valid = true ∧ s.vcnPort (s.routeOf r.tag).port = true ∧ s.tilePlan r.tag s.kennel.epoch = none ∧
      r.y * 65536 + r.x + List.length r.payload ≤ (s.routeOf r.tag).stageLen ∧
      s.stageBase s.kennel.epoch + (s.routeOf r.tag).stageOff + (r.y * 65536 + r.x) + List.length r.payload ≤ State.dramSize ∧
      (r.y * 65536 + r.x ≤ 4 → 8 ≤ r.y * 65536 + r.x + List.length r.payload → r.y * 65536 + r.x + List.length r.payload ≤ beNat (slice r.payload (4 - (r.y * 65536 + r.x)) 4))) ∧
    (∃ (s : Machine.State) (f : Nat) (r : Rec), s.mainOn = true ∧ s.vcnEn = true ∧ s.sinkHead 1 = some (f, r) ∧ r.kind = 2 ∧ r.tag < 65536 ∧
      (s.routeOf r.tag).valid = true ∧ s.vcnPort (s.routeOf r.tag).port = true ∧ s.tilePlan r.tag s.kennel.epoch = none ∧
      r.y * 65536 + r.x + List.length r.payload ≤ (s.routeOf r.tag).stageLen ∧
      s.stageBase s.kennel.epoch + (s.routeOf r.tag).stageOff + (r.y * 65536 + r.x) + List.length r.payload ≤ State.dramSize ∧
      r.y * 65536 + r.x ≤ 4 ∧ 8 ≤ r.y * 65536 + r.x + List.length r.payload ∧
      beNat (slice r.payload (4 - (r.y * 65536 + r.x)) 4) < r.y * 65536 + r.x + List.length r.payload) ∧
    (∃ (s : Machine.State) (tile : Nat) (idx : Nat) (e : Epoch) (p : TilePlan), s.mainOn = true ∧ s.vcnEn = true ∧
      s.tilePlan tile e = some p ∧ p.void = false ∧ s.isVoid e = false ∧ idx < p.frags ∧ ¬idx ∈ p.ready ∧
      p.has (p.span idx).fst (p.span idx).snd = true ∧ s.windowOpen e = true ∧ s.sendsEpoch e = true) ∧
    (∃ (s : Machine.State) (port : Nat) (f : Frag) (rest : List Frag) (p : TilePlan), s.mainOn = true ∧ s.vcnEn = true ∧ s.vcnAuth = 0 ∧
      s.vcnUdp = false ∧ s.vcnPort port = true ∧ s.vcnQueue port = f :: rest ∧ f.resend = false ∧ s.sendsEpoch f.epoch = true ∧
      s.tilePlan f.tile f.epoch = some p ∧ (p.span f.idx).snd - (p.span f.idx).fst ≤ 1400 ∧ s.vcnCount f.tile f.epoch < 65536) ∧
    (∃ (s : Machine.State) (e : Epoch) (T : Int), s.mainOn = true ∧ s.vocon.windows.getLast? = some (e, T)) ∧
    (∃ (s : Machine.State) (port : Nat), s.mainOn = true ∧ s.vcnPort port = false) ∧
    (∃ (s : Machine.State), s.mainOn = true ∧ s.vocon.slot.isSome = true ∧ 2 ^ 31 ≤ s.keyAge ∧ s.keyAge < 2 ^ 32 - 65536) ∧
    (∃ (s : Machine.State), s.mainOn = true ∧ s.vocon.slot.isSome = true ∧ 2 ^ 31 ≤ s.keyAge ∧ s.keyAge < 2 ^ 32 - 65536) ∧
    (∃ (s : Machine.State), s.mainOn = true ∧ s.vocon.slot.isSome = true ∧ 2 ^ 32 - 65536 ≤ s.keyAge) :=
  ⟨⟨sinkHas, 0, planRec, by and_intros <;> decide +kernel⟩,
    ⟨sinkShort, 0, shortRec, by and_intros <;> decide +kernel⟩,
    ⟨planIn, 32767, 1, 0xFFFFFFFF, stagedPlan, by and_intros <;> decide +kernel⟩,
    ⟨planQueued, 31, fr, [], stagedPlan, by and_intros <;> decide +kernel⟩,
    ⟨planQueued, 0xFFFFFFFF, 6553600000000, by decide +kernel⟩,
    ⟨{ s0 with vocon := { s0.vocon with queue := [(31, [fr])] } }, 31, by decide +kernel⟩,
    ⟨keyed 0x80000001, by decide +kernel⟩,
    ⟨keyed 0xFFFF0000, by decide +kernel⟩,
    ⟨keyed 0xFFFF0001, by decide +kernel⟩⟩

theorem witness_VoconReceive :
    (∃ (s : Machine.State) (port : Nat) (l : Bytes), s.mainOn = true ∧ s.vcnEn = true ∧ s.vcnPort port = true ∧ s.rxReady port = true ∧
      s.rxShape l = none) ∧
    (∃ (s : Machine.State) (port : Nat) (l : Bytes) (x : VcnRx), s.mainOn = true ∧ vcnAccepts s port l x ∧ x.type = 1 ∧ x.sub = 0 ∧
      List.length x.payload = 52 ∧ s.fragMax ≤ beAt x.payload 16 2 ∧ (s.routeOf x.src).valid = true ∧
      (s.routeOf x.src).mac = slice x.payload 0 6 ∧ (s.routeOf x.src).port = port ∧ s.routeAddr x.src + 32 ≤ State.dramSize ∧
      s.outputsOn = true ∧ s.vcnUdp = false ∧ s.vcnCount x.src s.time.epoch < 65536) ∧
    (∃ (s : Machine.State) (port : Nat) (l : Bytes) (x : VcnRx), s.mainOn = true ∧ vcnAccepts s port l x ∧ plainEcho s port x ∧ x.type = 4 ∧
      x.sub = 0 ∧ State.repOk x.payload = true ∧ beAt x.payload 12 2 ≠ 32768 ∧ s.verEn = false ∧ s.sheafEn = false ∧
      beAt x.payload 10 1 % 2 = 0 ∧ (s.verBank x.epoch).opened = true ∧ (s.verBank x.epoch).epoch = x.epoch) ∧
    (∃ (s : Machine.State) (port : Nat) (l : Bytes) (x : VcnRx), s.mainOn = true ∧ vcnAccepts s port l x ∧ plainEcho s port x ∧ x.type = 4 ∧
      x.sub = 0 ∧ State.repOk x.payload = true ∧ s.sheafEn = false ∧
      ((s.verBank x.epoch).opened = false ∨ (s.verBank x.epoch).epoch ≠ x.epoch)) ∧
    (∃ (s : Machine.State) (port : Nat) (j : Nat) (l : Bytes) (x : VcnRx) (p : TilePlan), s.mainOn = true ∧ vcnAccepts s port l x ∧
      plainEcho s port x ∧ x.type = 4 ∧ x.sub = 1 ∧ State.lossOk x.payload = true ∧ State.lossRanges x.payload = [(j, 1)] ∧
      s.sendsEpoch x.epoch = true ∧ s.tilePlan x.src x.epoch = some p ∧ j < p.frags ∧ s.isVoid x.epoch = false ∧ s.windowOpen x.epoch = true ∧
      p.void = false ∧ j ∈ p.ready ∧ p.resent < s.field R.VCN_RESEND_MAX 15 0) ∧
    (∃ (s : Machine.State) (port : Nat) (kind : Nat) (line : Nat) (chain : Nat) (nbits : Nat) (led0 : Nat) (o : Bytes) (z : Bytes) (l : Bytes) (x : VcnRx) (y : Layout),
      s.mainOn = true ∧
      vcnAccepts s port l x ∧ plainEcho s port x ∧ x.type = 4 ∧ x.sub = 2 ∧
      State.detRecords (List.length x.payload + 1) x.payload = some [(kind, line, chain, nbits, o, z)] ∧
      s.planOf x.src = some (y, true, led0) ∧ s.flag R.PLAN_CTRL 0 = true ∧ s.plan.clearing = false ∧ led0 + 3 * y.w * y.h ≤ s.ledCount ∧
      nbits = y.p * y.c ∧ line < y.l ∧ chain < y.k ∧ s.flagClaimed x.src kind x.epoch = true ∧ (x.src, x.epoch) ∈ s.plan.latched ∧
      kind = 0) ∧
    (∃ (s : Machine.State) (port : Nat) (l : Bytes) (x : VcnRx), s.mainOn = true ∧ vcnAccepts s port l x ∧ x.type = 8 ∧ x.sub = 0 ∧
      List.length x.payload ≤ 64 ∧ s.outputsOn = true ∧ s.vcnUdp = false ∧ s.vcnCount x.src s.time.epoch < 65536) ∧
    (∃ (s : Machine.State) (port : Nat) (l : Bytes) (x : VcnRx), s.mainOn = true ∧ vcnAccepts s port l x ∧ x.type = 8 ∧ 2 ≤ x.sub ∧
      (s.field R.VCN_LOG_HEAD 11 0 + 1) % 4096 ≠ s.field R.VCN_LOG_TAIL 11 0) :=
  ⟨⟨vcnOn 1 31, 31, [], by decide +kernel⟩,
    ⟨vcnOn 32767 31, 31, vcn 1 0 32767 5 hel, rx 1 0 32767 5 hel, by and_intros <;> decide +kernel⟩,
    ⟨verOpened, 31, vcn 4 0 32767 5 rep, rx 4 0 32767 5 rep, by and_intros <;> decide +kernel⟩,
    ⟨vcnOn 32767 31, 31, vcn 4 0 32767 5 rep, rx 4 0 32767 5 rep, by decide +kernel⟩,
    ⟨{ planIn with vocon := { planIn.vocon with plans := [(65535, { stagedPlan with ready := [1, 0], sent := [1] })] } }, 31, 1, vcn 4 1 32767 0xFFFFFFFF loss1, rx 4 1 32767 0xFFFFFFFF loss1, { stagedPlan with ready := [1, 0], sent := [1] }, by and_intros <;> decide +kernel⟩,
    ⟨detS, 31, 0, 0, 0, 16, 10, [0x80, 0], [0, 1], vcn 4 2 1 9 det1, rx 4 2 1 9 det1, Layout.read packG.table 0,
      by and_intros <;> first | decide +kernel | exact rfl⟩,
    ⟨vcnOn 32767 31, 31, vcn 8 0 32767 0 (List.replicate 64 1), rx 8 0 32767 0 (List.replicate 64 1), by decide +kernel⟩,
    ⟨(vcnOn 32767 31).setReg R.VCN_LOG_TAIL 2, 31, vcn 8 2 32767 0 [1], rx 8 2 32767 0 [1], by decide +kernel⟩⟩

end D4

namespace E

def s0 : State := State.reset
def ep (e : Epoch) (t : Int) : HeelEp := { epoch := e, t := t }
def heelOn : State := { st [(R.HEEL_CTRL, 1), (R.VCN_CTRL, 1), (R.VCN_PORTS, 0x80000001), (R.HEEL_LEAD, 2000)] with heel := { s0.heel with eps := [ep 0 (20000000 * 65536), ep 0xFFFFFFFF (10000000 * 65536)] } }
def fd (lines : Nat) (sink : Bool) (target : Nat) : FifoDesc :=
  { base := 0, lines := lines, recElems := 1, sink := sink, window := false, cut := false, win := 0, target := target, hwm := 1 }
def sinkGraph (k : Nat) : Graph := { nodes := [], fifos := [fd 20 true k], flows := 0, gen := 0, table := [], reserve := [1] }
def recOf (tag : Nat) (p : Bytes) : Rec := { kind := 2, ncomp := 0, count := 0, x := 0, y := 0, tag := tag, seq := 0, payload := p }
def sinkHas (s : State) (k : Nat) (r : Rec) : State := { s with kennel := { s.kennel with graph := some (sinkGraph k), run := true, epoch := 3, fifos := [(0, { recs := [r] })] } }
def verS : State := { sinkHas (st [(R.VER_CTRL, 1)]) 3 (recOf 0 [255, 15, 0, 0, 1, 2, 3, 4]) with heel := { s0.heel with banks := [(1, { epoch := 3, opened := true })] } }
def vb : VerBank := { epoch := 3, opened := true, bad := 2 }
def verEnd : State := { st [(R.VER_CTRL, 1)] with heel := { eps := [ep 3 65536000], banks := [(1, vb)] } }
def fixS : State := (link (st [(R.FIX_CTRL, 7), (R.FIX_OUT_COUNT, 2), (R.FIX_IN_COUNT, 2), (R.FIX_OUT_LO, 0x100000), (R.FIX_IN_LO, 0x200000),
    (R.FIX_SLOT_LO, 0x10000000), (R.FIX_IN_PORTS_HI, 8), (R.FIX_RDM_LO, 0x300000), (R.FIX_EPT_LO, 0x400000), (R.FIX_SYNC,
    7)]) 35).wrBytes 0x100020 [0xFF, 0xF9, 0xC0, 255, 0, 0, 35, 0, 0, 0, 0, 0]
  |>.wrBytes 0x200010 [0xFF, 0xF9, 0x80]
def pkt : Bytes := sacnData (List.replicate 16 1) (List.replicate 64 0) 200 7 255 0 63999 [0, 255]
def xin : SacnIn := { cid := beNat (List.replicate 16 1), prio := 200, sync := 7, seq := 255, terminated := false, uni := 63999, values := [0, 255] }
def src1 : SacnSource := { cid := 5, prio := 200, seq := 0, data := [0], held := some (7, [0, 1]), order := 0 }
def fedS : State := { fixS with fixture := { s0.fixture with src := [(1, [src1])] } }
def silent : State := { fixS with time := { s0.time with epoch := 0x80000000 } }.wrBytes (0x400000 + 32 * 262143) [1, 0, 0, 0, 0, 0, 0, 0, 0, 0, 0, 0, 0, 0, 0, 0, 0, 0, 0, 0, 0xFD]
def dmxS (p : Nat) (cfg : Word) : State := ((fixS.setReg (R.FIX_DMXp_CFG p) cfg).setReg (R.UARTn_CTRL p) 0x20001)
def msg : Bytes := [0xCC, 1, 24] ++ List.replicate 21 255
def rdmS : State := (dmxS 31 0xA0000001).wrBytes (0x300000 + 1024 * 31) ([0, 0, 24, 0] ++ List.replicate 60 0 ++ msg)
def rdmW : State := { dmxS 31 0xA0000001 with fixture := { s0.fixture with rdm := [(31, .response false)] } }

theorem witness_HeelCopies :
    (∃ (s : Machine.State) (x : HeelEp), s.mainOn = true ∧ s.nextCopy = some x ∧ x.copy = 0 ∧ s.flag R.HEEL_CTRL 0 = true ∧ s.vcnEn = true ∧
      s.vcnAuth = 0 ∧ s.vcnUdp = false ∧ s.heelCopyTime x 0 ≤ x.t - 10000 * State.uNs ∧ ¬0 ∈ x.passed ∧ s.sendsEpoch x.epoch = true ∧
      s.sheaf.carry = none ∧ s.vcnCount 65535 x.epoch < 65536 ∧ (s.frameRuns = false ∨ x.epoch ≠ s.kennel.epoch)) ∧
    (∃ (s : Machine.State) (x : HeelEp), s.mainOn = true ∧ s.nextCopy = some x ∧ x.copy = 0 ∧ s.flag R.HEEL_CTRL 0 = true ∧ s.vcnEn = true ∧
      (x.t - 10000 * State.uNs < s.heelCopyTime x 0 ∨ 0 ∈ x.passed) ∧ s.sheaf.carry = none) ∧
    (∃ (s : Machine.State) (x : HeelEp), s.mainOn = true ∧ s.nextCopy = some x ∧ x.copy = 0 ∧ s.flag R.HEEL_CTRL 0 = true ∧ s.vcnEn = true ∧
      s.vcnAuth = 0 ∧ s.vcnUdp = false ∧ s.heelCopyTime x 0 ≤ x.t - 10000 * State.uNs ∧ ¬0 ∈ x.passed ∧ s.sendsEpoch x.epoch = true ∧
      s.sheaf.carry = none ∧ s.vcnCount 65535 x.epoch < 65536 ∧ s.frameRuns = true ∧ s.frameWhole_ = false ∧ x.epoch = s.kennel.epoch ∧
      s.fixEn = false) ∧
    (∃ (s : Machine.State), s.mainOn = true ∧ s.nextCopy = none) :=
  ⟨⟨heelOn, ep 0xFFFFFFFF (10000000 * 65536), by and_intros <;> decide +kernel⟩,
    ⟨{ heelOn with heel := { s0.heel with eps := [{ ep 5 (10000000 * 65536) with passed := [0] }] } }, { ep 5 (10000000 * 65536) with passed := [0] }, by decide +kernel⟩,
    ⟨sinkHas { heelOn with heel := { s0.heel with eps := [ep 3 (20000000 * 65536)] } } 1 (recOf 0 []), ep 3 (20000000 * 65536), by and_intros <;> decide +kernel⟩,
    ⟨s0, by decide +kernel⟩⟩

theorem witness_HeelAndVerification :
    (∃ (s : Machine.State) (f : Nat) (r : Rec), s.mainOn = true ∧ s.verEn = true ∧ s.sinkHead 3 = some (f, r) ∧ r.kind = 2 ∧
      List.length r.payload = 8 ∧ (s.verBank s.kennel.epoch).opened = true ∧ (s.verBank s.kennel.epoch).epoch = s.kennel.epoch) ∧
    (∃ (s : Machine.State) (T : Int) (b : VerBank) (l : List (Int × VerBank)), s.mainOn = true ∧ s.verDue = (T, b) :: l) ∧
    (∃ (s : Machine.State), s.mainOn = true ∧ s.sinkHead 3 = none) ∧
    (∃ (s : Machine.State), s.mainOn = true ∧ s.verDue = []) :=
  ⟨⟨verS, 0, recOf 0 [255, 15, 0, 0, 1, 2, 3, 4], by decide +kernel⟩,
    ⟨verEnd, (verEnd.verDue.map (·.1)).getD 0 0, vb, [], by decide +kernel⟩,
    ⟨s0, by decide +kernel⟩,
    ⟨s0, by decide +kernel⟩⟩

theorem witness_SacnOutput :
    (∃ (s : Machine.State) (f : Nat) (r : Rec), s.mainOn = true ∧ s.fixEn = true ∧ s.sinkHead 2 = some (f, r) ∧ r.kind = 2 ∧
      r.tag < s.outCount ∧ (s.outUni r.tag).en = true ∧ ((s.outUni r.tag).source = 0 ∨ (s.outUni r.tag).source = 2) ∧
      2 ≤ List.length r.payload ∧ List.length r.payload ≤ 513 ∧ s.graphPart r.tag s.kennel.epoch = none) ∧
    (∃ (s : Machine.State) (f : Nat) (r : Rec), s.mainOn = true ∧ s.fixEn = true ∧ s.sinkHead 2 = some (f, r) ∧ r.kind = 2 ∧
      r.tag < s.outCount ∧ (s.outUni r.tag).en = true ∧ ((s.outUni r.tag).source = 0 ∨ (s.outUni r.tag).source = 2) ∧
      2 ≤ List.length r.payload ∧ List.length r.payload ≤ 513 ∧ s.graphPart r.tag s.kennel.epoch = none) ∧
    (∃ (s : Machine.State) (u : Nat) (r : Epoch) (rest : List (Nat × Epoch)), s.mainOn = true ∧ s.fixture.queue = (u, r) :: rest ∧
      s.sacnLate r = true) ∧
    (∃ (s : Machine.State) (u : Nat) (r : Epoch) (rest : List (Nat × Epoch)), s.mainOn = true ∧ s.fixture.queue = (u, r) :: rest ∧
      s.sacnLate r = false ∧ s.sendsEpoch r = true) ∧
    (∃ (s : Machine.State), s.mainOn = true) ∧
    (∃ (s : Machine.State) (x : HeelEp), s.mainOn = true ∧ s.fixOut = true ∧ s.syncUniv ≠ 0 ∧ s.heel.eps = [x] ∧ x.missed = false ∧
      s.fixture.syncSent = none ∧ s.sendsEpoch x.epoch = true) ∧
    (∃ (s : Machine.State) (u : Nat) (n : Nat) (rest : List (Nat × Nat)), s.mainOn = true ∧ s.fixture.term = (u, n) :: rest ∧
      s.outputsOn = true ∧ (s.outUni u).port ≤ 35 ∧ s.bracePort (s.outUni u).port = false) ∧
    (∃ (s : Machine.State) (u : Nat) (n : Nat) (rest : List (Nat × Nat)), s.mainOn = true ∧ s.fixture.term = (u, n) :: rest ∧
      s.outputsOn = true ∧ (s.outUni u).port ≤ 35 ∧ s.bracePort (s.outUni u).port = false) :=
  ⟨⟨sinkHas fixS 2 (recOf 1 (List.replicate 513 9)), 0, recOf 1 (List.replicate 513 9), by and_intros <;> decide +kernel⟩,
    ⟨sinkHas fixS 2 (recOf 1 [0, 1]), 0, recOf 1 [0, 1], by and_intros <;> decide +kernel⟩,
    ⟨{ fixS with fixture := { s0.fixture with queue := [(1, 3), (1, 3)], seq := [(1, 255)] }, heel := { s0.heel with eps := [ep 4 (90000000 * 65536)] } }, 1, 3, [(1, 3)], by decide +kernel⟩,
    ⟨{ fixS with fixture := { s0.fixture with queue := [(1, 3)], seq := [(1, 255)] } }, 1, 3, [], by decide +kernel⟩,
    ⟨{ fixS with fixture := { s0.fixture with queue := [(1, 3), (1, 4)] }, heel := { s0.heel with eps := [ep 4 (90000000 * 65536), ep 3 (9000000 * 65536)] } }, by decide +kernel⟩,
    ⟨{ fixS with heel := { s0.heel with eps := [ep 4 (90000000 * 65536)] }, fixture := { s0.fixture with syncSeq := 255 } }, ep 4 (90000000 * 65536), by decide +kernel⟩,
    ⟨{ fixS with fixture := { s0.fixture with term := [(1, 1)], seq := [(1, 255)] } }, 1, 1, [], by decide +kernel⟩,
    ⟨{ fixS with fixture := { s0.fixture with term := [(1, 3)], seq := [(1, 255)] } }, 1, 3, [], by decide +kernel⟩⟩

theorem witness_FixtureInput :
    (∃ (s : Machine.State) (p : Nat) (i : Nat) (l : Bytes) (x : SacnIn), s.mainOn = true ∧ s.sacnPort p = true ∧ s.rxReady p = true ∧
      sacnDiscovery l = false ∧ sacnRead l = some x ∧ s.sacnIndices x = [i] ∧ x.terminated = false ∧ s.sourcesOf i = [] ∧
      ((s.inUni i).snd.fst = false ∨ x.sync = 0)) ∧
    (∃ (s : Machine.State) (p : Nat) (a : Nat) (l : Bytes), s.mainOn = true ∧ s.sacnPort p = true ∧ s.rxReady p = true ∧ sacnSyncRead l = some a) ∧
    (∃ (s : Machine.State) (i : Nat) (cid : Nat) (y : SacnSource), s.mainOn = true ∧ y ∈ s.sourcesOf i ∧ y.cid = cid) ∧
    (∃ (s : Machine.State) (i : Nat) (cid : Nat), s.mainOn = true) ∧
    (∃ (s : Machine.State) (i : Nat), s.mainOn = true ∧ i < 262144 ∧ s.rdLE (s.eptBase + 32 * i) 1 = 1 ∧
      s.rdLE (s.eptBase + 32 * i + 20) 1 % 4 = 1 ∧
      atLeast1 (BitVec.toNat (s.reg R.FIX_EPT_SILENT)) < BitVec.toNat (s.time.epoch - w32 (s.rdLE (s.eptBase + 32 * i + 16) 4)) ∧
      s.eptBase + 32 * i + 20 < State.dramSize) ∧
    (∃ (s : Machine.State) (v : Word), s.mainOn = true ∧ s.fixture.overs.length < 4096) ∧
    (∃ (s : Machine.State) (v : Word), s.mainOn = true ∧ 4096 ≤ s.fixture.overs.length) :=
  ⟨⟨fixS, 35, 1, pkt, xin, by and_intros <;> decide +kernel⟩,
    ⟨fedS, 35, 7, sacnSync (List.replicate 16 1) 0 7 false, by decide +kernel⟩,
    ⟨fedS, 1, 5, src1, by decide +kernel⟩,
    ⟨fedS, 1, 5, by decide +kernel⟩,
    ⟨silent, 262143, by decide +kernel⟩,
    ⟨st [(R.FIX_OVR_ADDR, 0xFFFFFF)], 0xFFFFFFFF, by decide +kernel⟩,
    ⟨{ s0 with fixture := { s0.fixture with overs := List.replicate 4096 (0, 0, false, 0) } }, 1, by decide +kernel⟩⟩

theorem witness_DmxAndRdm :
    (∃ (s : Machine.State) (p : Nat) (x : HeelEp), s.mainOn = true ∧ s.dmxOn p = true ∧ s.fixOut = true ∧
      s.flag (R.FIX_DMXp_CFG p) 30 = false ∧ s.rdmOf p = Rdm.none ∧ s.heel.eps = [x] ∧ x.missed = false ∧ s.lt ≤ x.t ∧
      s.dmxFreeAt p + State.usTicks (s.field (R.FIX_DMXp_TIM p) 11 0) ≤ s.frcAt x.t) ∧
    (∃ (s : Machine.State) (p : Nat) (brk : Nat) (mab : Nat) (l : Bytes), s.mainOn = true ∧ s.dmxOn p = true ∧
      s.flag (R.FIX_DMXp_CFG p) 30 = true ∧ 88000 ≤ brk ∧ 8000 ≤ mab ∧ l ≠ [] ∧ List.length l ≤ 513 ∧ List.getD l 0 0 = 0 ∧
      (s.inUni (s.field (R.FIX_DMXp_CFG p) 11 0)).fst = true ∧ s.sourcesOf (s.field (R.FIX_DMXp_CFG p) 11 0) = []) ∧
    (∃ (s : Machine.State) (p : Nat) (y : SacnSource), s.mainOn = true ∧ y ∈ s.sourcesOf (s.field (R.FIX_DMXp_CFG p) 11 0) ∧ y.cid = 2 ^ 128 + p) ∧
    (∃ (s : Machine.State) (p : Nat) (len : Nat) (m : Bytes), s.mainOn = true ∧ s.dmxOn p = true ∧ p < 32 ∧ s.flag R.FIX_RDM_GO_LO p = false ∧
      s.flag (R.FIX_DMXp_CFG p) 30 = false ∧ s.flag (R.FIX_DMXp_CFG p) 29 = true ∧ ¬p ∈ s.fixture.rdmRan ∧ s.rdLE (s.rdmArea p + 2) 2 = len ∧
      24 ≤ len ∧ len ≤ 255 ∧ s.rdBytes (s.rdmArea p + 64) len = m ∧ s.rdLE (s.rdmArea p + 64) 1 = 204 ∧ s.rdLE (s.rdmArea p + 66) 1 = len ∧
      s.outputsOn = true) ∧
    (∃ (s : Machine.State) (p : Nat), s.mainOn = true ∧ p < 32 ∧ s.flag R.FIX_RDM_GO_LO p = false ∧ s.outputsOn = false ∧
      s.rdmArea p + 1024 ≤ State.dramSize) ∧
    (∃ (s : Machine.State) (p : Nat) (len : Nat), s.mainOn = true ∧ s.dmxOn p = true ∧ p < 32 ∧ s.flag R.FIX_RDM_GO_LO p = false ∧
      s.flag (R.FIX_DMXp_CFG p) 30 = false ∧ s.flag (R.FIX_DMXp_CFG p) 29 = true ∧ p ∈ s.fixture.rdmRan ∧ s.rdLE (s.rdmArea p + 2) 2 = len ∧
      24 ≤ len ∧ len ≤ 255 ∧ s.rdLE (s.rdmArea p + 64) 1 = 204 ∧ s.rdLE (s.rdmArea p + 66) 1 = len ∧ s.outputsOn = true) ∧
    (∃ (s : Machine.State) (p : Nat) (ago : Nat) (l : Bytes), s.mainOn = true ∧ s.outputsOn = true ∧ p < 32 ∧ s.rdmOf p = Rdm.response false ∧
      rdmOk l = true ∧ List.length l ≤ 257 ∧ s.rdLE (s.rdmArea p + 8) 4 < 32768 ∧ s.rdmArea p + 1024 ≤ State.dramSize) ∧
    (∃ (s : Machine.State) (p : Nat) (d : Bool), s.mainOn = true ∧ s.outputsOn = true ∧ p < 32 ∧ s.rdmOf p = Rdm.response d ∧
      s.rdmArea p + 1024 ≤ State.dramSize) :=
  ⟨⟨{ dmxS 63 0x80010001 with heel := { s0.heel with eps := [ep 4 (90000000 * 65536)] } }, 63, ep 4 (90000000 * 65536), by and_intros <;> decide +kernel⟩,
    ⟨dmxS 63 0xC0000001, 63, 88000, 8000, 0 :: List.replicate 512 255, by and_intros <;> decide +kernel⟩,
    ⟨{ dmxS 63 0xC0000001 with fixture := { s0.fixture with src := [(1, [{ src1 with cid := 2 ^ 128 + 63, held := none }])] } }, 63, { src1 with cid := 2 ^ 128 + 63, held := none }, by decide +kernel⟩,
    ⟨rdmS, 31, 24, msg, by and_intros <;> decide +kernel⟩,
    ⟨{ rdmS with brace := { s0.brace with state := .standby } }, 31, by decide +kernel⟩,
    ⟨{ rdmS with fixture := { s0.fixture with rdmRan := [31] } }, 31, 24, by and_intros <;> decide +kernel⟩,
    ⟨rdmW, 31, 100, List.replicate 255 255 ++ [0xFE, 1], by decide +kernel⟩,
    ⟨rdmW, 31, false, by decide +kernel⟩⟩

end E

namespace F

def s0 : State := State.reset
def port (p : Nat) (u : Uart) (l : List (Nat × Word)) : State := { st l with uart := { port := [(p, u)] } }
/-- A bit whose samples agree. -/
def b3 (x : Bool) : Samples := [x, x, x]
def on (p : Nat) (u : Uart) : State := port p u [(R.UARTn_CTRL p, 1), (R.UARTn_FMT p, 0x23)]
def trimS : State := { on 63 { held := some (0, 7) } with calib := { s0.calib with scPend := [(R.UARTn_RXTRIM 63, 0xFFFFFFFF)], scDue := [R.UARTn_RXTRIM 63] } }
def vals (a : Nat) : State := st [(R.CHECKn_CTRL 7, BitVec.ofNat 32 (2 ^ 31 + a))]
def att (k : Nat) (u : CheckUnit) (tx : Nat) : State := { vals 0 with check := { unit := [(7, u)] }, uart := { port := [(63, { tx := List.replicate tx 0 })] } }
def um : CheckUnit := { dir := 2, port := 63, held := [(0, 1), (0, 2), (0, 3), (0, 4)], chars := 5 }
def sent : Bytes := [0x24, 0x48, 0x2A, 0x34, 0x38, 0x0D, 0x0A]
def sn (l : Bytes) : Sentence := { port := 63, chars := l, time := 5, epoch := 1 }
def withRules (x : Sentence) (r : List Rule) : Sentence := { x with rules := r }
def rl : Rule := { key := [0x48], mask := 1, en := true, prio := 7, action := 1, srcPorts := 2 ^ 63, dstPorts := 2 ^ 63, dstGroups := 0, sel := 0, minIvl := 0 }
def hubS (l : Bytes) (r : List Rule) : State := { st [(R.UARTn_CTRL 63, 0x10001), (R.HUB_CTRL, 1)] with hub := { s0.hub with ready := [withRules (sn l) r], live := { rules := r } } }
def bads : Bytes := [0x24, 0x48, 0x2A, 0x34, 0x39, 0x0D, 0x0A]
def queued : State := { hubS sent [] with hub := { s0.hub with txq := [(63, [(7, sent), (7, bads)])] }, uart := { port := [(63, { tx := List.replicate 249 0 })] } }
def mapOn : State := st [(R.SIGMAP_CTRL, 1), (R.INGn_A_CTRL 7, 1), (R.INGn_A_ENV 7, 0xFFFF)]
def me : MapEntry := { srcKind := 4, stale := 0, fmt := 0, srcA := 7, srcB := 0, aux0 := 0, aux1 := 0, maxAge := 0, dstKind := 4, wide := false, dstAddr := 0x3F0F, a := 65536, b := 1, lo := -5, hi := 0x7FFFFFFF }

theorem witness_UartReceive :
    (∃ (s : Machine.State) (p : Nat) (ago : Nat) (bits : List Samples) (parity : Samples) (stop : Samples) (first : Samples), s.mainOn = true ∧
      plainPort s p ∧ s.uartHears p = true ∧ (s.uartOf p).stuck = false ∧ (s.uartOf p).inBreak = false ∧ (s.uartOf p).held = none ∧
      (s.uartOf p).enAt ≤ s.time.frc - ago ∧ State.lineBit (s.formatAt p (s.time.frc - ago)) first = false ∧
      State.lineBit (s.formatAt p (s.time.frc - ago)) stop = true) ∧
    (∃ (s : Machine.State) (p : Nat) (ago : Nat) (bits : List Samples) (parity : Samples) (stop : Samples) (first : Samples), s.mainOn = true ∧
      plainPort s p ∧ s.uartHears p = true ∧ (s.uartOf p).stuck = false ∧ (s.uartOf p).inBreak = false ∧ (s.uartOf p).held = none ∧
      (s.uartOf p).enAt ≤ s.time.frc - ago ∧ State.lineBit (s.formatAt p (s.time.frc - ago)) first = false ∧
      State.lineBit (s.formatAt p (s.time.frc - ago)) stop = true) ∧
    (∃ (s : Machine.State) (p : Nat) (ago : Nat) (bits : List Samples) (parity : Samples) (stop : Samples) (first : Samples), s.mainOn = true ∧
      p < 64 ∧ s.uartHears p = true ∧ (s.uartOf p).stuck = false ∧ (s.uartOf p).inBreak = false ∧ (s.uartOf p).held = none ∧
      (s.uartOf p).enAt ≤ s.time.frc - ago ∧ State.lineBit (s.formatAt p (s.time.frc - ago)) first = false ∧
      State.lineBit (s.formatAt p (s.time.frc - ago)) stop = false ∧ State.lineData (s.formatAt p (s.time.frc - ago)) bits = 0 ∧
      (State.fmtParity (s.formatAt p (s.time.frc - ago)) 0 = none ∨ State.lineBit (s.formatAt p (s.time.frc - ago)) parity = false)) ∧
    (∃ (s : Machine.State) (p : Nat) (noise : Bool) (pe : Bool) (start : Nat), s.mainOn = true ∧ plainPort s p ∧
      ¬R.UARTn_RXTRIM p ∈ s.calib.scDue ∧ (s.uartOf p).held = some (8192 * b2n noise + 1024 * b2n pe, start)) ∧
    (∃ (s : Machine.State) (p : Nat) (noise : Bool) (pe : Bool) (start : Nat), s.mainOn = true ∧ plainPort s p ∧
      ¬R.UARTn_RXTRIM p ∈ s.calib.scDue ∧ (s.uartOf p).held = some (8192 * b2n noise + 1024 * b2n pe, start) ∧
      s.time.frc < start + charTicks s p 1) ∧
    (∃ (s : Machine.State) (p : Nat) (cycles : Nat), s.mainOn = true ∧ p < 64 ∧ (s.uartOf p).inBreak = true ∧ (s.uartOf p).stuck = false) ∧
    (∃ (s : Machine.State) (p : Nat), s.mainOn = true ∧ p < 64 ∧ s.uartHears p = true ∧ (s.uartOf p).stuck = false ∧
      (s.uartOf p).held = none ∧ s.field (R.UARTn_BRK_MAX p) 23 0 ≠ 0) ∧
    (∃ (s : Machine.State) (p : Nat), s.mainOn = true ∧ (s.uartOf p).stuck = true) ∧
    (∃ (s : Machine.State) (p : Nat), s.mainOn = true ∧ p < 64 ∧ s.uartEn p = true ∧ s.uartOwner p = 0 ∧
      s.field (R.UARTn_FIFO_CTRL p) 23 16 ≠ 0 ∧ (s.uartOf p).rx ≠ []) ∧
    (∃ (s : Machine.State) (p : Nat), s.mainOn = true ∧ p < 64 ∧ s.uartHears p = true ∧ (s.uartOf p).stuck = false) ∧
    (∃ (s : Machine.State) (p : Nat) (ago : Nat) (bits : List Samples) (parity : Samples) (stop : Samples) (first : Samples), s.mainOn = true ∧
      p < 64 ∧ s.uartHears p = true ∧ (s.uartOf p).stuck = false ∧ (s.uartOf p).enAt ≤ s.time.frc - ago ∧
      State.lineBit (s.formatAt p (s.time.frc - ago)) first = true) ∧
    (∃ (s : Machine.State) (p : Nat) (noise : Bool) (pe : Bool) (start : Nat), s.mainOn = true ∧ plainPort s p ∧ (s.uartOf p).stuck = false ∧
      (s.uartOf p).held = some (8192 * b2n noise + 1024 * b2n pe, start) ∧ start + charTicks s p 1 ≤ s.time.frc) ∧
    (∃ (s : Machine.State) (p : Nat) (start : Nat) (v : Word), s.mainOn = true ∧ plainPort s p ∧ (s.uartOf p).held = some (0, start) ∧
      R.UARTn_RXTRIM p ∈ s.calib.scDue ∧ List.lookup (R.UARTn_RXTRIM p) s.calib.scPend = some v) ∧
    (∃ (s : Machine.State) (p : Nat) (ago : Nat) (bits : List Samples) (parity : Samples) (stop : Samples) (first : Samples), s.mainOn = true ∧
      s.time.frc - ago < (s.uartOf p).enAt) ∧
    (∃ (s : Machine.State) (p : Nat) (noise : Bool) (pe : Bool) (start : Nat), s.mainOn = true ∧ plainPort s p ∧ s.uartHears p = true ∧
      (s.uartOf p).stuck = false ∧ (s.uartOf p).held = some (8192 * b2n noise + 1024 * b2n pe, start) ∧
      s.field (R.UARTn_BRK_MAX p) 23 0 ≠ 0) ∧
    (∃ (s : Machine.State) (p : Nat), s.mainOn = true ∧ p < 64 ∧ s.uartHears p = true ∧ (s.uartOf p).stuck = false ∧
      (s.uartOf p).held = none ∧ s.field (R.UARTn_BRK_MAX p) 23 0 ≠ 0) :=
  ⟨⟨on 63 { ovrNext := true, armed := 18, rx := List.replicate 255 (0, 0) }, 63, 0, List.replicate 9 (b3 true), b3 true, [true, false, true], b3 false, by and_intros <;> decide +kernel⟩,
    ⟨on 63 {}, 63, 5, List.replicate 8 (b3 true), b3 false, b3 true, b3 false, by and_intros <;> decide +kernel⟩,
    ⟨port 63 {} [(R.UARTn_CTRL 63, 1)], 63, 0, List.replicate 5 (b3 false), b3 true, b3 false, [false, false, true], by and_intros <;> decide +kernel⟩,
    ⟨on 63 { held := some (9216, 7) }, 63, true, true, 7, by decide +kernel⟩,
    ⟨on 63 { held := some (9216, 7) , ovrNext := true}, 63, true, true, 7, by decide +kernel⟩,
    ⟨on 63 { inBreak := true }, 63, 0x100000000, by decide +kernel⟩,
    ⟨port 63 {} [(R.UARTn_CTRL 63, 1), (R.UARTn_BRK_MAX 63, 1)], 63, by decide +kernel⟩,
    ⟨on 63 { stuck := true }, 63, by decide +kernel⟩,
    ⟨port 63 { rx := [(5, 0)] } [(R.UARTn_CTRL 63, 1), (R.UARTn_FIFO_CTRL 63, 0x10000)], 63, by decide +kernel⟩,
    ⟨on 63 {}, 63, by decide +kernel⟩,
    ⟨port 63 {} [(R.UARTn_CTRL 63, 1), (R.UARTn_FMT 63, 0x20123)], 63, 0, List.replicate 8 (b3 true), b3 true, b3 true, [true, true, false, true, true, true], by decide +kernel⟩,
    ⟨{ on 63 { held := some (9216, 7) } with time := { s0.time with frc := 10000000 } }, 63, true, true, 7, by decide +kernel⟩,
    ⟨trimS, 63, 7, 0xFFFFFFFF, by decide +kernel⟩,
    ⟨on 63 { enAt := 1 }, 63, 0, [], b3 true, b3 true, b3 false, by decide +kernel⟩,
    ⟨port 63 { held := some (0, 7) } [(R.UARTn_CTRL 63, 1), (R.UARTn_BRK_MAX 63, 1)], 63, false, false, 7, by decide +kernel⟩,
    ⟨port 63 { inBreak := true, breakFrom := 9 } [(R.UARTn_CTRL 63, 1), (R.UARTn_BRK_MAX 63, 0xFFFFFF)], 63, by decide +kernel⟩⟩

theorem witness_UartHost :
    (∃ (s : Machine.State) (p : Nat) (e : Nat) (start : Int) (rest : List (Nat × Int)), s.mainOn = true ∧ p < 64 ∧ s.uartOwner p = 0 ∧
      s.uartInert p = false ∧ (s.uartOf p).rx = (e, start) :: rest) ∧
    (∃ (s : Machine.State) (p : Nat), s.mainOn = true ∧ p < 64 ∧ (s.uartOf p).rx = []) ∧
    (∃ (s : Machine.State) (p : Nat), s.mainOn = true ∧ p < 64) ∧
    (∃ (s : Machine.State) (p : Nat) (v : Word), s.mainOn = true ∧ p < 64 ∧ List.lookup (State.uartKey p) s.posted = none ∧
      s.uartOwner p = 0 ∧ s.uartInert p = false ∧ (s.uartOf p).tx.length < 256 ∧ s.unitFor p 1 = none) ∧
    (∃ (s : Machine.State) (p : Nat), s.mainOn = true ∧ p < 64 ∧ List.lookup (State.uartKey p) s.posted = none) ∧
    (∃ (s : Machine.State) (p : Nat), s.mainOn = true ∧ p < 64 ∧ List.lookup (State.uartKey p) s.posted = none ∧ (s.uartOf p).shifter.isSome = true) ∧
    (∃ (s : Machine.State) (p : Nat), s.mainOn = true ∧ p < 64 ∧ List.lookup (State.uartKey p) s.posted = none ∧ (s.uartOf p).shifter = none ∧
      (s.uartOf p).driver = false ∧ (s.uartOf p).idleSeen = false) ∧
    (∃ (s : Machine.State) (p : Nat), s.mainOn = true ∧ p < 64 ∧ (List.lookup (State.uartKey p) s.posted).isSome = true) ∧
    (∃ (s : Machine.State) (p : Nat) (e : Nat) (rest : List Nat), s.mainOn = true ∧ p < 64 ∧ s.uartEn p = true ∧ (s.uartOf p).packets = [] ∧
      (s.uartOf p).tx = e :: rest ∧ s.outputsOn = true ∧ s.flag (R.UARTn_CTRL p) 4 = false ∧ s.flag (R.UARTn_CTRL p) 5 = false ∧
      s.field (R.UARTn_CTRL p) 7 6 = 0) ∧
    (∃ (s : Machine.State) (p : Nat) (e : Nat) (rest : List Nat), s.mainOn = true ∧ p < 64 ∧ s.uartEn p = true ∧ (s.uartOf p).packets = [] ∧
      (s.uartOf p).tx = e :: rest ∧ s.outputsOn = true ∧ s.flag (R.UARTn_CTRL p) 4 = false ∧ s.flag (R.UARTn_CTRL p) 5 = false ∧
      s.field (R.UARTn_CTRL p) 7 6 = 0) ∧
    (∃ (s : Machine.State) (p : Nat) (e : Nat) (rest : List Nat), s.mainOn = true ∧ p < 64 ∧ s.uartEn p = true ∧ (s.uartOf p).packets = [] ∧
      (s.uartOf p).tx = e :: rest ∧ (s.outputsOn = false ∨ s.flag (R.UARTn_CTRL p) 4 = true) ∧ (s.uartOf p).shifter = none) ∧
    (∃ (s : Machine.State) (p : Nat), s.mainOn = true ∧ p < 64 ∧ (s.uartOf p).tx = [] ∧ (s.uartOf p).packets = [] ∧
      (s.uartOf p).idleSeen = false ∧ s.flag (R.UARTn_CTRL p) 4 = false ∧ s.flag (R.UARTn_CTRL p) 5 = false) ∧
    (∃ (s : Machine.State) (p : Nat) (ago : Nat) (bits : List Samples) (parity : Samples) (stop : Samples) (first : Samples), s.mainOn = true ∧
      p < 64 ∧ s.uartOwner p = 0 ∧ s.unitFor p 2 = none ∧ (s.uartOf p).rx.length = 256 ∧ s.uartHears p = true ∧ (s.uartOf p).stuck = false ∧
      (s.uartOf p).inBreak = false ∧ (s.uartOf p).held = none ∧ (s.uartOf p).enAt ≤ s.time.frc - ago ∧
      State.lineBit (s.formatAt p (s.time.frc - ago)) first = false ∧ State.lineBit (s.formatAt p (s.time.frc - ago)) stop = true) :=
  ⟨⟨on 63 { rx := [(0x3FFF, 9)], armed := 31, summary := 31 }, 63, 0x3FFF, 9, [], by decide +kernel⟩,
    ⟨on 63 { armed := 31, summary := 31 }, 63, by decide +kernel⟩,
    ⟨on 63 { armed := 31, summary := 30 }, 63, by decide +kernel⟩,
    ⟨on 63 { tx := List.replicate 255 0 }, 63, 0xFFFFFFFF, by decide +kernel⟩,
    ⟨on 63 { tx := [1], rx := [(1, 1)] }, 63, by decide +kernel⟩,
    ⟨on 63 { tx := [1], shifter := some 5 }, 63, by decide +kernel⟩,
    ⟨on 63 { tx := [1], idleSeen := false }, 63, by decide +kernel⟩,
    ⟨{ on 63 { tx := [1] } with posted := [(State.uartKey 63, (0, 0))] }, 63, by decide +kernel⟩,
    ⟨on 63 { tx := [0x9FF, 1] }, 63, 0x9FF, [1], by and_intros <;> decide +kernel⟩,
    ⟨{ on 63 { tx := [0x800], shifter := some 1, driver := true, sentEnds := 7, sentDiv := 160000 } with time := { s0.time with frc := 9 } }, 63, 0x800, [], by and_intros <;> decide +kernel⟩,
    ⟨port 63 { tx := [0x9FF, 1] } [(R.UARTn_CTRL 63, 0x11), (R.UARTn_FMT 63, 0x23)], 63, 0x9FF, [1], by decide +kernel⟩,
    ⟨on 63 { shifter := some 1, driver := true, sentEnds := 99, sentDiv := 160000, idleSeen := false }, 63, by decide +kernel⟩,
    ⟨on 63 { rx := List.replicate 256 (0, 0) }, 63, 0, List.replicate 8 (b3 true), b3 true, b3 true, b3 false, by and_intros <;> decide +kernel⟩⟩

theorem witness_CheckUnits :
    (∃ (s : Machine.State) (n : Nat) (a : Nat) (r : Nat), s.field (R.CHECKn_CTRL n) 2 0 = a ∧
      (a, r) ∈ [(0, 3421780262), (1, 3808858755), (2, 10673), (3, 244), (4, 49), (5, 477), (7, 3808858755)]) ∧
    (∃ (s : Machine.State) (n : Nat) (a : Nat) (r : Nat), s.field (R.CHECKn_CTRL n) 2 0 = a ∧
      (a, r) ∈ [(0, 3421780262), (1, 3808858755), (2, 10673), (3, 244), (4, 49), (5, 477), (7, 3808858755)]) ∧
    (∃ (s : Machine.State) (n : Nat) (a : Nat) (r : Nat), s.field (R.CHECKn_CTRL n) 2 0 = a ∧
      (a, r) ∈ [(0, 3421780262), (1, 3808858755), (2, 10673), (3, 244), (4, 49), (5, 477), (7, 3808858755)]) ∧
    (∃ (s : Machine.State) (n : Nat) (a : Nat) (r : Nat), s.field (R.CHECKn_CTRL n) 2 0 = a ∧
      (a, r) ∈ [(0, 3421780262), (1, 3808858755), (2, 10673), (3, 244), (4, 49), (5, 477), (7, 3808858755)]) ∧
    (∃ (s : Machine.State) (n : Nat) (a : Nat) (r : Nat), s.field (R.CHECKn_CTRL n) 2 0 = a ∧
      (a, r) ∈ [(0, 3421780262), (1, 3808858755), (2, 10673), (3, 244), (4, 49), (5, 477), (7, 3808858755)]) ∧
    (∃ (s : Machine.State) (n : Nat) (a : Nat) (r : Nat), s.field (R.CHECKn_CTRL n) 2 0 = a ∧
      (a, r) ∈ [(0, 3421780262), (1, 3808858755), (2, 10673), (3, 244), (4, 49), (5, 477), (7, 3808858755)]) ∧
    (∃ (s : Machine.State) (n : Nat) (a : Nat) (x : CheckAlg), s.field (R.CHECKn_CTRL n) 2 0 = a ∧
      (a, x) ∈ [(0, { w := 32, poly := 79764919, init := 4294967295, refin := true, refout := true, xorout := 4294967295 }), (1, { w := 32, poly := 517762881, init := 4294967295, refin := true, refout := true, xorout := 4294967295 }), (2, { w := 16, poly := 4129, init := 65535, refin := false, refout := false, xorout := 0 }), (3, { w := 8, poly := 7, init := 0, refin := false, refout := false, xorout := 0 }), (4, { w := 8, poly := 0, init := 0, refin := false, refout := false, xorout := 0 }), (5, { w := 16, poly := 0, init := 0, refin := false, refout := false, xorout := 0 }), (7, { w := 32, poly := 517762881, init := 4294967295, refin := true, refout := true, xorout := 4294967295 })]) ∧
    (∃ (s : Machine.State) (n : Nat) (a : Nat) (x : CheckAlg), s.field (R.CHECKn_CTRL n) 2 0 = a ∧
      (a, x) ∈ [(0, { w := 32, poly := 79764919, init := 4294967295, refin := true, refout := true, xorout := 4294967295 }), (1, { w := 32, poly := 517762881, init := 4294967295, refin := true, refout := true, xorout := 4294967295 }), (2, { w := 16, poly := 4129, init := 65535, refin := false, refout := false, xorout := 0 }), (3, { w := 8, poly := 7, init := 0, refin := false, refout := false, xorout := 0 }), (4, { w := 8, poly := 0, init := 0, refin := false, refout := false, xorout := 0 }), (5, { w := 16, poly := 0, init := 0, refin := false, refout := false, xorout := 0 }), (7, { w := 32, poly := 517762881, init := 4294967295, refin := true, refout := true, xorout := 4294967295 })]) ∧
    (∃ (s : Machine.State) (n : Nat) (w : Nat), s.field (R.CHECKn_CTRL n) 2 0 = 6 ∧ s.field (R.CHECKn_CTRL n) 21 16 = w ∧ 0 < w ∧ w ≤ 32) ∧
    (∃ (s : Machine.State) (n : Nat) (w : Nat), s.field (R.CHECKn_CTRL n) 2 0 = 6 ∧ s.field (R.CHECKn_CTRL n) 21 16 = w ∧ 0 < w ∧ w ≤ 32) ∧
    (∃ (s : Machine.State) (n : Nat) (b : Nat), b < 256 ∧ s.field (R.CHECKn_CTRL n) 2 0 = 4) ∧
    (∃ (s : Machine.State) (n : Nat) (b : Nat), b < 256 ∧ s.field (R.CHECKn_CTRL n) 2 0 = 5) ∧
    (∃ (s : Machine.State) (i : Initiator) (n : Nat) (v : Word), s.mainOn = true ∧ checkReaches i n ∧ s.flag (R.CHECKn_CTRL n) 31 = true ∧
      (s.unitOf n).dir = 0) ∧
    (∃ (s : Machine.State) (i : Initiator) (n : Nat) (v : Word), s.mainOn = true ∧ checkReaches i n ∧ s.flag (R.CHECKn_CTRL n) 31 = true ∧
      (s.unitOf n).dir = 0) ∧
    (∃ (s : Machine.State) (i : Initiator) (n : Nat) (v : Word), s.mainOn = true ∧ checkReaches i n ∧ s.flag (R.CHECKn_CTRL n) 31 = true ∧
      (s.unitOf n).dir = 0) ∧
    (∃ (s : Machine.State) (i : Initiator) (n : Nat), s.mainOn = true ∧ checkReaches i n) ∧
    (∃ (s : Machine.State) (i : Initiator) (n : Nat) (p : Nat), s.mainOn = true ∧ checkReaches i n ∧
      s.unitOf n = { s.unitOf n with dir := 1, port := p } ∧ s.uartInert p = false ∧ (s.uartOf p).tx.length + s.checkK n ≤ 256) ∧
    (∃ (s : Machine.State) (i : Initiator) (n : Nat) (p : Nat), s.mainOn = true ∧ checkReaches i n ∧
      s.unitOf n = { s.unitOf n with dir := 1, port := p } ∧ s.uartInert p = true) ∧
    (∃ (s : Machine.State) (i : Initiator) (n : Nat) (p : Nat), s.mainOn = true ∧ checkReaches i n ∧
      s.unitOf n = { s.unitOf n with dir := 1, port := p } ∧ s.uartInert p = false ∧ 256 < (s.uartOf p).tx.length + s.checkK n) ∧
    (∃ (s : Machine.State) (n : Nat) (u : CheckUnit), s.mainOn = true ∧ n < 8 ∧ s.unitOf n = u ∧ u.dir = 2 ∧ s.checkK n < u.chars ∧
      u.bad = false ∧ (List.map (fun x => BitVec.ofNat 8 x.fst) u.held = s.checkOrder n (s.checkResult n))) ∧
    (∃ (s : Machine.State) (n : Nat) (u : CheckUnit), s.mainOn = true ∧ n < 8 ∧ s.unitOf n = u ∧ u.dir = 2 ∧ 0 < u.chars ∧
      (u.chars ≤ s.checkK n ∨ u.bad = true ∨ List.map (fun x => BitVec.ofNat 8 x.fst) u.held ≠ s.checkOrder n (s.checkResult n))) ∧
    (∃ (s : Machine.State) (i : Initiator) (n : Nat) (v : Word), s.mainOn = true ∧ (i = Initiator.host ∨ i = Initiator.partner) ∧ n < 4) ∧
    (∃ (s : Machine.State) (i : Initiator) (n : Nat) (v : Word), s.mainOn = true ∧ checkReaches i n ∧ s.flag (R.CHECKn_CTRL n) 31 = false) :=
  ⟨⟨vals 0, 7, 0, 0xCBF43926, by decide +kernel⟩,
    ⟨vals 2, 7, 2, 0x29B1, by decide +kernel⟩,
    ⟨vals 5, 7, 5, 0x01DD, by decide +kernel⟩,
    ⟨vals 7, 7, 7, 0xE3069283, by decide +kernel⟩,
    ⟨vals 3, 7, 3, 0xF4, by decide +kernel⟩,
    ⟨vals 4, 7, 4, 0x31, by decide +kernel⟩,
    ⟨vals 2, 7, 2, ⟨16, 0x1021, 0xFFFF, false, false, 0⟩, by decide +kernel⟩,
    ⟨vals 7, 7, 7, ⟨32, 0x1EDC6F41, 0xFFFFFFFF, true, true, 0xFFFFFFFF⟩, by decide +kernel⟩,
    ⟨st [(R.CHECKn_CTRL 7, 0x80200306), (R.CHECKn_POLY 7, 0xFFFFFFFF), (R.CHECKn_XOROUT 7, 7)], 7, 32, by decide +kernel⟩,
    ⟨st [(R.CHECKn_CTRL 7, 0x80010306), (R.CHECKn_POLY 7, 0xFFFFFFFF), (R.CHECKn_XOROUT 7, 7)], 7, 1, by decide +kernel⟩,
    ⟨(vals 4).setReg (R.CHECKn_VALUE 7) 0xFFFFFF01, 7, 255, by decide +kernel⟩,
    ⟨(vals 5).setReg (R.CHECKn_VALUE 7) 0xFFFFFFFF, 7, 255, by decide +kernel⟩,
    ⟨vals 0, .host, 7, 0xFFFFFFFF, by decide +kernel⟩,
    ⟨vals 6, .host, 7, 0xFFFFFFFF, by decide +kernel⟩,
    ⟨vals 5, .host, 7, 0xFFFFFFFF, by decide +kernel⟩,
    ⟨vals 2, .host, 7, by decide +kernel⟩,
    ⟨att 0 { dir := 1, port := 63 } 252, .host, 7, 63, by decide +kernel⟩,
    ⟨(att 0 { dir := 1, port := 63 } 256).setReg (R.UARTn_CTRL 62) 0x101, .host, 7, 63, by decide +kernel⟩,
    ⟨att 0 { dir := 1, port := 63 } 253, .host, 7, 63, by decide +kernel⟩,
    ⟨(att 0 um 0).setReg (R.CHECKn_VALUE 7) 0xFFFFFFFF, 7, um, by decide +kernel⟩,
    ⟨(att 0 um 0).setReg (R.CHECKn_VALUE 7) 0xFFFFFFFE, 7, um, by decide +kernel⟩,
    ⟨s0, .partner, 3, 1, by decide +kernel⟩,
    ⟨st [(R.CHECKn_CTRL 4, 0)], .host, 4, 1, by decide +kernel⟩⟩

theorem witness_HubSentences :
    (∃ (s : Machine.State) (p : Nat) (q : Nat) (n : Nat) (x : Sentence) (r : Rule) (rest : List Sentence), s.mainOn = true ∧
      s.hub.ready = x :: rest ∧ x.port = p ∧ sentenceOk x.chars = true ∧ sentenceSum x.chars = some true ∧ List.length x.chars ≤ 82 ∧
      (List.find? (fun i => match x.rules[i]? with | some y => y.matches (keyOf x.chars) p | none => false) (List.range x.rules.length) = some n) ∧
      x.rules[n]? = some r ∧ r.sel = 0 ∧ r.minIvl = 0 ∧ r.action = 1 ∧ q < 64 ∧ r.dstPorts = 2 ^ q ∧ s.notHub q = false ∧
      (s.txqOf q).length < 8) ∧
    (∃ (s : Machine.State) (p : Nat) (x : Sentence) (rest : List Sentence), s.mainOn = true ∧ s.hub.ready = x :: rest ∧ x.port = p ∧
      sentenceOk x.chars = true ∧ sentenceSum x.chars = some false) ∧
    (∃ (s : Machine.State) (p : Nat) (x : Sentence) (rest : List Sentence), s.mainOn = true ∧ s.hub.ready = x :: rest ∧ x.port = p ∧
      sentenceOk x.chars = false) ∧
    (∃ (s : Machine.State) (p : Nat) (x : Sentence) (rest : List Sentence), s.mainOn = true ∧ s.hub.ready = x :: rest ∧ x.port = p ∧
      sentenceOk x.chars = true ∧ sentenceSum x.chars = some true ∧ List.length x.chars ≤ 82 ∧ x.rules = [] ∧ s.flag R.HUB_CTRL 4 = false) ∧
    (∃ (s : Machine.State) (p : Nat) (prio : Nat) (l : Bytes) (rest : List (Nat × Bytes)), s.mainOn = true ∧ s.txqOf p = (prio, l) :: rest ∧
      (∀ (y : Nat × Bytes), y ∈ rest → y.fst ≤ prio) ∧ s.notHub p = false ∧ (s.uartOf p).tx.length + List.length l ≤ 256) ∧
    (∃ (s : Machine.State) (b : HubLoad), s.mainOn = true ∧ s.hub.next = some b ∧ b.ruleErr = none ∧ b.mapErr = none) ∧
    (∃ (s : Machine.State) (b : HubLoad) (c : Nat) (i : Nat), s.mainOn = true ∧ s.hub.next = some b ∧ b.ruleErr = some (c, i) ∧ b.mapErr = none) :=
  ⟨⟨hubS sent [{ rl with en := false }, rl], 63, 63, 1, withRules (sn sent) [{ rl with en := false }, rl], rl, [], by and_intros <;> decide +kernel⟩,
    ⟨hubS bads [], 63, sn bads, [], by decide +kernel⟩,
    ⟨hubS [0x24, 0x0D, 0x0A] [], 63, sn [0x24, 0x0D, 0x0A], [], by decide +kernel⟩,
    ⟨hubS sent [], 63, sn sent, [], by decide +kernel⟩,
    ⟨queued, 63, 7, sent, [(7, bads)], by decide +kernel⟩,
    ⟨{ s0 with hub := { s0.hub with next := some { bank := {}, ruleErr := none, mapErr := none } } }, { bank := {}, ruleErr := none, mapErr := none }, by decide +kernel⟩,
    ⟨{ s0 with hub := { s0.hub with next := some { bank := {}, ruleErr := some (3, 0xFFFF), mapErr := none } } }, { bank := {}, ruleErr := some (3, 0xFFFF), mapErr := none }, 3, 0xFFFF, by decide +kernel⟩⟩

theorem witness_SignalMap :
    (∃ (s : Machine.State) (k : Nat), s.mainOn = true ∧ s.flag R.SIGMAP_CTRL 0 = true ∧ s.hub.live.entries = []) ∧
    (∃ (s : Machine.State) (k : Nat) (m : MapEntry), s.mainOn = true ∧ s.flag R.SIGMAP_CTRL 0 = true ∧ s.hub.live.entries = [m] ∧ 1 ≤ k ∧
      m.srcKind = 4 ∧ m.dstKind = 4 ∧ m.maxAge = 0 ∧ m.lo ≤ m.hi ∧ m.srcA < 8 ∧ s.flag (R.INGn_A_CTRL m.srcA) 0 = true) ∧
    (∃ (s : Machine.State) (k : Nat), s.mainOn = true ∧ s.flag R.SIGMAP_CTRL 0 = true ∧ k < s.hub.live.entries.length) :=
  ⟨⟨mapOn, 0, by decide +kernel⟩,
    ⟨{ mapOn with hub := { s0.hub with live := { entries := [me] } } }, 1, me, by and_intros <;> decide +kernel⟩,
    ⟨{ mapOn with hub := { s0.hub with live := { entries := [me] } } }, 0, by decide +kernel⟩⟩

end F

namespace G

def s0 : State := State.reset
/-- ring 63, owned by a PCIe host -/
def ringS (x : Ring) (l : List (Nat × Word)) : State :=
  { st ([(R.HOST_RINGr_CMD_LO 63, 0x1000), (R.HOST_RINGr_CPL_LO 63, 0x4000), (R.HOST_RINGr_CMD_HI 63, 0xFFFFFFFF)] ++ l) with host := { s0.host with ring := [(63, x)], up := true } }
def core : List (Nat × Word) := [(R.HOST_RINGr_CTRL 63, 0x10), (R.HOST_RINGr_CMD_HI 63, 0)]
def run_ (l : List (Nat × Word)) : State := ringS { state := .running, cplTail := 65535, cplHead := 65534, fetch := 65535, cmdTail := 65535 } l
def cmd (op : Nat) (args : List Word) (len : Nat) (started : Bool) (w : Work) : Cmd :=
  { idx := 65535, desc := { opcode := op, atEpoch := false, irq := true, fence := true, tag := 0xBEEF, len := len, epoch := 1, addr := 0xFFFFFFFFFFFFFFFE, addr2 := 0x3EFFFFFF0, args := args }, started := started, work := w }
def toFetch (l : List (Nat × Word)) : State := ringS { state := .running, cmdTail := 0, fetch := 65535, cplHead := 65535 } l
def withDesc : State := { toFetch core with dram := [(0x13C0, 7)] }
def withDescH : State := let s := toFetch []; { s with host := { s.host with mem := [(0xFFFFFFFF000013C0, 9)] } }
def rdy (op : Nat) (args : List Word) (len : Nat) (l : List (Nat × Word)) : State := ringS { state := .running, cplTail := 65535, irqs := [65520], cmds := [cmd op args len false .idle] } l
def busy (op : Nat) (w : Work) (l : List (Nat × Word)) : State := ringS { state := .running, cplTail := 65535, irqs := [65520], cmds := [cmd op [] 16 true w] } l
def bar (l : List (Nat × Word)) : State := { st l with host := { s0.host with up := true } }
def mac (n : Nat) (m : MacPort) (l : List (Nat × Word)) : State := { st ((R.MACn_CTRL n, 7) :: l) with mac := { port := [(n, m)] } }
def upM : MacPort := { up := true, speed := 1 }
def fr : Bytes := List.replicate 6 0xFF ++ List.replicate 54 1
def rxp (n : Nat) : State := { mac n upM [(R.HOST_PORTp_RXRING n, 63), (R.HOST_CTRL, 2), (R.HOST_RINGr_CPL_LO 63, 0x4000)] with host := { s0.host with up := true, ring := [(63, { state := .running, cmds := [cmd 9 [] 64 true .rxPost] })] } }
def fc (n mode : Nat) (m : MacPort) (l : List (Nat × Word)) : State := mac n m ((R.MACn_FC_CTRL n, BitVec.ofNat 32 (0xFFFFFF00 + mode)) :: l)
def q (k : Nat) (u : TxUse) : TxFrame := { queue := k, bytes := [1, 2, 3], use := u }
def txs (n : Nat) : State := { rxp n with mac := { port := [(n, { upM with txq := [q 4 (.host 63 65535)] })] }, host := { s0.host with up := true, ring := [(63, { state := .running, cmds := [cmd 8 [] 64 true (.tx n 4)] })] } }
def long : TxFrame := { queue := 0, bytes := List.replicate 1515 7, use := .plain }
def silent (u : TxUse) (l : List (Nat × Word)) : State := mac 31 { upM with txq := [q 5 u] } ([(R.VCN_CTRL, 5), (R.VCN_KEY_STATE, 2)] ++ l)
def lateS : State := { mac 35 { upM with txq := [q 3 (.sacn (some 3))] } [(R.FIX_CTRL, 3)] with heel := { s0.heel with eps := [{ epoch := 4, t := 65536000 }] } }
def cutting : State := mac 36 { upM with bulk := true, bulkLeft := 128, txq := [q 7 .plain] } [(R.MACn_PREEMPT 36, 0x8003)]
def rep : LinkReport := { speed := 1, fec := 3, anDone := true, block := true, pauseAdv := 3 }
def ver (n tries : Nat) : State := mac n { upM with verify := 2, verifyTries := tries, verifyAt := 5 } [(R.MACn_PREEMPT n, 1)]
def dn (rx : Nat) : State := mac 33 { upM with dsRx := rx } [(R.MACn_LP 33, 1)]
def low : State := mac 36 { upM with downshifted := true, dsRx := 2000000000000 } []
def keyed : State := { s0 with sec := { s0.sec with slots := [(63, { engine := 7, key := [1], origin := 0 })] } }

theorem witness_Memories_2 :
    (∃ (s : Machine.State) (r : Nat) (a : Nat) (l : Bytes), List.length l ≤ 2 ^ 64 ∧
      (s.coreOwned r = true → a + List.length l ≤ State.fwBase ∧ ∀ (k : Nat), k < List.length l → s.protectedAt (a + k) = false)) :=
  ⟨s0, 0, 0xFFFFFFFFFFFFFFFF, [1, 2], by decide +kernel⟩

theorem witness_RingDoorbells :
    (∃ (s : Machine.State) (r : Nat) (v : BitVec 16), s.mainOn = true ∧ r < 64 ∧ (s.ringOf r).state = RingState.running ∧
      (v.toNat + 65536 - (s.ringOf r).fetch) % 65536 ≤ 2 ^ s.ringK r) ∧
    (∃ (s : Machine.State) (r : Nat) (v : BitVec 16), s.mainOn = true ∧ r < 64 ∧ (s.ringOf r).state = RingState.running ∧
      2 ^ s.ringK r < (v.toNat + 65536 - (s.ringOf r).fetch) % 65536) ∧
    (∃ (s : Machine.State) (r : Nat) (v : BitVec 16), s.mainOn = true ∧ r < 64 ∧ (s.ringOf r).state = RingState.running ∧
      ((s.ringOf r).cplTail + 65536 - v.toNat) % 65536 ≤ 2 ^ s.ringK r) ∧
    (∃ (s : Machine.State) (r : Nat) (v : BitVec 16), s.mainOn = true ∧ r < 64 ∧ (s.ringOf r).state = RingState.running ∧
      ((s.ringOf r).cplTail + 65536 - v.toNat) % 65536 ≤ 2 ^ s.ringK r) ∧
    (∃ (s : Machine.State) (r : Nat) (v : BitVec 16), s.mainOn = true ∧ r < 64 ∧ (s.ringOf r).state ≠ RingState.running) ∧
    (∃ (s : Machine.State) (r : Nat), s.mainOn = true ∧ r < 64 ∧ (s.ringOf r).state = RingState.disabled ∧ s.cmdBase r % 64 = 0 ∧
      s.cplBase r % 32 = 0 ∧ (s.coreOwned r = true → s.cmdBase r + 64 * 2 ^ s.ringK r ≤ State.fwBase ∧
      s.cplBase r + 32 * 2 ^ s.ringK r ≤ State.fwBase)) ∧
    (∃ (s : Machine.State) (r : Nat), s.mainOn = true ∧ r < 64 ∧ (s.ringOf r).state = RingState.disabled ∧ s.cmdBase r % 64 = 0 ∧
      s.cplBase r % 32 = 0 ∧ (s.coreOwned r = true → s.cmdBase r + 64 * 2 ^ s.ringK r ≤ State.fwBase ∧
      s.cplBase r + 32 * 2 ^ s.ringK r ≤ State.fwBase)) ∧
    (∃ (s : Machine.State) (r : Nat), s.mainOn = true ∧ r < 64 ∧ (s.ringOf r).state = RingState.disabled ∧ s.cmdBase r % 64 ≠ 0) ∧
    (∃ (s : Machine.State) (r : Nat), r < 64) ∧
    (∃ (s : Machine.State) (r : Nat), s.mainOn = true ∧ r < 64 ∧ (s.ringOf r).state = RingState.running ∧
      (∀ (c : Cmd), c ∈ (s.ringOf r).cmds → c.started = false)) ∧
    (∃ (s : Machine.State) (r : Nat) (v : BitVec 16), s.mainOn = true ∧ r < 64 ∧ (s.ringOf r).state ≠ RingState.running) ∧
    (∃ (s : Machine.State) (r : Nat), s.mainOn = true ∧ (s.ringOf r).state ≠ RingState.disabled) ∧
    (∃ (s : Machine.State) (r : Nat), s.mainOn = true ∧ (s.ringOf r).state ≠ RingState.running ∧ (s.ringOf r).state ≠ RingState.stopped) :=
  ⟨⟨run_ [], 63, 15, by decide +kernel⟩,
    ⟨run_ [], 63, 16, by decide +kernel⟩,
    ⟨run_ [], 63, 65535, by decide +kernel⟩,
    ⟨run_ [], 63, 65519, by decide +kernel⟩,
    ⟨ringS {} [], 63, 0, by decide +kernel⟩,
    ⟨ringS { err := 3, cplTail := 7 } [], 63, by decide +kernel⟩,
    ⟨ringS { err := 3, cplTail := 7 } core, 63, by decide +kernel⟩,
    ⟨ringS {} [(R.HOST_RINGr_CMD_LO 63, 32)], 63, by decide +kernel⟩,
    ⟨ringS { cplHead := 7, cmdTail := 0xFFFF } [], 63, by decide +kernel⟩,
    ⟨ringS { state := .running, cmds := [cmd 1 [] 0 false .idle] } [(R.HOST_RINGr_CTRL 63, 1)], 63, by decide +kernel⟩,
    ⟨ringS { state := .stopped } [], 63, 65535, by decide +kernel⟩,
    ⟨run_ [], 63, by decide +kernel⟩,
    ⟨ringS { state := .draining } [], 63, by decide +kernel⟩⟩

theorem witness_RingLife :
    (∃ (s : Machine.State) (r : Nat), s.mainOn = true ∧ r < 64 ∧ (s.ringOf r).state = RingState.draining ∧
      ((s.ringOf r).cmds = [] ∨ (s.ringOf r).err = 3) ∧
      (∀ (o : FarOp), o ∈ s.far.ops → Option.map (fun x => x.fst) o.owner = some r ∨ o.posted = false ∧ State.opOver o = false ∧
      ∀ (p : Piece), p ∈ o.pieces → p.sentAt.isSome = true)) ∧
    (∃ (s : Machine.State) (r : Nat) (f : Bool), s.mainOn = true ∧ s.fetchRing = some r ∧ (s.coreOwned r = true ∨ f = false ∧
      s.host.up = true) ∧ (∀ (c : Cmd), c ∈ (s.ringOf r).cmds → c.started = true) ∧
      State.opcodeKnown (State.descOf (s.ownRead r (s.cmdBase r + 64 * ((s.ringOf r).fetch % 2 ^ s.ringK r)) 64)).opcode = true) ∧
    (∃ (s : Machine.State) (r : Nat) (f : Bool), s.mainOn = true ∧ s.fetchRing = some r ∧ (s.coreOwned r = true ∨ f = false ∧
      s.host.up = true) ∧ (∀ (c : Cmd), c ∈ (s.ringOf r).cmds → c.started = true) ∧
      State.opcodeKnown (State.descOf (s.ownRead r (s.cmdBase r + 64 * ((s.ringOf r).fetch % 2 ^ s.ringK r)) 64)).opcode = true) ∧
    (∃ (s : Machine.State) (r : Nat), s.mainOn = true ∧ s.fetchRing = some r ∧ s.coreOwned r = false) ∧
    (∃ (s : Machine.State) (f : Bool), s.mainOn = true ∧ s.fetchRing = none) ∧
    (∃ (s : Machine.State) (r : Nat), s.mainOn = true ∧ (s.ringOf r).state ≠ RingState.draining ∧ s.far.ops = []) :=
  ⟨⟨ringS { state := .draining } [], 63, by decide +kernel⟩,
    ⟨withDesc, 63, true, by decide +kernel⟩,
    ⟨withDescH, 63, false, by decide +kernel⟩,
    ⟨toFetch [], 63, by decide +kernel⟩,
    ⟨s0, true, by decide +kernel⟩,
    ⟨s0, 63, by decide +kernel⟩⟩

theorem witness_RingOpcodes :
    (∃ (s : Machine.State) (r : Nat) (c : Cmd), s.mainOn = true ∧ readyCmd s r 1 c) ∧
    (∃ (s : Machine.State) (r : Nat) (c : Cmd), s.mainOn = true ∧ readyCmd s r 1 c) ∧
    (∃ (s : Machine.State) (r : Nat) (c : Cmd), s.mainOn = true ∧ readyCmd s r 2 c ∧ c.desc.len = 4) ∧
    (∃ (s : Machine.State) (r : Nat) (c : Cmd), s.mainOn = true ∧ readyCmd s r 3 c ∧ 0 < c.desc.len ∧ c.desc.len ≤ 1073741824 ∧
      c.desc.addr2 + c.desc.len ≤ State.fwBase ∧ (s.coreOwned r = true → c.desc.addr + c.desc.len ≤ State.fwBase) ∧
      s.protectedRange c.desc.addr2 c.desc.len = false) ∧
    (∃ (s : Machine.State) (r : Nat) (c : Cmd), s.mainOn = true ∧ readyCmd s r 4 c ∧ 0 < c.desc.len ∧ c.desc.len ≤ 1073741824 ∧
      c.desc.addr2 + c.desc.len ≤ State.fwBase ∧ s.coreOwned r = false) ∧
    (∃ (s : Machine.State) (r : Nat) (c : Cmd), s.mainOn = true ∧ readyCmd s r 3 c ∧ c.desc.len = 0) ∧
    (∃ (s : Machine.State) (r : Nat) (d0 : Nat) (c : Cmd) (l : Bytes), s.mainOn = true ∧ onlyCmd s r c ∧ c.started = true ∧
      c.work = Work.dma l d0 ∧ c.desc.opcode = 3 ∧ (s.coreOwned r = true ∨ s.host.up = true) ∧ c.desc.addr2 + List.length l ≤ State.fwBase ∧
      (∀ (k : Nat), k < List.length l → s.protectedAt (c.desc.addr2 + k) = false)) ∧
    (∃ (s : Machine.State) (r : Nat) (d0 : Nat) (c : Cmd) (l : Bytes), s.mainOn = true ∧ onlyCmd s r c ∧ c.started = true ∧
      c.work = Work.dma l d0 ∧ c.desc.opcode = 4 ∧ s.coreOwned r = false ∧ s.host.up = true) ∧
    (∃ (s : Machine.State) (r : Nat) (d0 : Nat) (c : Cmd) (l : Bytes), s.mainOn = true ∧ onlyCmd s r c ∧ c.started = true ∧
      c.work = Work.dma l d0 ∧ s.coreOwned r = false ∧ (s.ringOf r).state = RingState.running) ∧
    (∃ (s : Machine.State) (r : Nat) (c : Cmd), s.mainOn = true ∧ readyCmd s r 5 c ∧ fld (c.desc.args.getD 0 0) 3 0 = 1 ∧
      c.desc.atEpoch = false ∧ s.calib.run = none ∧ s.calib.valid = true) ∧
    (∃ (s : Machine.State) (r : Nat) (c : Cmd), s.mainOn = true ∧ readyCmd s r 5 c ∧ fld (c.desc.args.getD 0 0) 3 0 = 3 ∧
      c.desc.atEpoch = false ∧ s.calib.run = none) ∧
    (∃ (s : Machine.State) (r : Nat) (c : Cmd), s.mainOn = true ∧ onlyCmd s r c ∧ c.started = false ∧ c.desc.opcode = 6 ∧
      s.host.ring = [(r, s.ringOf r)] ∧ fld (State.arg c 0) 15 0 ≠ 0 ∧ fld (State.arg c 1) 1 0 ≤ 1 ∧
      (s.ringOf r).state = RingState.running) ∧
    (∃ (s : Machine.State) (r : Nat) (c : Cmd), s.mainOn = true ∧ onlyCmd s r c ∧ c.started = false ∧ c.desc.opcode = 6 ∧
      s.host.ring = [(r, s.ringOf r)] ∧ fld (State.arg c 0) 15 0 ≠ 0 ∧ fld (State.arg c 1) 1 0 ≤ 1 ∧
      (s.ringOf r).state = RingState.running) ∧
    (∃ (s : Machine.State) (r : Nat) (c : Cmd), s.mainOn = true ∧ onlyCmd s r c ∧ c.started = false ∧ c.desc.opcode = 6 ∧
      s.host.ring = [(r, s.ringOf r)] ∧ fld (State.arg c 0) 15 0 ≠ 0 ∧ fld (State.arg c 1) 1 0 ≤ 1 ∧
      (s.ringOf r).state = RingState.running) ∧
    (∃ (s : Machine.State) (r : Nat) (c : Cmd), s.mainOn = true ∧ readyCmd s r 7 c ∧ later c.desc.epoch s.time.epoch = true ∧
      (s.ringOf r).state = RingState.running) ∧
    (∃ (s : Machine.State) (r : Nat) (c : Cmd), s.mainOn = true ∧ readyCmd s r 7 c ∧ later c.desc.epoch s.time.epoch = false) ∧
    (∃ (s : Machine.State) (r : Nat) (p : Nat) (q : Nat) (c : Cmd), s.mainOn = true ∧ readyCmd s r 8 c ∧ fld (State.arg c 0) 5 0 = p ∧
      fld (State.arg c 1) 2 0 = q ∧ bit (State.arg c 2) 31 = false ∧ s.macEn p = true ∧ q ≤ 4 ∧ s.bracePort p = false ∧ 14 ≤ c.desc.len ∧
      c.desc.len + 4 ≤ s.maxFrame p) ∧
    (∃ (s : Machine.State) (r : Nat) (c : Cmd), s.mainOn = true ∧ readyCmd s r 9 c ∧ 64 ≤ c.desc.len ∧ (s.ringOf r).state = RingState.running) :=
  ⟨⟨rdy 1 [] 0 [], 63, cmd 1 [] 0 false .idle, by decide +kernel⟩,
    ⟨rdy 1 [] 0 core, 63, cmd 1 [] 0 false .idle, by decide +kernel⟩,
    ⟨rdy 2 [0xFFFFFFFF] 4 [], 63, cmd 2 [0xFFFFFFFF] 4 false .idle, by decide +kernel⟩,
    ⟨rdy 3 [] 16 [], 63, cmd 3 [] 16 false .idle, by decide +kernel⟩,
    ⟨rdy 4 [] 16 [], 63, cmd 4 [] 16 false .idle, by decide +kernel⟩,
    ⟨rdy 3 [] 0 [], 63, cmd 3 [] 0 false .idle, by decide +kernel⟩,
    ⟨busy 3 (.dma [1, 2, 3] 0) [], 63, 0, cmd 3 [] 16 true (.dma [1, 2, 3] 0), [1, 2, 3], by decide +kernel⟩,
    ⟨busy 4 (.dma [1, 2, 3] 0) [], 63, 0, cmd 4 [] 16 true (.dma [1, 2, 3] 0), [1, 2, 3], by decide +kernel⟩,
    ⟨busy 4 (.dma [1, 2, 3] 0) [], 63, 0, cmd 4 [] 16 true (.dma [1, 2, 3] 0), [1, 2, 3], by decide +kernel⟩,
    ⟨{ rdy 5 [1] 0 [] with calib := { s0.calib with valid := true } }, 63, cmd 5 [1] 0 false .idle, by decide +kernel⟩,
    ⟨rdy 5 [3] 0 [(R.CALIB_CMD_STAT, 5)], 63, cmd 5 [3] 0 false .idle, by decide +kernel⟩,
    ⟨rdy 6 [0x8001, 0] 0 [], 63, cmd 6 [0x8001, 0] 0 false .idle, by decide +kernel⟩,
    ⟨rdy 6 [0x7FFE, 1] 0 [], 63, cmd 6 [0x7FFE, 1] 0 false .idle, by decide +kernel⟩,
    ⟨rdy 6 [0xFFFF, 1] 0 [], 63, cmd 6 [0xFFFF, 1] 0 false .idle, by decide +kernel⟩,
    ⟨rdy 7 [] 0 [], 63, cmd 7 [] 0 false .idle, by decide +kernel⟩,
    ⟨{ rdy 7 [] 0 [] with time := { s0.time with epoch := 1 } }, 63, cmd 7 [] 0 false .idle, by decide +kernel⟩,
    ⟨rdy 8 [36, 4] 14 [(R.MACn_CTRL 36, 1)], 63, 36, 4, cmd 8 [36, 4] 14 false .idle, by and_intros <;> decide +kernel⟩,
    ⟨rdy 9 [] 64 [], 63, cmd 9 [] 64 false .idle, by decide +kernel⟩⟩

theorem witness_HostLink :
    (∃ (s : Machine.State) (gen : Nat) (width : Nat) (b : Nat) (m : Bool) (f : Bool), s.mainOn = true ∧ s.unitLost ClockUnit.pcie = false ∧
      gen ∈ [3, 4, 5] ∧ width ∈ [1, 2, 4, 8] ∧ 28 ≤ b ∧ b ≤ 34) ∧
    (∃ (s : Machine.State), s.mainOn = true ∧ s.host.up = true) ∧
    (∃ (s : Machine.State), s.mainOn = true ∧ s.calib.run = none) ∧
    (∃ (s : Machine.State) (o : Nat) (l : Bytes), s.mainOn = true ∧ s.host.up = true ∧ o + List.length l ≤ 2 ^ s.host.bar4 ∧
      0 < List.length l ∧ s.bar4Addr o + List.length l ≤ State.fwBase ∧
      (∀ (k : Nat), k < List.length l → s.protectedAt (s.bar4Addr o + k) = false)) ∧
    (∃ (s : Machine.State) (o : Nat), s.mainOn = true ∧ s.host.up = true ∧ o < 2 ^ s.host.bar4 ∧ s.bar4Addr o + 4 ≤ State.fwBase) ∧
    (∃ (s : Machine.State) (o : Nat) (l : Bytes), s.mainOn = true ∧ s.host.up = true ∧ o < 2 ^ s.host.bar4 ∧ 0 < List.length l ∧
      State.fwBase ≤ s.bar4Addr o) ∧
    (∃ (s : Machine.State) (o : Nat) (n : Nat), s.mainOn = true ∧ s.host.up = true ∧ o < 2 ^ s.host.bar4 ∧ 0 < n ∧ State.fwBase ≤ s.bar4Addr o) :=
  ⟨⟨s0, 5, 8, 34, true, true, by decide +kernel⟩,
    ⟨run_ [], by decide +kernel⟩,
    ⟨run_ [(0x31000, 5), (0x31FFC, 9)], by decide +kernel⟩,
    ⟨bar [(R.HOST_BAR4_WIN_LO, 0xE0000000), (R.HOST_BAR4_WIN_HI, 3)], 0xFFFFFFF, [7], by decide +kernel⟩,
    ⟨bar [(R.HOST_BAR4_WIN_LO, 0xE0000000), (R.HOST_BAR4_WIN_HI, 3)], 0xFFFFFFC, by decide +kernel⟩,
    ⟨bar [(R.HOST_BAR4_WIN_LO, 0xF0000000), (R.HOST_BAR4_WIN_HI, 3)], 0, [7], by decide +kernel⟩,
    ⟨bar [(R.HOST_BAR4_WIN_LO, 0xF0000000), (R.HOST_BAR4_WIN_HI, 3)], 0xFFFFFFF, 4, by decide +kernel⟩⟩

theorem witness_MacReceive :
    (∃ (s : Machine.State) (n : Nat) (r : Nat) (l : Bytes) (c : Cmd), s.mainOn = true ∧ macHears s n ∧ 60 ≤ List.length l ∧
      List.length l + 4 ≤ s.maxFrame n ∧ State.etype l ≠ 34824 ∧ s.macAccepts n l (s.macAddr n) = true ∧ s.msOn n = false ∧
      s.claimed n l = false ∧ s.field (R.HOST_PORTp_RXRING n) 7 0 = r ∧ s.flag R.HOST_CTRL 1 = true ∧ (s.ringOf r).state = RingState.running ∧
      onlyCmd s r c ∧ c.started = true ∧ c.work = Work.rxPost ∧ List.length l ≤ 16384 ∧ List.length l ≤ c.desc.len) ∧
    (∃ (s : Machine.State) (n : Nat) (w : Nat) (l : Bytes), s.mainOn = true ∧ macHears s n ∧ 60 ≤ List.length l ∧
      List.length l + 4 ≤ s.maxFrame n ∧ State.etype l ≠ 34824) ∧
    (∃ (s : Machine.State) (n : Nat) (k : Nat), s.mainOn = true ∧ n < 37 ∧ k < 64) :=
  ⟨⟨rxp 36, 36, 63, fr, cmd 9 [] 64 true .rxPost, by and_intros <;> decide +kernel⟩,
    ⟨(rxp 0).setReg (R.MACn_STATk 0 0) 0xFFFFFFF0, 0, 100, fr, by decide +kernel⟩,
    ⟨st [(R.MACn_STATk 36 63, 5)], 36, 63, by decide +kernel⟩⟩

theorem witness_FlowControl :
    (∃ (s : Machine.State) (n : Nat) (v : Nat) (w : Nat) (q : Nat), s.mainOn = true ∧ macHears s n ∧ s.fcMode n = 1 ∧ s.leashHolds n = false ∧
      (s.macOf n).pause = [] ∧ v < 65536 ∧ 100 * w < v * 512 * s.bitTime n ∧ q < 8 ∧ s.exempt n q = false) ∧
    (∃ (s : Machine.State) (n : Nat) (v : Nat) (w : Nat) (q : Nat) (en : BitVec 8) (times : List Nat), s.mainOn = true ∧ macHears s n ∧
      s.fcMode n = 2 ∧ s.leashHolds n = false ∧ (s.macOf n).pause = [] ∧ times.getD q 0 = v ∧ (∀ (x : Nat), x ∈ times → x < 65536) ∧
      100 * w < v * 512 * s.bitTime n ∧ q < 8 ∧ en.getLsbD q = true ∧ s.exempt n q = false) ∧
    (∃ (s : Machine.State) (n : Nat) (v : Nat) (w : Nat), s.mainOn = true ∧ macHears s n ∧ s.leashHolds n = true) ∧
    (∃ (s : Machine.State) (n : Nat) (q : Nat) (a : Nat) (e : Nat), s.mainOn = true ∧ (s.macOf n).pause = [(q, a, e)]) ∧
    (∃ (s : Machine.State) (n : Nat) (q : Nat) (a : Nat) (e : Nat), s.mainOn = true ∧ n < 37 ∧ (s.macOf n).pause = [(q, a, e)] ∧
      s.field (R.MACn_LEASH_LIMIT n) 19 0 ≠ 0 ∧ a + s.field (R.MACn_LEASH_LIMIT n) 19 0 * 100000 ≤ e) ∧
    (∃ (s : Machine.State) (n : Nat) (h : Nat), s.mainOn = true ∧ (s.macOf n).hold = some h) ∧
    (∃ (s : Machine.State) (n : Nat) (k : Nat), s.mainOn = true ∧ s.fcMode n = 1 ∧ s.txReady n = true ∧ s.xoffAt n ≤ k ∧
      (s.macOf n).fc = none ∧ s.flag (R.MACn_CTRL n) 12 = false) ∧
    (∃ (s : Machine.State) (n : Nat) (k : Nat) (a : Nat), s.mainOn = true ∧ s.fcMode n = 1 ∧ s.txReady n = true ∧ s.xonAt n ≤ k ∧
      (s.macOf n).fc = some a ∧ s.flag (R.MACn_CTRL n) 12 = false) ∧
    (∃ (s : Machine.State) (n : Nat) (k : Nat) (a : Nat), s.mainOn = true ∧ s.fcMode n = 1 ∧ s.txReady n = true ∧ k < s.xonAt n ∧
      (s.macOf n).fc = some a ∧ s.flag (R.MACn_CTRL n) 12 = false) :=
  ⟨⟨fc 31 1 upM [], 31, 65535, 51, 7, by and_intros <;> decide +kernel⟩,
    ⟨fc 36 2 upM [], 36, 65535, 51, 7, 0x80, [0, 0, 0, 0, 0, 0, 0, 65535], by and_intros <;> decide +kernel⟩,
    ⟨fc 31 1 { upM with hold := some 5 } [], 31, 65535, 51, by decide +kernel⟩,
    ⟨fc 31 1 { upM with pause := [(7, (5, 161))] } [], 31, 7, 5, 161, by decide +kernel⟩,
    ⟨fc 31 1 { upM with pause := [(7, (5, 100005))] } [(R.MACn_LEASH_LIMIT 31, 1), (R.MACn_LEASH_HOLD 31, 0xFFFFF)], 31, 7, 5, 100005, by decide +kernel⟩,
    ⟨fc 31 1 { upM with hold := some 81 } [], 31, 81, by decide +kernel⟩,
    ⟨fc 31 1 upM [], 31, 0x100000, by decide +kernel⟩,
    ⟨fc 31 1 { upM with fc := some 7 } [], 31, 0x100000, 7, by decide +kernel⟩,
    ⟨fc 31 1 { upM with fc := some 7 } [(R.MACn_FC_THRESH 31, 0xFFFFFFFF)], 31, 0, 7, by decide +kernel⟩⟩

theorem witness_MacTransmit :
    (∃ (s : Machine.State) (n : Nat) (f : TxFrame), s.mainOn = true ∧ onlyFrame s n f ∧
      List.length (State.padded f.bytes) + 4 ≤ s.maxFrame n ∧ f.use = TxUse.plain) ∧
    (∃ (s : Machine.State) (n : Nat) (r : Nat) (f : TxFrame) (c : Cmd), s.mainOn = true ∧ onlyFrame s n f ∧
      List.length (State.padded f.bytes) + 4 ≤ s.maxFrame n ∧ f.use = TxUse.host r c.idx ∧ onlyCmd s r c) ∧
    (∃ (s : Machine.State) (n : Nat) (f : TxFrame) (d : Int), s.mainOn = true ∧ onlyFrame s n f ∧
      List.length (State.padded f.bytes) + 4 ≤ s.maxFrame n ∧ f.use = TxUse.sync d) ∧
    (∃ (s : Machine.State) (n : Nat) (f : TxFrame), s.mainOn = true ∧ onlyFrame s n f ∧
      s.maxFrame n < List.length (State.padded f.bytes) + 4 ∧ f.use = TxUse.plain) ∧
    (∃ (s : Machine.State) (n : Nat) (k : Nat) (f : TxFrame) (o : Option (Nat × Nat)), s.mainOn = true ∧ onlyFrame s n f ∧
      f.use = TxUse.cfg o k ∧ s.vcnBarred n f = true) ∧
    (∃ (s : Machine.State) (n : Nat) (f : TxFrame) (e : Epoch), s.mainOn = true ∧ onlyFrame s n f ∧ f.use = TxUse.sacn (some e) ∧
      s.sacnLate e = true) ∧
    (∃ (s : Machine.State) (n : Nat) (at_ : Nat) (left : Nat) (f : TxFrame), s.mainOn = true ∧ onlyFrame s n f ∧
      List.length (State.padded f.bytes) + 4 ≤ s.maxFrame n ∧ f.use = TxUse.plain ∧ s.isExpress n f.queue = true ∧ (s.macOf n).bulk = true ∧
      (s.macOf n).cut = false ∧ s.preemptActive n = true ∧ s.preemptPoint n = some (at_, left)) ∧
    (∃ (s : Machine.State) (n : Nat) (f : TxFrame), s.mainOn = true ∧ n < 37 ∧
      (s.macEn n && (s.macOf n).up && s.flag (R.MACn_CTRL n) 1) = false ∧ (s.macOf n).txq = [f] ∧ f.queue < 8 ∧ f.use = TxUse.plain) ∧
    (∃ (s : Machine.State) (n : Nat) (f : TxFrame) (d : Int), s.mainOn = true ∧ n < 37 ∧ (s.macOf n).txq = [f] ∧ State.deadlineOf f = some d) :=
  ⟨⟨mac 36 { upM with txq := [q 7 .plain] } [], 36, q 7 .plain, by decide +kernel⟩,
    ⟨txs 36, 36, 63, q 4 (.host 63 65535), cmd 8 [] 64 true (.tx 36 4), by decide +kernel⟩,
    ⟨mac 36 { upM with txq := [q 7 (.sync 5)] } [], 36, q 7 (.sync 5), 5, by decide +kernel⟩,
    ⟨mac 36 { upM with txq := [long] } [(R.MACn_MAX_FRAME 36, 1518)], 36, long, by decide +kernel⟩,
    ⟨silent (.cfg (some (63, 65535)) 4) [], 31, 4, q 5 (.cfg (some (63, 65535)) 4), some (63, 65535), by decide +kernel⟩,
    ⟨lateS, 35, q 3 (.sacn (some 3)), 3, by decide +kernel⟩,
    ⟨cutting, 36, (cutting.preemptPoint 36).get!.1, (cutting.preemptPoint 36).get!.2, q 7 .plain, by and_intros <;> decide +kernel⟩,
    ⟨mac 36 { txq := [q 7 .plain] } [], 36, q 7 .plain, by decide +kernel⟩,
    ⟨mac 36 { upM with txq := [q 7 (.sync 65536000)] } [], 36, q 7 (.sync 65536000), 65536000 + 100000 * 65536, by decide +kernel⟩⟩

theorem witness_MacLink :
    (∃ (s : Machine.State) (n : Nat) (r : LinkReport), s.mainOn = true ∧ s.macEn n = true ∧ s.portClockLost n = false ∧ (s.macOf n).up = false) ∧
    (∃ (s : Machine.State) (n : Nat), s.mainOn = true ∧ n < 37 ∧ (s.macOf n).up = true ∧ (s.macOf n).verify = 0 ∧ s.bracePort n = false) ∧
    (∃ (s : Machine.State) (n : Nat), s.mainOn = true ∧ verifies s n) ∧
    (∃ (s : Machine.State) (n : Nat), s.mainOn = true ∧ verifies s n ∧ 3 ≤ (s.macOf n).verifyTries) ∧
    (∃ (s : Machine.State) (n : Nat), s.mainOn = true ∧ verifies s n ∧ (s.macOf n).verifyTries < 3) ∧
    (∃ (s : Machine.State) (n : Nat) (f : Nat), s.mainOn = true ∧ s.mayDownshift n = true ∧ (s.macOf n).up = true ∧
      (s.macOf n).downshifted = false ∧ f = (s.dsWait n (s.dsCfg n 31 24)).time.frc ∧
      (s.macOf n).dsRx * 80000 < s.dsPercent n 23 16 * (80 * f - (s.macOf n).dsAt) ∧
      (s.macOf n).dsTx * 80000 < s.dsPercent n 23 16 * (80 * f - (s.macOf n).dsAt)) ∧
    (∃ (s : Machine.State) (n : Nat) (f : Nat), s.mainOn = true ∧ n < 37 ∧ (s.macOf n).downshifted = true ∧ (s.macOf n).up = true ∧
      f = (s.dsWait n (s.dsCfg n 15 8)).time.frc ∧
      (s.dsPercent n 7 0 * (80 * f - (s.macOf n).dsAt) < (s.macOf n).dsRx * 800000 ∨ s.dsPercent n 7 0 * (80 * f - (s.macOf n).dsAt) < (s.macOf n).dsTx * 800000)) ∧
    (∃ (s : Machine.State) (n : Nat) (f : Nat), s.mainOn = true ∧ s.mayDownshift n = true ∧ (s.macOf n).up = true ∧
      (s.macOf n).downshifted = false ∧ f = (s.dsWait n (s.dsCfg n 31 24)).time.frc ∧
      s.dsPercent n 23 16 * (80 * f - (s.macOf n).dsAt) ≤ (s.macOf n).dsRx * 80000) ∧
    (∃ (s : Machine.State) (n : Nat) (a : Nat) (v : Word), s.mainOn = true ∧ 32 ≤ n ∧ n < 37 ∧ a < 4 ∧ bit v 0 = true ∧
      s.issued (fld v 13 8) (n - 29) = true) ∧
    (∃ (s : Machine.State) (n : Nat) (a : Nat) (c : Nat) (v : Word), s.mainOn = true ∧ 32 ≤ n ∧ n < 37 ∧ a < 4 ∧ c < 8 ∧ bit v 0 = true ∧
      s.issued (fld v 13 8) (n - 29) = false) :=
  ⟨⟨mac 36 {} [], 36, rep, by decide +kernel⟩,
    ⟨mac 31 upM [], 31, by decide +kernel⟩,
    ⟨ver 36 1, 36, by decide +kernel⟩,
    ⟨ver 0 3, 0, by decide +kernel⟩,
    ⟨ver 36 2, 36, by decide +kernel⟩,
    ⟨dn 0, 33, ((dn 0).dsWait 33 ((dn 0).dsCfg 33 31 24)).time.frc, by decide +kernel⟩,
    ⟨low, 36, (low.dsWait 36 (low.dsCfg 36 15 8)).time.frc, by decide +kernel⟩,
    ⟨dn 2000000000000, 33, ((dn 2000000000000).dsWait 33 ((dn 2000000000000).dsCfg 33 31 24)).time.frc, by decide +kernel⟩,
    ⟨keyed, 36, 3, 0xFFFFFFFF, by decide +kernel⟩,
    ⟨s0, 36, 3, 7, 0xFFFFFFFF, by decide +kernel⟩⟩

end G

namespace H

def s0 : State := State.reset
def withRoute (s : State) (tile port : Nat) : State :=
  (((s.setReg R.VCN_ROUTE_LO 0x200000).setReg R.FIX_EPT_LO 0x400000).setReg R.VCN_STAGE_LO 0x1000000).wrBytes (0x200000 + 32 * tile)
    ([2, 0, 0, 0, 0, 9] ++ leBytes 1 port ++ [1] ++ leBytes 4 0 ++ leBytes 4 64 ++ leBytes 4 4096 ++ leBytes 4 0)
/-- the bridge on, window 63 to tile 32767 on port 31, and a command on ring 63 -/
def cmd (op : Nat) (args : List Word) (len : Nat) (started : Bool) (w : Work) : Cmd :=
  { idx := 65535, desc := { opcode := op, atEpoch := false, irq := true, fence := true, tag := 0xBEEF, len := len, epoch := 1, addr := 0x100, addr2 := 0, args := args }, started := started, work := w }
def far (c : Option Cmd) (ctrl : Word) : State :=
  { withRoute (link (st [(R.VCN_CTRL, 1), (R.VCN_PORTS, 0x80000000), (R.FARBR_CTRL, 1), (R.FARBR_WINw_CTRL 63, ctrl), (R.FARBR_WINw_TARGET 63, 32767), (R.FARBR_WINw_SIZE 63, 8), (R.FARBR_WINw_RBASE 63, 0xFFFFFF00), (R.HOST_RINGr_CPL_LO 63, 0x4000)]) 31) 32767 31 with
    host := { s0.host with up := true, ring := [(63, { state := .running, cmds := c.toList })] }, far := { s0.far with serial := 511 } }
def cw : Cmd := cmd 0x20 [63, 252] 4 false .idle
def cr : Cmd := cmd 0x21 [63, 252] 4 false .idle
def opw (post : Bool) : FarOp := (far (some cw) (if post then 3 else 1)).farOp 63 (some (63, 65535)) true 0xFFFFFFFC 4 0x100 [0, 0, 0, 0]
def opr : FarOp := (far (some cr) 1).farOp 63 (some (63, 65535)) false 0xFFFFFFFC 4 0x100 []
def pcw : Piece := { serial := 0, addr := 0xFFFFFFFC, bytes := 4, data := [0, 0, 0, 0], left := 0 }
def spent (s : State) : State := { s with vocon := { s.vocon with seq := [(32767 * 2 ^ 32 + s.time.epoch.toNat, 65536)] } }
def vcn (type sub src : Nat) (e : Epoch) (p : Bytes) : Bytes :=
  let b := beBytes 2 0x564E ++ [1] ++ beBytes 1 type ++ [0] ++ beBytes 1 sub ++ beBytes 2 p.length ++ beBytes 2 src ++ beBytes 2 0x8000 ++ beBytes 4 e.toNat ++ List.replicate 16 0 ++ p
  b ++ beBytes 4 (crc32c b)
def rx (type sub src : Nat) (e : Epoch) (p : Bytes) : VcnRx := { type := type, sub := sub, src := src, epoch := e, payload := p, ts := 0 }
def ans : Bytes := State.opHeader 0xFFFFFFFC 32767 0 0 4 ++ [1, 2, 3, 4]
def prd (left : Nat) : Piece := { serial := 511, addr := 0xFFFFFFFC, bytes := 4, data := [], sentAt := some 7, left := left }
def cwait (op : Nat) : Cmd := cmd op [63, 252] 4 true (.far 1)
def waiting (o : FarOp) (c : Cmd) : State := { far (some c) 1 with far := { s0.far with ops := [o] } }
def oprs (left : Nat) : FarOp := { opr with pieces := [prd left] }
def opws (left : Nat) : FarOp := { opw false with pieces := [{ prd left with data := [1, 2, 3, 4] }] }
def stray : Bytes := State.opHeader 0 0x7FFF 0 0 4
def unsent : FarOp := { oprs 7 with owner := some (62, 1), pieces := [{ prd 7 with sentAt := none, serial := 3 }] }
def drained : State := let s := far none 1; { s with far := { s0.far with ops := [oprs 7, unsent] }, host := { s.host with ring := [(63, { state := .draining, err := 3, cmds := [cwait 0x21] }), (62, { state := .running, cmds := [{ cwait 0x21 with idx := 1 }] })] } }
def fb : FarBuf := { block := 0, data := List.replicate 256 0, seen := List.range 64, until_ := 50, target := 1, tag := 0, sentEpoch := 0, rspEpoch := 0 }
def polling : State := ((((far none 1).setReg R.FARBR_POLL_CTRL 1).setReg R.FARBR_POLL_LO 0x800000).setReg R.FARBR_POLL_ADDR 0xFFFFFFFF).wrBytes (0x800000 + 1) [0x40]
def pl : FarPoll := { sentAt := 9, epoch := 7, addr := 4 }
def src (k : Nat) (v : Word) (m : List Nat) (cores : List (Nat × Core)) (l : List (Nat × Word)) : State :=
  { st ([(R.INTC_CTRL, 1), (R.INTC_Cc_CTRL 3, 1)] ++ l) with intc := { s0.intc with src := [(k, v)], pend := [k], mask := m, cores := cores } }
def pin : Nat := 1727
def offS : State := src pin 0xE0F80000 [] [(3, { ie := true })] []
def modS : State := src pin 0xA8180000 [] [(3, { ie := true, sleeping := true })] [(R.INTC_Cc_MOD 3, 0x00010002)]
def winS (n : Word) : State := src pin 0xA8180000 [] [(3, { ie := true, window := [pin], opened := 40 })] [(R.INTC_Cc_MOD 3, n)]
def vecS (f : Bool) (m : Word) : State := { src pin 0xA01880FF [] [] [(0x31000 + 16 * 255 + 12, m), (0x31000 + 16 * 255 + 4, 0xFFFFFFFF), (0x31000 + 16 * 255, 0xFEE00000), (0x31000 + 16 * 255 + 8, 77)] with host := { s0.host with up := true, msixEn := true, funcMask := f } }
def heldS : State := { vecS false 0 with intc := { (vecS false 0).intc with quiet := [(255, 3)], held := [255], risen := [255] } }
def fastS : State := src pin 0xE0F80000 [] [(3, { ie := true, offer := some pin })] []

def offC : State := { offS with intc := { offS.intc with cores := [(3, { ie := true, sleeping := true })] } }
def modC : State := { modS with intc := { modS.intc with cores := [(3, { ie := true, sleeping := true })] } }
theorem offC_eq : offS.coreFlags (8 : BitVec 4).toNat (8 : BitVec 4).toNat = offC := rfl
theorem modC_eq : modS.coreFlags (8 : BitVec 4).toNat (8 : BitVec 4).toNat = modC := rfl

theorem offerRule_of {s : State} (h : ((List.range 4).all fun c => ((s.coreOf c).offer.all fun k => s.deliverable k c)) = true) :
    s.OfferRule := by
  intro c k hc ho
  simpa [ho] using List.all_eq_true.mp h c (List.mem_range.mpr hc)

theorem witness_FarBridge :
    (∃ (s : Machine.State) (r : Nat) (w : Nat) (c : Cmd) (o : FarOp) (p : Piece), s.mainOn = true ∧ readyCmd s r 32 c ∧
      fld (State.arg c 0) 5 0 = w ∧ s.farRefuses w (BitVec.toNat (State.arg c 1)) c.desc.len = none ∧ s.winTarget w ≠ 32768 ∧
      plainLink s (s.winTarget w) ∧ s.far.ops = [] ∧ s.far.bufs = [] ∧
      s.farOp w (some (r, c.idx)) true (s.winBase w + BitVec.toNat (State.arg c 1)) c.desc.len c.desc.addr (s.ownRead r c.desc.addr c.desc.len) = o ∧
      o.pieces = [p] ∧ o.posted = false) ∧
    (∃ (s : Machine.State) (r : Nat) (w : Nat) (c : Cmd) (o : FarOp) (p : Piece), s.mainOn = true ∧ readyCmd s r 32 c ∧
      fld (State.arg c 0) 5 0 = w ∧ s.farRefuses w (BitVec.toNat (State.arg c 1)) c.desc.len = none ∧ s.winTarget w ≠ 32768 ∧
      plainLink s (s.winTarget w) ∧ s.far.ops = [] ∧ s.far.bufs = [] ∧
      s.farOp w (some (r, c.idx)) true (s.winBase w + BitVec.toNat (State.arg c 1)) c.desc.len c.desc.addr (s.ownRead r c.desc.addr c.desc.len) = o ∧
      o.pieces = [p] ∧ o.posted = true) ∧
    (∃ (s : Machine.State) (r : Nat) (w : Nat) (c : Cmd) (o : FarOp) (p : Piece), s.mainOn = true ∧ readyCmd s r 33 c ∧
      fld (State.arg c 0) 5 0 = w ∧ s.farRefuses w (BitVec.toNat (State.arg c 1)) c.desc.len = none ∧ s.winTarget w ≠ 32768 ∧
      plainLink s (s.winTarget w) ∧ s.far.ops = [] ∧ s.far.bufs = [] ∧
      s.farOp w (some (r, c.idx)) false (s.winBase w + BitVec.toNat (State.arg c 1)) c.desc.len c.desc.addr [] = o ∧ o.pieces = [p]) ∧
    (∃ (s : Machine.State) (r : Nat) (w : Nat) (c : Cmd) (o : FarOp) (p : Piece), s.mainOn = true ∧ readyCmd s r 32 c ∧
      fld (State.arg c 0) 5 0 = w ∧ s.farRefuses w (BitVec.toNat (State.arg c 1)) c.desc.len = none ∧ s.winTarget w ≠ 32768 ∧
      65536 ≤ s.vcnCount (s.winTarget w) s.time.epoch ∧ s.far.ops = [] ∧ s.far.bufs = [] ∧
      s.farOp w (some (r, c.idx)) true (s.winBase w + BitVec.toNat (State.arg c 1)) c.desc.len c.desc.addr (s.ownRead r c.desc.addr c.desc.len) = o ∧
      o.pieces = [p]) ∧
    (∃ (s : Machine.State) (r : Nat) (st : Nat) (c : Cmd), s.mainOn = true ∧ readyCmd s r 33 c ∧
      s.farRefuses (fld (State.arg c 0) 5 0) (BitVec.toNat (State.arg c 1)) c.desc.len = some st) ∧
    (∃ (s : Machine.State) (port : Nat) (r : Nat) (l : Bytes) (x : VcnRx) (c : Cmd) (o : FarOp) (p : Piece), s.mainOn = true ∧
      vcnAccepts s port l x ∧ x.type = 7 ∧ State.farShape x.payload = true ∧ beAt x.payload 6 1 % 2 = 0 ∧
      beAt x.payload 4 2 = State.farTag o.win p.serial ∧ State.farTag o.win p.serial < 32768 ∧ beAt x.payload 7 1 = 0 ∧ s.far.ops = [o] ∧
      o.target = x.src ∧ o.write = false ∧ o.posted = false ∧ o.prefetch = false ∧ o.pieces = [p] ∧ p.sentAt.isSome = true ∧ p.res = none ∧
      p.addr = o.start ∧ p.bytes = o.len ∧ List.length x.payload = 12 + p.bytes ∧ o.owner = some (r, c.idx) ∧ onlyCmd s r c) ∧
    (∃ (s : Machine.State) (port : Nat) (l : Bytes) (x : VcnRx), s.mainOn = true ∧ vcnAccepts s port l x ∧ x.type = 7 ∧
      List.length x.payload = 12 ∧ beAt x.payload 6 1 % 2 = 0 ∧ beAt x.payload 4 2 < 32768 ∧ s.far.ops = [] ∧
      (s.field R.FARBR_LOG_HEAD 9 0 + 1) % 1024 ≠ s.field R.FARBR_LOG_TAIL 9 0) ∧
    (∃ (s : Machine.State) (a : Nat) (o : FarOp) (p : Piece), s.mainOn = true ∧ s.far.ops = [o] ∧ o.posted = false ∧ o.pieces = [p] ∧
      p.sentAt = some a ∧ p.res = none ∧ 0 < p.left ∧ plainLink s o.target ∧ s.tilesBarred = none) ∧
    (∃ (s : Machine.State) (a : Nat) (r : Nat) (st : Nat) (c : Cmd) (o : FarOp) (p : Piece), s.mainOn = true ∧ s.far.ops = [o] ∧
      o.posted = false ∧ o.write = true ∧ o.prefetch = false ∧ o.pieces = [p] ∧ p.sentAt = some a ∧ p.res = none ∧ 0 < p.left ∧
      o.owner = some (r, c.idx) ∧ onlyCmd s r c ∧ o.target ≠ 32768 ∧ (s.routeOf o.target).valid = true ∧
      s.vcnPort (s.routeOf o.target).port = true ∧ s.tilesBarred = some st) ∧
    (∃ (s : Machine.State) (r : Nat) (o : FarOp) (p : Piece), s.mainOn = true ∧ r < 64 ∧ (s.ringOf r).state = RingState.draining ∧
      (s.ringOf r).err = 3 ∧ (List.filter (fun x => Option.map (fun x => x.fst) x.owner != some r) s.far.ops = [o]) ∧ o.posted = false ∧
      o.pieces = [p] ∧ p.sentAt = none ∧ p.res = none ∧ o.target ≠ 32768 ∧ (s.routeOf o.target).valid = true ∧
      s.vcnPort (s.routeOf o.target).port = true ∧ s.tilesBarred = none ∧ plainLink s o.target) ∧
    (∃ (s : Machine.State) (a : Nat) (r : Nat) (c : Cmd) (o : FarOp) (p : Piece), s.mainOn = true ∧ s.far.ops = [o] ∧ o.posted = false ∧
      o.write = true ∧ o.prefetch = false ∧ o.pieces = [p] ∧ p.sentAt = some a ∧ p.res = none ∧ p.left = 0 ∧ o.owner = some (r, c.idx) ∧
      onlyCmd s r c) ∧
    (∃ (s : Machine.State) (w : Nat) (b : FarBuf), s.mainOn = true ∧ List.lookup w s.far.bufs = some b ∧ List.length b.data / 4 ≤ b.seen.length) ∧
    (∃ (s : Machine.State) (u : Nat), s.mainOn = true ∧ s.farEn = true ∧ s.flag R.FARBR_POLL_CTRL 0 = true ∧ s.pollTile = some u ∧
      s.tileRefuses u = none ∧ plainLink s u) ∧
    (∃ (s : Machine.State) (u : Nat), s.mainOn = true ∧ s.farEn = true ∧ s.flag R.FARBR_POLL_CTRL 0 = true ∧ s.pollTile = some u ∧
      s.tileRefuses u = none ∧ plainLink s u) ∧
    (∃ (s : Machine.State) (u : Nat) (x : FarPoll), s.mainOn = true ∧ List.lookup u s.far.polls = some x ∧
      (s.field R.FARBR_LOG_HEAD 9 0 + 1) % 1024 ≠ s.field R.FARBR_LOG_TAIL 9 0) :=
  ⟨⟨far (some cw) 1, 63, 63, cw, opw false, pcw, by and_intros <;> decide +kernel⟩,
    ⟨far (some cw) 3, 63, 63, cw, opw true, pcw, by and_intros <;> decide +kernel⟩,
    ⟨far (some cr) 1, 63, 63, cr, opr, (opr.pieces.getD 0 pcw), by and_intros <;> decide +kernel⟩,
    ⟨spent (far (some cw) 1), 63, 63, cw, opw false, pcw, by and_intros <;> decide +kernel⟩,
    ⟨far (some cr) 0, 63, 3, cr, by decide +kernel⟩,
    ⟨waiting (oprs 7) (cwait 0x21), 31, 63, vcn 7 0 32767 9 ans, rx 7 0 32767 9 ans, cwait 0x21, oprs 7, prd 7, by and_intros <;> decide +kernel⟩,
    ⟨(far none 1).setReg R.FARBR_LOG_HEAD 1023 |>.setReg R.FARBR_LOG_TAIL 1023, 31, vcn 7 0 32767 9 stray, rx 7 0 32767 9 stray, by decide +kernel⟩,
    ⟨waiting (oprs 1) (cwait 0x21), 7, oprs 1, prd 1, by and_intros <;> decide +kernel⟩,
    ⟨{ waiting (opws 1) (cwait 0x20) with brace := { s0.brace with state := .standby } }, 7, 63, 5, cwait 0x20, opws 1, { prd 1 with data := [1, 2, 3, 4] }, by and_intros <;> decide +kernel⟩,
    ⟨drained, 63, unsent, unsent.pieces.getD 0 (prd 7), by and_intros <;> decide +kernel⟩,
    ⟨waiting (opws 0) (cwait 0x20), 7, 63, cwait 0x20, opws 0, { prd 0 with data := [1, 2, 3, 4] }, by and_intros <;> decide +kernel⟩,
    ⟨{ s0 with far := { s0.far with bufs := [(63, fb)] } }, 63, fb, by decide +kernel⟩,
    ⟨withRoute polling 14 31, 14, by decide +kernel⟩,
    ⟨{ (withRoute polling 14 31).setReg R.FARBR_POLL_CTRL 0x640001 with far := { (withRoute polling 14 31).far with pollAt := some 5 } }, 14, by decide +kernel⟩,
    ⟨{ (st [(R.FARBR_LOG_HEAD, 1023), (R.FARBR_LOG_TAIL, 1023)]) with far := { s0.far with polls := [(32767, pl)] } }, 32767, pl, by decide +kernel⟩⟩

theorem witness_InterruptDelivery :
    (∃ (s : Machine.State) (ie : BitVec 4) (asleep : BitVec 4) (k : Nat) (c : Nat), s.mainOn = true ∧
      (s.coreFlags ie.toNat asleep.toNat).offerSource = some k ∧ (s.coreFlags ie.toNat asleep.toNat).offerCore k = some c) ∧
    (∃ (s : Machine.State) (ie : BitVec 4) (asleep : BitVec 4) (k : Nat) (c : Nat), s.mainOn = true ∧
      (s.coreFlags ie.toNat asleep.toNat).offerSource = some k ∧ (s.coreFlags ie.toNat asleep.toNat).offerCore k = some c) ∧
    (∃ (s : Machine.State) (c : Nat) (k : Nat), s.mainOn = true ∧ c < 4 ∧ (s.coreOf c).offer = some k) ∧
    (∃ (s : Machine.State) (c : Nat) (v : Word) (x : Nat × Bool × Nat) (rest : List (Nat × Bool × Nat)), s.mainOn = true ∧ c < 4 ∧
      (s.coreOf c).insvc = x :: rest ∧ x.fst = fld v 10 0) ∧
    (∃ (s : Machine.State) (c : Nat) (v : Word), s.mainOn = true ∧ c < 4 ∧
      (Option.map (fun x => x.fst) (s.coreOf c).insvc.head? ≠ some (fld v 10 0))) ∧
    (∃ (s : Machine.State) (k : Nat) (v : Word), s.mainOn = true ∧ State.srcExists k = true) ∧
    (∃ (s : Machine.State) (k : Nat) (v : Word), s.mainOn = true ∧ State.srcExists k = true) ∧
    (∃ (s : Machine.State) (w : Nat) (i : Nat) (v : Word), s.mainOn = true ∧ w < 64 ∧ i < 32) ∧
    (∃ (s : Machine.State) (w : Nat) (i : Nat) (v : Word), s.mainOn = true ∧ w < 64 ∧ i < 32) :=
  ⟨⟨offS, 8, 8, pin, 3, by first | rw [offC_eq]; decide +kernel | rw [modC_eq]; decide +kernel⟩,
    ⟨modS, 8, 8, pin, 3, by first | rw [offC_eq]; decide +kernel | rw [modC_eq]; decide +kernel⟩,
    ⟨src pin 0xB0180000 [] [(3, { ie := true, offer := some pin })] [], 3, pin, by decide +kernel⟩,
    ⟨src pin 0xA0180000 [] [(3, { ie := true, insvc := [(pin, false, 1), (5, false, 2)] })] [], 3, 0xFFFFFEBF, (pin, false, 1), [(5, false, 2)], by decide +kernel⟩,
    ⟨s0, 3, 0, by decide +kernel⟩,
    ⟨src pin 0xA0180000 [] [] [], pin, 0x7FFFFFFF, by decide +kernel⟩,
    ⟨src 9 0xA0180000 [] [] [], 9, 0xFFFFFFFF, by decide +kernel⟩,
    ⟨src 2047 0xA0180000 [] [] [], 63, 31, 0x7FFFFFFF, by decide +kernel⟩,
    ⟨src 2047 0xA0180000 [] [] [], 63, 31, 0x80000000, by decide +kernel⟩⟩

theorem witness_OfferOrderAndModeration :
    (∃ (s : Machine.State) (k : Nat), (∀ (j : Nat), j ∈ s.intc.pend → j < 2048) ∧ s.offerSource = some k) ∧
    (∃ (s : Machine.State) (c : Nat), s.mainOn = true ∧ c < 4 ∧ (s.coreOf c).window ≠ [] ∧ s.modCount c ≤ (s.coreOf c).window.length) ∧
    (∃ (s : Machine.State) (c : Nat), s.mainOn = true ∧ c < 4 ∧ (s.coreOf c).window ≠ [] ∧ (s.coreOf c).window.length < s.modCount c) ∧
    (∃ (s : Machine.State) (c : Nat), s.mainOn = true ∧ c < 4 ∧ (s.coreOf c).insvc = [] ∧ (s.coreOf c).offer = none ∧
      (s.setCore c { s.coreOf c with sleeping := true }).offerSource = none) ∧
    (∃ (s : Machine.State) (v : Nat), s.mainOn = true ∧ v < 256 ∧ s.host.up = true ∧ s.host.msixEn = true ∧ (s.host.funcMask = false) ∧
      s.vecCond v = true ∧ ¬v ∈ s.intc.risen ∧ ¬v ∈ s.host.pba ∧ s.isQuiet v = false ∧ bit (s.msixWord v 3) 0 = false) ∧
    (∃ (s : Machine.State) (v : Nat), s.mainOn = true ∧ v < 256 ∧ s.host.up = true ∧ s.host.msixEn = true ∧ s.vecCond v = true ∧
      ¬v ∈ s.intc.risen ∧ ¬v ∈ s.host.pba ∧ s.isQuiet v = false ∧ (s.host.funcMask = true ∨ bit (s.msixWord v 3) 0 = true)) ∧
    (∃ (s : Machine.State) (v : Nat), s.mainOn = true ∧ v < 256 ∧ s.host.up = true ∧ s.host.msixEn = true ∧ s.vecCond v = true ∧
      ¬v ∈ s.intc.risen ∧ ¬v ∈ s.host.pba ∧ s.isQuiet v = false ∧ (s.host.funcMask = true ∨ bit (s.msixWord v 3) 0 = true)) ∧
    (∃ (s : Machine.State) (v : Nat) (a : Nat), s.mainOn = true ∧ List.lookup v s.intc.quiet = some a ∧ v ∈ s.intc.held ∧ s.vecCond v = true ∧
      s.host.up = true ∧ s.host.msixEn = true ∧ (s.host.funcMask = false) ∧ bit (s.msixWord v 3) 0 = false) ∧
    (∃ (s : Machine.State) (v : Nat) (a : Nat), s.mainOn = true ∧ List.lookup v s.intc.quiet = some a ∧ (s.host.up = false ∨ s.host.msixEn = false)) ∧
    (∃ (s : Machine.State) (c : Nat) (k : Nat) (v : Word), s.mainOn = true ∧ c < 4 ∧ (s.coreOf c).offer = some k ∧ s.isFast k = true ∧
      s.rp c < s.prioOf k ∧ (s.coreOf c).insvc = [] ∧ s.prioOf k ≤ fld v 3 0 ∧ s.OfferRule) :=
  ⟨⟨{ offS with intc := { offS.intc with cores := [(3, { ie := true, sleeping := true })] } }, pin, by decide +kernel⟩,
    ⟨winS 0xFFFF0001, 3, by decide +kernel⟩,
    ⟨winS 0xFFFF0002, 3, by decide +kernel⟩,
    ⟨s0, 3, by decide +kernel⟩,
    ⟨vecS false 0, 255, by and_intros <;> decide +kernel⟩,
    ⟨vecS true 0, 255, by and_intros <;> decide +kernel⟩,
    ⟨vecS false 1, 255, by and_intros <;> decide +kernel⟩,
    ⟨heldS, 255, 3, by decide +kernel⟩,
    ⟨{ heldS with host := { heldS.host with up := false } }, 255, 3, by decide +kernel⟩,
    ⟨fastS, 3, pin, 15, by and_intros <;> first | decide +kernel | exact offerRule_of (by decide +kernel)⟩⟩

end H

namespace I

def s0 : State := State.reset
def br (b : BraceSt) (l : List (Nat × Word)) : State := { link (st ((R.BRACE_CTRL, 1) :: l)) 30 with brace := b }
def msg : StateMsg := { bstate := 4, r := 7, dsum := 5, health := 16, srcId := 0x8001 }
def pay : Bytes := State.StateMsg.bytes msg
def standby : BraceSt := { state := .standby, rxSeq := some 65535 }
def vcn (type sub src : Nat) (e : Epoch) (p : Bytes) : Bytes :=
  let b := beBytes 2 0x564E ++ [1] ++ beBytes 1 type ++ [0] ++ beBytes 1 sub ++ beBytes 2 p.length ++ beBytes 2 src ++ beBytes 2 0x8000 ++ beBytes 4 e.toNat ++ List.replicate 16 0 ++ p
  b ++ beBytes 4 (crc32c b)
def rep : Bytes := [0xFF, 0xFF, 0xFF, 0xFF] ++ List.replicate 60 0
def vfr : Bytes := (vcn 4 0 5 9 rep).take 96
def fwd : Bytes := beBytes 2 vfr.length ++ [31, 0] ++ beBytes 4 9 ++ vfr
def withRoute (s : State) (tile port : Nat) : State :=
  (((s.setReg R.VCN_ROUTE_LO 0x200000).setReg R.FIX_EPT_LO 0x400000).setReg R.VCN_STAGE_LO 0x1000000).wrBytes (0x200000 + 32 * tile)
    ([2, 0, 0, 0, 0, 9] ++ leBytes 1 port ++ [1] ++ leBytes 4 0 ++ leBytes 4 64 ++ leBytes 4 4096 ++ leBytes 4 0)
def cmd (op : Nat) (args : List Word) (len : Nat) (started : Bool) (w : Work) : Cmd :=
  { idx := 65535, desc := { opcode := op, atEpoch := false, irq := true, fence := true, tag := 0xBEEF, len := len, epoch := 1, addr := 0x100, addr2 := 0, args := args }, started := started, work := w }
def pc : Piece := { serial := 511, addr := 0x3FFFFFC, bytes := 4, data := [1, 2, 3, 4], sentAt := some 7, left := 0 }
def fo : FarOp := { owner := some (63, 65535), win := 62, target := 0x8000, write := true, posted := false, prefetch := false, ahead := false, age := 1, rbase := 0, size := 256, start := 0x3FFFFFC, len := 4, dst := 0, pieces := [pc] }
def onRing (s : State) (c : Cmd) : State := { s with host := { s0.host with up := true, ring := [(63, { state := .running, cmds := [c] })] } }
def act : BraceSt := { state := .active, theirs := [{ msg with bstate := 3, health := 0 }], stateAt := some 0, faults := [3, 7] }

theorem witness_PartnerFrames :
    (∃ (s : Machine.State) (q : Nat) (src : Nat) (b : Nat) (e : Epoch) (p : Bytes), s.mainOn = true ∧ braceTakes s q src b p ∧
      List.length p = 128 ∧ s.brace.state = BraceState.standby ∧ s.sheafEn = false ∧ s.brace.confirmed = false ∧ s.brace.own = []) ∧
    (∃ (s : Machine.State) (q : Nat) (src : Nat) (b : Nat) (e : Epoch) (p : Bytes) (m : StateMsg), s.mainOn = true ∧ braceTakes s q src b p ∧
      List.length p = 128 ∧ s.brace.state = BraceState.sync ∧ s.sheafEn = false ∧ s.brace.confirmed = false ∧ s.brace.own = [m] ∧
      m.r = w32 (beAt p 0 4) ∧ State.stateMatch m (State.StateMsg.read src b p) = true ∧
      State.joinMatch m (State.StateMsg.read src b p) = true ∧ (atLeast1 (s.field R.BRACE_SYNC_N 7 0) ≤ s.brace.matched + 1)) ∧
    (∃ (s : Machine.State) (q : Nat) (src : Nat) (b : Nat) (e : Epoch) (p : Bytes) (m : StateMsg), s.mainOn = true ∧ braceTakes s q src b p ∧
      List.length p = 128 ∧ s.brace.state = BraceState.standby ∧ s.sheafEn = false ∧ s.brace.confirmed = false ∧ s.brace.own = [m] ∧
      m.r = w32 (beAt p 0 4) ∧ State.stateMatch m (State.StateMsg.read src b p) = false ∧ m.inputCrc = beAt p 24 4 ∧
      m.ingestSrc = beAt p 28 4 ∧ m.graphGen = w32 (beAt p 36 4) ∧ m.calibGen = w32 (beAt p 40 4)) ∧
    (∃ (s : Machine.State) (q : Nat) (src : Nat) (b : Nat) (e : Epoch) (p : Bytes), s.mainOn = true ∧ braceTakes s q src b p ∧
      List.length p = 4 ∧ s.brace.state = BraceState.standby ∧ s.brace.takeover = none) ∧
    (∃ (s : Machine.State) (q : Nat) (src : Nat) (b : Nat) (e : Epoch) (f : Epoch), s.mainOn = true ∧ braceTakes s q src b [] ∧
      s.brace.state = BraceState.standby) ∧
    (∃ (s : Machine.State) (l : Bytes), s.mainOn = true ∧ braceHears s ∧ List.length l < 20) ∧
    (∃ (s : Machine.State) (q : Nat) (src : Nat) (b : Nat) (e : Epoch) (p : Bytes), s.mainOn = true ∧ braceHears s ∧ src < 65536 ∧
      src ≠ s.devId ∧ q < 65536 ∧ List.length p = 4 ∧ s.brace.rxSeq = some q) :=
  ⟨⟨br standby [], 0, 0x8001, 4, 9, pay, by decide +kernel⟩,
    ⟨br { state := .sync, own := [{ msg with health := 0 }], matched := 3 } [(R.BRACE_SYNC_N, 4)], 65535, 0x8001, 4, 9, pay, { msg with health := 0 }, by and_intros <;> decide +kernel⟩,
    ⟨br { standby with own := [{ msg with dxor := 9 }] } [], 32766, 0x8001, 255, 9, pay, { msg with dxor := 9 }, by and_intros <;> decide +kernel⟩,
    ⟨br standby [], 0, 0xFFFF, 5, 9, [8, 0, 0, 0], by decide +kernel⟩,
    ⟨br standby [], 0, 0xFFFF, 4, 9, 0xFFFFFFFF, by decide +kernel⟩,
    ⟨br {} [], List.replicate 19 0, by decide +kernel⟩,
    ⟨br standby [], 65535, 0x8001, 4, 9, [1, 2, 3, 4], by decide +kernel⟩⟩

theorem witness_PartnerTraffic :
    (∃ (s : Machine.State) (q : Nat) (src : Nat) (b : Nat) (port : Nat) (e : Epoch) (a : Epoch) (p : Bytes) (fr : Bytes), s.mainOn = true ∧
      braceTakes s q src b p ∧ s.brace.state = BraceState.standby ∧ State.fwdEntries (List.length p + 1) p = some [(port, a, fr)] ∧ p ≠ [] ∧
      (VcnRx.read fr).sub = 0 ∧ State.repOk (VcnRx.read fr).payload = true ∧ reached (a + 2) s.time.epoch = false ∧ s.verEn = false ∧
      (s.routeOf (VcnRx.read fr).src).port = port) ∧
    (∃ (s : Machine.State) (q : Nat) (src : Nat) (b : Nat) (addr : Nat) (tag : Nat) (e : Epoch), s.mainOn = true ∧ braceTakes s q src b [] ∧
      addr % 4 = 0 ∧ addr < 2 ^ 26 ∧ tag < 65536 ∧ State.partnerRefused addr = false) ∧
    (∃ (s : Machine.State) (q : Nat) (src : Nat) (b : Nat) (addr : Nat) (tag : Nat) (e : Epoch), s.mainOn = true ∧ braceTakes s q src b [] ∧
      addr % 4 = 0 ∧ addr / 65536 = 32 ∧ tag < 65536) ∧
    (∃ (s : Machine.State) (q : Nat) (src : Nat) (b : Nat) (r : Nat) (e : Epoch) (c : Cmd) (o : FarOp) (x : Piece), s.mainOn = true ∧
      braceTakes s q src b [] ∧ s.far.ops = [o] ∧ o.target = 32768 ∧ o.write = true ∧ o.posted = false ∧ o.prefetch = false ∧ o.pieces = [x] ∧
      x.sentAt.isSome = true ∧ x.res = none ∧ o.owner = some (r, c.idx) ∧ onlyCmd s r c ∧ State.farTag o.win x.serial < 32768 ∧
      x.addr < 2 ^ 32 ∧ x.bytes < 65536) ∧
    (∃ (s : Machine.State) (q : Nat) (src : Nat) (b : Nat) (port : Nat) (e : Epoch) (a : Epoch) (p : Bytes) (fr : Bytes), s.mainOn = true ∧
      braceTakes s q src b p ∧ s.brace.state = BraceState.standby ∧ State.fwdEntries (List.length p + 1) p = some [(port, a, fr)] ∧ p ≠ [] ∧
      (VcnRx.read fr).sub = 0 ∧ State.repOk (VcnRx.read fr).payload = true ∧ reached (a + 2) s.time.epoch = true ∧ s.verEn = false ∧
      (s.routeOf (VcnRx.read fr).src).port = port) :=
  ⟨⟨withRoute (br standby []) 5 31, 0, 0x8001, 4, 31, 3, 9, fwd, vfr, by and_intros <;> decide +kernel⟩,
    ⟨br standby [(R.HEEL_LEAD, 0x1234)], 0, 0x8001, 4, R.HEEL_LEAD, 0x7E05, 3, by decide +kernel⟩,
    ⟨br standby [], 0, 0x8001, 4, 0x20FFFC, 0x7E05, 3, by decide +kernel⟩,
    ⟨{ onRing (br standby [(R.HOST_RINGr_CPL_LO 63, 0x4000)]) (cmd 0x20 [] 4 true (.far 1)) with far := { s0.far with ops := [fo] } }, 0, 0x8001, 4, 63, 3, cmd 0x20 [] 4 true (.far 1), fo, pc, by and_intros <;> decide +kernel⟩,
    ⟨{ withRoute (br standby []) 5 31 with time := { s0.time with epoch := 11 } }, 0, 0x8001, 4, 31, 3, 9, fwd, vfr, by and_intros <;> decide +kernel⟩⟩

theorem witness_SidebandsAndRelease :
    (∃ (s : Machine.State) (m : StateMsg), s.mainOn = true ∧ s.brace.toSend = some m) ∧
    (∃ (s : Machine.State), s.mainOn = true ∧ s.braceOn = true) ∧
    (∃ (s : Machine.State), s.mainOn = true ∧ s.braceOn = true) ∧
    (∃ (s : Machine.State), s.mainOn = true ∧ s.braceOn = true ∧ s.brace.toggled = true ∧ s.brace.state = BraceState.standby ∧
      s.brace.takeover = none) ∧
    (∃ (s : Machine.State), s.mainOn = true ∧ s.brace.state = BraceState.standby ∧ s.braceMiss ≤ s.brace.quiet ∧ s.brace.toggled = false ∧
      s.brace.framed = false ∧ State.healthyWord s.healthWord = true ∧ s.brace.takeover = none) ∧
    (∃ (s : Machine.State), s.mainOn = true ∧ s.brace.state = BraceState.seek ∧ atLeast1 (s.field R.BRACE_SEEK_TMO 15 0) ≤ s.brace.quiet ∧
      s.brace.toggled = false ∧ s.brace.framed = false) ∧
    (∃ (s : Machine.State) (c : Nat) (rest : List Nat), s.mainOn = true ∧ s.brace.faults = c :: rest ∧ s.brace.state = BraceState.active ∧
      s.partnerReady = true ∧ s.far.ops = [] ∧ noPosted s = true ∧ s.flag R.BRACE_CMD_STAT 8 = false) ∧
    (∃ (s : Machine.State) (c : Nat) (rest : List Nat), s.mainOn = true ∧ s.brace.faults = c :: rest ∧ s.brace.state = BraceState.active ∧
      s.partnerReady = false ∧ c ≠ 7) ∧
    (∃ (s : Machine.State) (x : BallEdge), s.mainOn = true ∧ x.level = true) ∧
    (∃ (s : Machine.State) (x : BallEdge), s.mainOn = true ∧ x.level = false ∧ s.brace.sb2 = true ∧ s.braceOn = true ∧
      s.brace.still < s.braceMiss ∧ s.brace.state = BraceState.standby ∧ s.brace.takeover = none) ∧
    (∃ (s : Machine.State) (x : BallEdge), s.mainOn = true) ∧
    (∃ (s : Machine.State) (x : BallEdge), s.mainOn = true) :=
  ⟨⟨br { standby with toSend := some msg, txSeq := 65535 } [], msg, by decide +kernel⟩,
    ⟨br standby [(R.BRACE_SB_DLY, 0xFFFFFFFF)], by decide +kernel⟩,
    ⟨{ br standby [(R.BRACE_SKEW_MAX, 5)] with time := { s0.time with frc := 12500000 } }, by decide +kernel⟩,
    ⟨br { standby with toggled := true, sb2 := true } [], by decide +kernel⟩,
    ⟨br { standby with quiet := 255, katCycle := some 0 } [], by decide +kernel⟩,
    ⟨br { state := .seek, quiet := 65535 } [], by decide +kernel⟩,
    ⟨br act [], 3, [7], by decide +kernel⟩,
    ⟨br { act with theirs := [] } [], 3, [7], by decide +kernel⟩,
    ⟨s0, ⟨true, 0⟩, by decide +kernel⟩,
    ⟨br { standby with sb2 := true, still := 0 } [], ⟨false, 0⟩, by decide +kernel⟩,
    ⟨br standby [], ⟨true, 0⟩, by decide +kernel⟩,
    ⟨s0, ⟨false, 0⟩, by decide +kernel⟩⟩

theorem witness_BraceCommands :
    (∃ (s : Machine.State), s.mainOn = true ∧ s.brace.state = BraceState.active ∧ s.partnerReady = true ∧ s.far.ops = [] ∧ noPosted s = true ∧
      s.flag R.BRACE_CMD_STAT 8 = false ∧ s.brace.handover = none) ∧
    (∃ (s : Machine.State), s.mainOn = true ∧ 2 ≤ BitVec.toNat (s.reg R.BRACE_CMD_EPOCH - s.time.epoch) ∧
      BitVec.toNat (s.reg R.BRACE_CMD_EPOCH - s.time.epoch) < 2 ^ 31 ∧ s.brace.state = BraceState.active ∧ s.partnerReady = true ∧
      s.brace.handover = none) ∧
    (∃ (s : Machine.State), s.mainOn = true ∧ 2 ≤ BitVec.toNat (s.reg R.BRACE_CMD_EPOCH - s.time.epoch) ∧
      BitVec.toNat (s.reg R.BRACE_CMD_EPOCH - s.time.epoch) < 2 ^ 31 ∧ s.brace.state = BraceState.active ∧ s.partnerReady = true ∧
      s.brace.handover = none) ∧
    (∃ (s : Machine.State), s.mainOn = true ∧ s.brace.state ≠ BraceState.active ∧ s.brace.handover = none ∧
      2 ≤ BitVec.toNat (s.reg R.BRACE_CMD_EPOCH - s.time.epoch) ∧ BitVec.toNat (s.reg R.BRACE_CMD_EPOCH - s.time.epoch) < 2 ^ 31) ∧
    (∃ (s : Machine.State), s.mainOn = true ∧ s.brace.state = BraceState.released ∧ s.brace.handover = none) ∧
    (∃ (s : Machine.State) (r : Nat) (c : Cmd), s.mainOn = true ∧ readyCmd s r 60 c ∧ fld (c.desc.args.getD 0 0) 3 0 = 3 ∧
      s.brace.state = BraceState.released ∧ s.brace.handover = none) ∧
    (∃ (s : Machine.State), s.mainOn = true ∧ katDue s ∧ s.brace.katPassed + 1 < 16) ∧
    (∃ (s : Machine.State), s.mainOn = true ∧ katDue s ∧ s.brace.katPassed = 15) ∧
    (∃ (s : Machine.State), s.mainOn = true ∧ katDue s ∧ s.brace.katNext < 16 ∧ s.brace.state ≠ BraceState.active) ∧
    (∃ (s : Machine.State), s.mainOn = true ∧ s.brace.confirm = true ∧ s.frameRuns = false) ∧
    (∃ (s : Machine.State) (e : Nat), s.mainOn = true ∧ s.brace.confirm = true ∧ s.frameRuns = false ∧ e < 16 ∧ s.brace.state = BraceState.active) :=
  ⟨⟨br act [], by decide +kernel⟩,
    ⟨br { act with txSeq := 65535 } [(R.BRACE_CMD_EPOCH, 2)], by decide +kernel⟩,
    ⟨br act [(R.BRACE_CMD_EPOCH, 0x7FFFFFFF)], by decide +kernel⟩,
    ⟨br standby [(R.BRACE_CMD_EPOCH, 2)], by decide +kernel⟩,
    ⟨br { state := .released } [(R.BRACE_CMD_STAT, 5)], by decide +kernel⟩,
    ⟨onRing (br { state := .released } [(R.HOST_RINGr_CPL_LO 63, 0x4000)]) (cmd 0x3C [3] 0 false .idle), 63, cmd 0x3C [3] 0 false .idle, by decide +kernel⟩,
    ⟨br { standby with katNext := 15, katPassed := 14, katFail := [15] } [], by decide +kernel⟩,
    ⟨br { standby with katPassed := 15 } [], by decide +kernel⟩,
    ⟨br { standby with katNext := 15 } [], by decide +kernel⟩,
    ⟨br { standby with confirm := true, katFail := [2] } [], by decide +kernel⟩,
    ⟨br { act with confirm := true } [], 15, by decide +kernel⟩⟩

end I

namespace J

def s0 : State := State.reset
def armRegs : List (Nat × Word) := [(R.SHEAF_CTRL, 3), (R.SHEAF_GEN, 0xFFFFFFFF), (R.SHEAF_ARM_GEN, 0), (R.SHEAF_ARM_EPOCH, 4), (R.SHEAF_ARM_GROUPS, 0x0001)]
def tiles (l : List (Nat × Word)) : State := { st (l ++ [(R.SHEAF_EXPTAB_LO, 0x500000)]) with dram := [(0x500010, 2), (0x6FFFD0, 3)] }
def arm0 : Arm := { epoch := 4, gen := 0, groups := 1, calib := false, tilesOnly := false, targets := [0, 32767], staged := [] }
def armed (a : Arm) (l : List (Nat × Word)) : State := { tiles l with sheaf := { s0.sheaf with arm := some a } }
def cmd (op : Nat) (args : List Word) (len : Nat) (started : Bool) (w : Work) : Cmd :=
  { idx := 65535, desc := { opcode := op, atEpoch := false, irq := true, fence := true, tag := 0xBEEF, len := len, epoch := 0x7FFFFFFF, addr := 0x100, addr2 := 0, args := args }, started := started, work := w }
def onRing (s : State) (c : Cmd) : State := { s with host := { s0.host with up := true, ring := [(63, { state := .running, cmds := [c] })] } }

theorem witness_SheafDigests :
    (∃ (s : Machine.State) (c : Nat) (d : Nat), s.mainOn = true ∧ List.lookup c s.sheaf.busy = some d) :=
  ⟨{ s0 with sheaf := { s0.sheaf with busy := [(4, 2 ^ 255), (0, 3)] } }, 4, 2 ^ 255, by decide +kernel⟩

theorem witness_SheafArming :
    (∃ (s : Machine.State), s.mainOn = true ∧ s.host.ring = [] ∧
      s.armRefused (s.reg R.SHEAF_ARM_EPOCH) (s.reg R.SHEAF_ARM_GEN) (s.reg R.SHEAF_ARM_GROUPS) = none ∧
      s.flag R.SHEAF_ARM_GROUPS 16 = false) ∧
    (∃ (s : Machine.State), s.mainOn = true ∧ s.host.ring = [] ∧
      s.armRefused (s.reg R.SHEAF_ARM_EPOCH) (s.reg R.SHEAF_ARM_GEN) (s.reg R.SHEAF_ARM_GROUPS) = none ∧
      s.flag R.SHEAF_ARM_GROUPS 16 = false) ∧
    (∃ (s : Machine.State) (st : Nat), s.mainOn = true ∧
      s.armRefused (s.reg R.SHEAF_ARM_EPOCH) (s.reg R.SHEAF_ARM_GEN) (s.reg R.SHEAF_ARM_GROUPS) = some st ∧
      s.flag R.SHEAF_ARM_GROUPS 16 = false) ∧
    (∃ (s : Machine.State) (a : Arm), s.mainOn = true ∧ s.sheaf.arm = some a ∧ a.calib = false ∧ a.owner = none) ∧
    (∃ (s : Machine.State) (r : Nat) (c : Cmd), s.mainOn = true ∧ onlyCmd s r c ∧ c.started = false ∧ c.desc.opcode = 48 ∧
      s.host.ring = [(r, s.ringOf r)] ∧ s.armRefused c.desc.epoch (State.arg c 0) (State.arg c 1) = none ∧ bit (State.arg c 1) 16 = false) ∧
    (∃ (s : Machine.State) (r : Nat) (c : Cmd), s.mainOn = true ∧ readyCmd s r 49 c ∧ s.sheaf.arm = none) :=
  ⟨⟨tiles armRegs, by decide +kernel⟩,
    ⟨tiles (armRegs ++ [(R.SHEAF_ARM_GROUPS, 0xFFFF)]), by decide +kernel⟩,
    ⟨tiles [(R.SHEAF_ARM_EPOCH, 3)], 11, by decide +kernel⟩,
    ⟨armed arm0 [], arm0, by decide +kernel⟩,
    ⟨onRing (tiles armRegs) (cmd 0x30 [0, 0x8001] 0 false .idle), 63, cmd 0x30 [0, 0x8001] 0 false .idle, by decide +kernel⟩,
    ⟨onRing (tiles [(R.HOST_RINGr_CPL_LO 63, 0x4000)]) (cmd 0x31 [] 0 false .idle), 63, cmd 0x31 [] 0 false .idle, by decide +kernel⟩⟩

theorem witness_SheafReportsAndDecision :
    (∃ (s : Machine.State) (t : Nat) (a : Arm), s.sheaf.arm = some a ∧ s.armTarget a t = true ∧ ¬t ∈ a.acked) ∧
    (∃ (s : Machine.State) (t : Nat) (a : Arm) (e : Epoch) (g : Word), s.sheaf.arm = some a ∧
      (s.armTarget a t = false ∨ t ∈ a.acked ∨ e ≠ a.epoch ∨ g ≠ a.gen)) ∧
    (∃ (s : Machine.State) (a : Arm) (e : Epoch), s.sheaf.arm = some a ∧ reached a.epoch e = true ∧
      (s.armNow a).targets.length - (s.armNow a).acked.length ≤ s.field R.SHEAF_MAX_MISSING 15 0) ∧
    (∃ (s : Machine.State) (a : Arm) (e : Epoch), s.sheaf.arm = some a ∧ reached a.epoch e = true ∧ a.calib = false ∧ a.owner = none ∧
      s.field R.SHEAF_MAX_MISSING 15 0 < (s.armNow a).targets.length - (s.armNow a).acked.length) ∧
    (∃ (s : Machine.State) (a : Arm) (e : Epoch), s.sheaf.arm = some a ∧ reached a.epoch e = false) ∧
    (∃ (s : Machine.State) (a : Arm), a.tilesOnly = false) :=
  ⟨⟨armed arm0 [(R.SHEAF_ACKED, 0xFFFFFFFF)], 32767, arm0, by decide +kernel⟩,
    ⟨armed { arm0 with acked := [0] } [], 0, { arm0 with acked := [0] }, 4, 0, by decide +kernel⟩,
    ⟨armed arm0 [(R.SHEAF_MAX_MISSING, 2)], arm0, 4, by decide +kernel⟩,
    ⟨armed arm0 [(R.SHEAF_MAX_MISSING, 1)], arm0, 0x80000003, by decide +kernel⟩,
    ⟨armed arm0 [], arm0, 3, by decide +kernel⟩,
    ⟨s0, arm0, by decide +kernel⟩⟩

end J

namespace K1

def s0 : State := State.reset
def sec0 : State := { s0 with sec := { s0.sec with state := .ready, slots := [(0, { engine := 0, key := [9], origin := 0 }), (1, { engine := 1, key := [8], origin := 1 }), (63, { engine := 7, key := [1, 2], origin := 2 })], stored := [(2, { slot := { engine := 3, key := [5], origin := 2 }, wrapped := [4] }), (63, { slot := { engine := 7, key := [1, 2], origin := 2 }, wrapped := [4] })] } }
def secR (l : List (Nat × Word)) : State := { l.foldl (fun s x => s.setReg x.1 x.2) sec0 with freeCtr := 3 }
def cmd (op : Nat) (args : List Word) (len : Nat) (started : Bool) (w : Work) : Cmd :=
  { idx := 65535, desc := { opcode := op, atEpoch := false, irq := true, fence := true, tag := 0xBEEF, len := len, epoch := 0x7FFFFFFF, addr := 0x100, addr2 := 0, args := args }, started := started, work := w }
def onRing (s : State) (c : Cmd) : State := { s with host := { s0.host with up := true, ring := [(63, { state := .running, cmds := [c] })], mem := [(0x100, 7), (0x11F, 6)] } }
def kl : Cmd := cmd 0x40 [63, 9, 2, 0] 32 false .idle
def kl2 : Cmd := cmd 0x40 [2, 9, 0, 0] 16 false .idle
def sk : State := { secR [] with sec := { (secR []).sec with slots := (secR []).sec.slots ++ [(62, { engine := 8, key := [3], origin := 2 })] } }
def ku : Cmd := cmd 0x41 [2, 0x87, 1, 62] 40 false .idle
def ke : Cmd := cmd 0x42 [63] 0 false .idle
def ke2 : Cmd := cmd 0x42 [2] 0 false .idle
def ki : Cmd := cmd 0x43 [0] 0 false .idle
def ki2 : Cmd := cmd 0x43 [63] 0 false .idle
def tc : Cmd := cmd 0x44 [] 0 false .idle
def dc : Cmd := cmd 0x45 [0x44424746] 0 false .idle
def klFirst : Cmd := { kl with seq := 4 }
def turnS : State := { onRing (secR [(R.SEC_CTRL, 2)]) { kl with seq := 5 } with host := { s0.host with up := true, ring := [(63, { state := .running, cmds := [{ kl with seq := 5 }] }), (62, { state := .running, cmds := [klFirst] })] } }

theorem witness_KeyCommands :
    (∃ (s : Machine.State) (r : Nat) (c : Cmd), s.mainOn = true ∧ keyReady s r 64 c ∧ s.keyRefusal r c false = none ∧ bit (State.arg c 2) 0 = false) ∧
    (∃ (s : Machine.State) (r : Nat) (c : Cmd), s.mainOn = true ∧ keyReady s r 64 c ∧ s.keyRefusal r c false = none ∧ bit (State.arg c 2) 0 = false) ∧
    (∃ (s : Machine.State) (r : Nat) (c : Cmd) (k : KeySlot), s.mainOn = true ∧ keyReady s r 65 c ∧ s.keyRefusal r c true = none ∧
      bit (State.arg c 2) 0 = true ∧ s.slotAt (fld (State.arg c 3) 5 0) = some k) ∧
    (∃ (s : Machine.State) (r : Nat) (c : Cmd), s.mainOn = true ∧ s.sec.state = SecState.ready ∧ s.latchSet = false ∧ keyReady s r 66 c ∧
      2 ≤ BitVec.toNat (State.arg c 0) ∧ BitVec.toNat (State.arg c 0) ≤ 63 ∧ s.slotInUse (BitVec.toNat (State.arg c 0)) = false) ∧
    (∃ (s : Machine.State) (r : Nat) (c : Cmd), s.mainOn = true ∧ s.sec.state = SecState.ready ∧ s.latchSet = false ∧ keyReady s r 66 c ∧
      2 ≤ BitVec.toNat (State.arg c 0) ∧ BitVec.toNat (State.arg c 0) ≤ 63 ∧ s.slotInUse (BitVec.toNat (State.arg c 0)) = false) ∧
    (∃ (s : Machine.State) (r : Nat) (c : Cmd) (k : KeySlot), s.mainOn = true ∧ s.sec.state = SecState.ready ∧ keyReady s r 67 c ∧
      BitVec.toNat (State.arg c 0) ≤ 63 ∧ s.slotAt (BitVec.toNat (State.arg c 0)) = some k) ∧
    (∃ (s : Machine.State) (r : Nat) (c : Cmd) (k : KeySlot), s.mainOn = true ∧ s.sec.state = SecState.ready ∧ keyReady s r 67 c ∧
      BitVec.toNat (State.arg c 0) ≤ 63 ∧ s.slotAt (BitVec.toNat (State.arg c 0)) = some k) ∧
    (∃ (s : Machine.State) (r : Nat) (c : Cmd), s.mainOn = true ∧ s.sec.state = SecState.ready ∧ keyReady s r 68 c ∧ s.sec.raw = [] ∧
      (s.field R.SEC_TAMPER_LATCH 9 0 ≠ 0 ∨ s.tamperHeld = true)) ∧
    (∃ (s : Machine.State) (r : Nat) (c : Cmd), s.mainOn = true ∧ s.sec.state = SecState.ready ∧ keyReady s r 68 c ∧ s.sec.raw = [] ∧
      (s.field R.SEC_TAMPER_LATCH 9 0 ≠ 0 ∨ s.tamperHeld = true)) ∧
    (∃ (s : Machine.State) (r : Nat) (c : Cmd), s.mainOn = true ∧ s.sec.state = SecState.ready ∧ keyReady s r 68 c ∧ s.sec.raw = [] ∧
      (s.field R.SEC_TAMPER_LATCH 9 0 ≠ 0 ∨ s.tamperHeld = true)) ∧
    (∃ (s : Machine.State) (r : Nat) (c : Cmd), s.mainOn = true ∧ s.sec.state = SecState.ready ∧ s.latchSet = false ∧ keyReady s r 69 c ∧
      s.flag R.SEC_CTRL 31 = true ∧ State.arg c 0 = 1145194310) ∧
    (∃ (s : Machine.State) (r : Nat) (c : Cmd) (w : Bool), s.mainOn = true ∧ (s.tamperHeld = true ∨ s.field R.SEC_TAMPER_LATCH 9 0 ≠ 0) ∧
      keyReady s r 64 c) ∧
    (∃ (s : Machine.State) (r : Nat) (c : Cmd) (w : Bool), s.mainOn = true ∧ (s.tamperHeld = true ∨ s.field R.SEC_TAMPER_LATCH 9 0 ≠ 0) ∧
      keyReady s r 64 c) ∧
    (∃ (s : Machine.State) (r : Nat) (c : Cmd) (w : Bool), s.mainOn = true ∧ (s.tamperHeld = true ∨ s.field R.SEC_TAMPER_LATCH 9 0 ≠ 0) ∧
      keyReady s r 64 c) ∧
    (∃ (s : Machine.State) (r : Nat) (q : Nat) (w : Bool) (c : Cmd) (d : Cmd), s.mainOn = true ∧ readyCmd s r 64 c ∧
      (q ∈ List.map (fun x => x.fst) s.host.ring) ∧ readyCmd s q 64 d ∧ d.seq < c.seq) :=
  ⟨⟨onRing (secR [(R.SEC_CTRL, 2)]) kl, 63, kl, by decide +kernel⟩,
    ⟨onRing (secR [(R.SEC_CTRL, 2)]) kl2, 63, kl2, by decide +kernel⟩,
    ⟨onRing sk ku, 63, ku, { engine := 8, key := [3], origin := 2 }, by decide +kernel⟩,
    ⟨onRing sk ke, 63, ke, by decide +kernel⟩,
    ⟨onRing sk ke2, 63, ke2, by decide +kernel⟩,
    ⟨onRing sk ki, 63, ki, { engine := 0, key := [9], origin := 0 }, by decide +kernel⟩,
    ⟨onRing (secR [(R.SEC_TAMPER_LATCH, 0x40000001)]) ki2, 63, ki2, { engine := 7, key := [1, 2], origin := 2 }, by decide +kernel⟩,
    ⟨onRing (secR [(R.SEC_TAMPER_LATCH, 0x40000203)]) tc, 63, tc, by decide +kernel⟩,
    ⟨onRing (secR [(R.SEC_TAMPER_LATCH, 0x3)]) tc, 63, tc, by decide +kernel⟩,
    ⟨onRing (secR [(R.SEC_TAMPER_LATCH, 0x40000000)]) tc, 63, tc, by decide +kernel⟩,
    ⟨onRing (secR [(R.SEC_CTRL, 0x80000000)]) dc, 63, dc, by decide +kernel⟩,
    ⟨onRing (secR [(R.SEC_TAMPER_LATCH, 0x40000203)]) kl, 63, kl, true, by decide +kernel⟩,
    ⟨onRing (secR [(R.SEC_TAMPER_LATCH, 0x40000203)]) kl2, 63, kl2, false, by decide +kernel⟩,
    ⟨onRing (secR [(R.SEC_TAMPER_LATCH, 0x1)]) kl, 63, kl, true, by decide +kernel⟩,
    ⟨turnS, 63, 62, true, { kl with seq := 5 }, klFirst, by decide +kernel⟩⟩

theorem witness_TamperEvents :
    (∃ (s : Machine.State) (k : Nat) (x : Int), sensedNow s k ∧ activeAt s k x ∧ ¬k ∈ s.sec.raw ∧ s.power.state = PowerState.up ∧
      s.tamperAction k = 1) ∧
    (∃ (s : Machine.State) (k : Nat) (x : Int), sensedNow s k ∧ activeAt s k x ∧ ¬k ∈ s.sec.raw ∧ s.power.state = PowerState.up ∧
      s.tamperAction k = 1) ∧
    (∃ (s : Machine.State) (k : Nat) (x : Int), sensedNow s k ∧ activeAt s k x ∧ ¬k ∈ s.sec.raw ∧ s.power.state = PowerState.up ∧
      s.tamperAction k = 1) ∧
    (∃ (s : Machine.State) (k : Nat) (x : Int), sensedNow s k ∧ activeAt s k x ∧ ¬k ∈ s.sec.raw ∧ s.power.state = PowerState.up ∧
      s.tamperAction k = 1) ∧
    (∃ (s : Machine.State) (k : Nat) (x : Int), sensedNow s k ∧ activeAt s k x ∧ ¬k ∈ s.sec.raw ∧ s.power.state = PowerState.up ∧
      s.tamperAction k = 2) ∧
    (∃ (s : Machine.State) (k : Nat) (x : Int), sensedNow s k ∧ activeAt s k x ∧ ¬k ∈ s.sec.raw ∧ s.power.state = PowerState.up ∧
      s.tamperAction k = 2) ∧
    (∃ (s : Machine.State) (k : Nat) (x : Int), sensedNow s k ∧ activeAt s k x ∧ ¬k ∈ s.sec.raw ∧ s.power.state = PowerState.up ∧
      s.tamperAction k = 3) ∧
    (∃ (s : Machine.State) (k : Nat) (x : Int), sensedNow s k ∧ activeAt s k x ∧ ¬k ∈ s.sec.raw ∧ s.power.state = PowerState.up ∧
      s.tamperAction k = 3) ∧
    (∃ (s : Machine.State) (k : Nat) (x : Int), sensedNow s k ∧ activeAt s k x ∧ ¬k ∈ s.sec.raw ∧ s.power.state = PowerState.up ∧
      s.tamperAction k = 3) ∧
    (∃ (s : Machine.State) (k : Nat) (x : Int), sensedNow s k ∧ activeAt s k x ∧ ¬k ∈ s.sec.raw ∧ s.power.state = PowerState.up ∧
      s.tamperAction k = 2) ∧
    (∃ (s : Machine.State) (k : Nat) (x : Int), sensedNow s k ∧ activeAt s k x ∧ (s.power.state = PowerState.up ∨ k ≠ 4 ∧ k ≠ 5 ∧ k ≠ 9) ∧
      ¬k ∈ s.sec.raw ∧ s.tamperAction k = 0) ∧
    (∃ (s : Machine.State) (k : Nat) (x : Int), sensedNow s k ∧ activeAt s k x ∧ (s.power.state = PowerState.up ∨ k ≠ 4 ∧ k ≠ 5 ∧ k ≠ 9) ∧
      ¬k ∈ s.sec.raw ∧ s.tamperAction k = 0) ∧
    (∃ (s : Machine.State) (k : Nat) (x : Int), k ≤ 9 ∧ ¬activeAt s k x ∧ s.power.state = PowerState.up) ∧
    (∃ (s : Machine.State) (k : Nat) (x : Int), k ≤ 9 ∧ ¬activeAt s k x ∧ s.power.state = PowerState.up) ∧
    (∃ (s : Machine.State) (k : Nat) (x : Int), ((k = 4 ∨ k = 5 ∨ k = 9) ∧ s.power.state ≠ PowerState.up ∨ x ≠ 0 ∧ (k = 9 ∧
      s.sec.dbgFuse = true ∨ k = 8 ∧ s.power.newSupply = false))) ∧
    (∃ (s : Machine.State) (k : Nat) (x : Int), ((k = 4 ∨ k = 5 ∨ k = 9) ∧ s.power.state ≠ PowerState.up ∨ x ≠ 0 ∧ (k = 9 ∧
      s.sec.dbgFuse = true ∨ k = 8 ∧ s.power.newSupply = false))) ∧
    (∃ (s : Machine.State) (k : Nat) (x : Int), ((k = 4 ∨ k = 5 ∨ k = 9) ∧ s.power.state ≠ PowerState.up ∨ x ≠ 0 ∧ (k = 9 ∧
      s.sec.dbgFuse = true ∨ k = 8 ∧ s.power.newSupply = false))) ∧
    (∃ (s : Machine.State) (v : Word), s.mainOn = true ∧ List.lookup (Machine.canon Block.sec 0 2048) s.posted = none ∧ s.flag R.SEC_CTRL 2 = true) ∧
    (∃ (s : Machine.State), s.mainRuns = true ∧ s.sec.maint = true ∧ s.sec.raw = []) ∧
    (∃ (s : Machine.State), s.mainRuns = true ∧ s.sec.maint = true ∧ s.sec.raw = [0] ∧ s.field R.SEC_TAMPER_CTRL 1 0 = 2) ∧
    (∃ (s : Machine.State), s.mainRuns = true) ∧
    (∃ (s : Machine.State), s.mainRuns = true) :=
  ⟨⟨secR [(R.SEC_TAMPER_CTRL, 0x5555)], 7, 1, by decide +kernel⟩,
    ⟨secR [(R.SEC_TAMPER_CTRL, 0x5555), (R.SEC_TAMPER_CNT, 0xFFFF)], 0, 1, by decide +kernel⟩,
    ⟨secR [(R.SEC_TAMPER_CTRL, 0x5555)], 5, 1, by decide +kernel⟩,
    ⟨secR [(R.SEC_TAMPER_CTRL, 0x5555)], 6, 126, by decide +kernel⟩,
    ⟨{ (secR [(R.SEC_TAMPER_CTRL, 0xAAAA)]) with sec := { (secR []).sec with secret := some 4 } }, 0, 1, by decide +kernel⟩,
    ⟨{ (secR [(R.SEC_TAMPER_CTRL, 0xAAAA)]) with sec := { (secR []).sec with secret := some 4 } }, 7, 1, by decide +kernel⟩,
    ⟨{ (secR [(R.SEC_TAMPER_CTRL, 0xFFFF)]) with sec := { (secR []).sec with secret := some 4 } }, 7, 1, by decide +kernel⟩,
    ⟨{ (secR [(R.SEC_TAMPER_CTRL, 0xFFFF)]) with sec := { (secR []).sec with secret := some 4 } }, 0, 1, by decide +kernel⟩,
    ⟨{ (secR [(R.SEC_TAMPER_CTRL, 0x3FFFF)]) with power := { s0.power with newSupply := true } }, 8, 1, by decide +kernel⟩,
    ⟨secR [], 9, 1, by decide +kernel⟩,
    ⟨secR [(R.SEC_TAMPER_CTRL, 0xFF00)], 3, 1, by decide +kernel⟩,
    ⟨secR [(R.SEC_TEMP_LIMITS, 0x7D00), (R.SEC_TAMPER_CTRL, 0)], 6, -1, by decide +kernel⟩,
    ⟨secR [], 6, 125, by decide +kernel⟩,
    ⟨{ secR [(R.SEC_TAMPER_CTRL, 0xFF00)] with sec := { (secR []).sec with raw := [3, 1] } }, 3, 0, by decide +kernel⟩,
    ⟨{ secR [] with power := { s0.power with state := .standby } }, 9, 1, by decide +kernel⟩,
    ⟨{ secR [] with sec := { (secR []).sec with dbgFuse := true } }, 9, 1, by decide +kernel⟩,
    ⟨{ secR [] with power := { s0.power with newSupply := false } }, 8, 1, by decide +kernel⟩,
    ⟨secR [(R.SEC_CTRL, 4)], 0xFFFFFFFF, by decide +kernel⟩,
    ⟨{ secR [] with sec := { (secR []).sec with maint := true } }, by decide +kernel⟩,
    ⟨{ secR [(R.SEC_TAMPER_CTRL, 2)] with sec := { (secR []).sec with maint := true, raw := [0] } }, by decide +kernel⟩,
    ⟨secR [(R.SEC_TRNG_STAT, 0x1)], by decide +kernel⟩,
    ⟨secR [(R.SEC_TRNG_STAT, 0xFF01)], by decide +kernel⟩⟩

end K1

namespace K2

def s0 : State := State.reset
def pk : Peer := { mac := [1, 2, 3, 4, 5, 6], ip := 0xC0A80001, port := 4000 }
def us (x : UpdSt) (l : List (Nat × Word)) : State := { link (st ([(R.UPD_CTRL, 1), (R.UPD_IP, 0xC0A80002)] ++ l)) 36 with upd := x, freeCtr := 7 }
def x0 : UpdSession := { id := 5, len := 0x600, block := 1024, held := [0], last := 3 }
def cmd (op : Nat) (args : List Word) (len : Nat) (started : Bool) (w : Work) : Cmd :=
  { idx := 65535, desc := { opcode := op, atEpoch := false, irq := true, fence := true, tag := 0xBEEF, len := len, epoch := 0x7FFFFFFF, addr := 0x100, addr2 := 0, args := args }, started := started, work := w }
def onRing (s : State) (c : Cmd) : State := { s with host := { s0.host with up := true, ring := [(63, { state := .running, cmds := [c] })], mem := [(0x100, 7), (0x11F, 6)] } }
def ua : Cmd := cmd 0x54 [] 0 false .idle
def whole : UpdSession := { x0 with held := [1, 0] }
def uv : Cmd := cmd 0x50 [] 0 false .idle
def vs : State := us { session := some { whole with verified := true }, state := .verifying, asker := some (.net pk 5) } []
def hdr : Bytes := leBytes 4 0x4D495A4B ++ leBytes 2 1 ++ leBytes 2 0 ++ leBytes 4 0x300 ++ leBytes 4 0 ++ [0, 0, 0, 0, 0, 0, 0, 0] ++ List.replicate 488 0
def writing : State := us { session := some { whole with verified := true }, state := .writing, asker := some (.net pk 5), image := some { compat := 0x01020304 } } []
def rdy : UpdSt := { state := .ready, image := some {}, slotB := some {} }
def ac : Cmd := cmd 0x51 [1] 0 false .idle
def co : Cmd := cmd 0x52 [1] 0 false .idle
def img : ImageInfo := { compat := 7, secVersion := 9, nextKey := List.replicate 48 0 }
def conf (i : ImageInfo) (core : Bool) : State := { onRing (us { rdy with state := .idle, trial := some 100, run := some i, runB := true } [(R.HOST_RINGr_CTRL 63, if core then 0x10 else 0)]) co with
  sec := { s0.sec with state := .ready }, power := { s0.power with ready := true }, winnow := { s0.winnow with kat := some [] } }
def noTrial (c : Cmd) : State := onRing (us rdy []) c
def rj : Cmd := cmd 0x53 [1] 0 false .idle
def macUp (s : State) : State := { s.setReg (R.MACn_CTRL 36) 5 with mac := { s.mac with port := [(36, { up := true })] } }
def comp (o l : Nat) : Bytes := leBytes 4 o ++ leBytes 4 l
def hdr2 : Bytes := leBytes 4 0x4D495A4B ++ leBytes 2 1 ++ leBytes 2 0 ++ leBytes 4 0x230 ++ leBytes 4 0 ++ comp 0x200 16 ++ List.replicate 56 0 ++ comp 0x210 16 ++ List.replicate 56 0 ++ comp 0x220 16 ++ List.replicate 56 0 ++ List.replicate 304 0
def hs : State := (us {} []).wrBytes 0 hdr2

theorem witness_UpdateSessions :
    (∃ (s : Machine.State) (p : Peer) (sid : Nat) (len : Nat) (block : Nat) (x : Byte) (y : Byte), updHears s p ∧ sid < 2 ^ 32 ∧ 512 ≤ len ∧
      len ≤ 268435456 ∧ block ∈ [1024, 2048, 4096, 8192] ∧ s.upd.session = none ∧ s.upd.trial = none ∧ s.upd.state = UpdState.idle) ∧
    (∃ (s : Machine.State) (p : Peer) (sid : Nat) (len : Nat) (block : Nat) (x : Byte) (y : Byte), updHears s p ∧ sid < 2 ^ 32 ∧ 512 ≤ len ∧
      len ≤ 268435456 ∧ block ∈ [1024, 2048, 4096, 8192] ∧ s.upd.session = none ∧ s.upd.trial = none ∧ s.upd.state = UpdState.idle) ∧
    (∃ (s : Machine.State) (p : Peer) (sid : Nat) (len : Nat) (block : Nat) (x : Byte) (y : Byte), updHears s p ∧ sid < 2 ^ 32 ∧
      len < 2 ^ 32 ∧ block < 65536 ∧ (len < 512 ∨ 268435456 < len ∨ ¬block ∈ [1024, 2048, 4096, 8192]) ∧ s.upd.session = none) ∧
    (∃ (s : Machine.State) (p : Peer) (sid : Nat) (len : Nat) (block : Nat) (x : Byte) (y : Byte), updHears s p ∧ sid < 2 ^ 32 ∧
      len < 2 ^ 32 ∧ block < 65536 ∧ (len < 512 ∨ 268435456 < len ∨ ¬block ∈ [1024, 2048, 4096, 8192]) ∧ s.upd.session = none) ∧
    (∃ (s : Machine.State) (p : Peer) (sid : Nat) (len : Nat) (block : Nat) (x : Byte) (y : Byte), updHears s p ∧ sid < 2 ^ 32 ∧
      len < 2 ^ 32 ∧ block < 65536 ∧ (len < 512 ∨ 268435456 < len ∨ ¬block ∈ [1024, 2048, 4096, 8192]) ∧ s.upd.session = none) ∧
    (∃ (s : Machine.State) (p : Peer) (sid : Nat) (len : Nat) (block : Nat) (x : Byte) (y : Byte) (z : UpdSession), updHears s p ∧
      sid < 2 ^ 32 ∧ 512 ≤ len ∧ len ≤ 268435456 ∧ block ∈ [1024, 2048, 4096, 8192] ∧ s.upd.session = some z ∧ z.id ≠ sid) ∧
    (∃ (s : Machine.State) (p : Peer) (i : Nat) (d : Bytes) (x : UpdSession), updHears s p ∧ s.upd.session = some x ∧ x.id < 2 ^ 32 ∧
      x.block ≤ 8192 ∧ i < 2 ^ 32 ∧ i < State.blockCount x ∧ List.length d = State.blockLen x i ∧ x.verified = false ∧
      s.upd.state = UpdState.receiving ∧ ¬i ∈ x.held) ∧
    (∃ (s : Machine.State) (p : Peer) (i : Nat) (d : Bytes) (x : UpdSession), updHears s p ∧ s.upd.session = some x ∧ x.id < 2 ^ 32 ∧
      x.block ≤ 8192 ∧ i < 2 ^ 32 ∧ i < State.blockCount x ∧ List.length d = State.blockLen x i ∧ x.verified = false ∧
      s.upd.state = UpdState.receiving ∧ ¬i ∈ x.held) ∧
    (∃ (s : Machine.State) (p : Peer) (i : Nat) (d : Bytes) (x : UpdSession), updHears s p ∧ s.upd.session = some x ∧ x.id < 2 ^ 32 ∧
      x.block ≤ 8192 ∧ i < 2 ^ 32 ∧ i < State.blockCount x ∧ List.length d = State.blockLen x i ∧ x.verified = false ∧
      s.upd.state = UpdState.receiving ∧ i ∈ x.held) ∧
    (∃ (s : Machine.State) (p : Peer) (x : UpdSession), updHears s p ∧ s.upd.session = some x ∧ x.id < 2 ^ 32 ∧
      s.upd.state = UpdState.receiving ∧ s.upd.image = none) ∧
    (∃ (s : Machine.State) (r : Nat) (c : Cmd), s.mainOn = true ∧ readyCmd s r 84 c ∧ s.upd.state = UpdState.receiving ∧ s.upd.image = none) ∧
    (∃ (s : Machine.State) (x : UpdSession), s.mainRuns = true ∧ s.upd.session = some x ∧ s.upd.state = UpdState.receiving ∧ s.upd.image = none) ∧
    (∃ (s : Machine.State) (p : Peer) (sid : Nat), updHears s p ∧ sid < 2 ^ 32 ∧ s.upd.session = none) ∧
    (∃ (s : Machine.State) (p : Peer) (l : Bytes) (c : Instr), updHears s p ∧ State.updShape l = false ∧
      c ∈ [Instr.updOpen p l, Instr.updBlock p l, Instr.updVerify p l, Instr.updActivate p l, Instr.updAbort p l, Instr.updStatusReq p l, Instr.updRecover p l]) ∧
    (∃ (s : Machine.State) (p : Peer) (l : Bytes) (c : Instr), updHears s p ∧ State.updShape l = true ∧ State.updCrcOk l = false ∧
      c ∈ [Instr.updOpen p l, Instr.updBlock p l, Instr.updVerify p l, Instr.updActivate p l, Instr.updAbort p l, Instr.updStatusReq p l, Instr.updRecover p l]) ∧
    (∃ (s : Machine.State) (p : Peer) (sid : Nat) (len : Nat) (block : Nat) (x : Byte) (y : Byte), updHears s p ∧ sid < 2 ^ 32 ∧ 512 ≤ len ∧
      len ≤ 268435456 ∧ block ∈ [1024, 2048, 4096, 8192] ∧ s.upd.session = none ∧ s.upd.trial = none ∧ s.upd.state = UpdState.idle) ∧
    (∃ (s : Machine.State) (p : Peer) (i : Nat) (d : Bytes) (x : UpdSession), updHears s p ∧ s.upd.session = some x ∧ x.id < 2 ^ 32 ∧
      x.block ≤ 8192 ∧ i < 2 ^ 32 ∧ i < State.blockCount x ∧ List.length d = State.blockLen x i ∧ x.verified = false ∧
      s.upd.state = UpdState.receiving ∧ ¬i ∈ x.held) ∧
    (∃ (s : Machine.State) (x : UpdSession), s.mainRuns = true ∧ s.upd.session = some x ∧ s.upd.state = UpdState.receiving ∧ s.upd.image = none) :=
  ⟨⟨us {} [], pk, 0xFFFFFFFF, 0x10000000, 8192, 1, 2, by decide +kernel⟩,
    ⟨us { image := some {} } [], pk, 1, 0x200, 1024, 1, 2, by decide +kernel⟩,
    ⟨us {} [], pk, 0, 0x1FF, 8192, 1, 2, by decide +kernel⟩,
    ⟨us {} [], pk, 0, 0x10000001, 8192, 1, 2, by decide +kernel⟩,
    ⟨us {} [], pk, 0, 0xFFFFFFFF, 65535, 1, 2, by decide +kernel⟩,
    ⟨us { session := some x0, state := .receiving } [], pk, 6, 0x600, 1024, 1, 2, x0, by decide +kernel⟩,
    ⟨us { session := some x0, state := .receiving } [(R.CHECKn_VALUE 0, 4)], pk, 1, List.replicate 512 7, x0, by and_intros <;> decide +kernel⟩,
    ⟨us { session := some { x0 with held := [] }, state := .receiving } [], pk, 0, List.replicate 1024 7, { x0 with held := [] }, by and_intros <;> decide +kernel⟩,
    ⟨us { session := some x0, state := .receiving } [], pk, 0, List.replicate 1024 7, x0, by and_intros <;> decide +kernel⟩,
    ⟨us { session := some x0, state := .receiving } [], pk, x0, by decide +kernel⟩,
    ⟨onRing (us { session := some x0, state := .receiving } []) ua, 63, ua, by decide +kernel⟩,
    ⟨us { session := some x0, state := .receiving } [], x0, by decide +kernel⟩,
    ⟨us { trial := some 3, bootB := true, run := some {} } [(R.UPD_RUN_COMPAT, 0xFFFFFFFF)], pk, 0xFFFFFFFF, by decide +kernel⟩,
    ⟨us {} [], pk, [1, 2], .updRecover pk [1, 2], by decide +kernel⟩,
    ⟨us {} [], pk, (updAsk 9 4 0 []).take 19 ++ [(updAsk 9 4 0 []).getLast! + 1], .updOpen pk ((updAsk 9 4 0 []).take 19 ++ [(updAsk 9 4 0 []).getLast! + 1]), by decide +kernel⟩,
    ⟨macUp (us {} []), pk, 0xFFFFFFFF, 0x10000000, 8192, 1, 2, by decide +kernel⟩,
    ⟨macUp (us { session := some x0, state := .receiving } [(R.CHECKn_VALUE 0, 4)]), pk, 1, List.replicate 512 7, x0, by and_intros <;> decide +kernel⟩,
    ⟨{ us { session := some x0, state := .receiving } [] with time := { s0.time with frc := 50000000000 } }, x0, by decide +kernel⟩⟩

theorem witness_UpdateVerification :
    (∃ (s : Machine.State) (p : Peer) (x : UpdSession), updHears s p ∧ s.upd.session = some x ∧ x.id < 2 ^ 32 ∧
      x.held.length = State.blockCount x ∧ s.upd.state = UpdState.receiving) ∧
    (∃ (s : Machine.State) (p : Peer) (x : UpdSession), updHears s p ∧ s.upd.session = some x ∧ x.id < 2 ^ 32 ∧
      x.held.length ≠ State.blockCount x ∧ s.upd.state = UpdState.receiving) ∧
    (∃ (s : Machine.State) (r : Nat) (c : Cmd) (x : UpdSession), s.mainOn = true ∧ readyCmd s r 80 c ∧ s.upd.session = some x ∧
      x.held.length = State.blockCount x ∧ s.upd.state = UpdState.receiving) ∧
    (∃ (s : Machine.State) (p : Peer) (sid : Nat), s.mainRuns = true ∧ List.length p.mac = 6 ∧ s.upd.state = UpdState.verifying ∧
      s.upd.asker = some (UpdAsker.net p sid) ∧ s.upd.image = none ∧ s.sec.inPlace = false ∧ s.upd.runB = false) ∧
    (∃ (s : Machine.State) (base : Nat), leAt (s.rdBytes base 512) 0 4 ≠ 1296652875) ∧
    (∃ (s : Machine.State) (p : Peer) (sid : Nat) (info : ImageInfo), s.mainRuns = true ∧ List.length p.mac = 6 ∧
      s.upd.state = UpdState.writing ∧ s.upd.asker = some (UpdAsker.net p sid) ∧ s.upd.image = some info ∧ s.upd.runB = false ∧
      flashKeyHeld s = true) ∧
    (∃ (s : Machine.State) (m : Bool), s.mainRuns = true ∧ s.upd.state = UpdState.writing ∧ s.upd.asker = none ∧ s.slotAt 0 = none) ∧
    (∃ (s : Machine.State) (base : Nat), State.headerOk (s.rdBytes base 512) = true ∧ s.slotAt 1 = none) :=
  ⟨⟨us { session := some whole, state := .receiving } [], pk, whole, by decide +kernel⟩,
    ⟨us { session := some x0, state := .receiving } [], pk, x0, by decide +kernel⟩,
    ⟨onRing (us { session := some whole, state := .receiving } []) uv, 63, uv, whole, by decide +kernel⟩,
    ⟨vs, pk, 5, by decide +kernel⟩,
    ⟨vs, 0, by decide +kernel⟩,
    ⟨{ writing with sec := { s0.sec with slots := [(0, { engine := 0, key := [9], origin := 1 })] } }, pk, 5, { compat := 0x01020304 }, by decide +kernel⟩,
    ⟨{ writing with upd := { writing.upd with asker := none } }, true, by decide +kernel⟩,
    ⟨hs, 0, by decide +kernel⟩⟩

theorem witness_ActivationAndTrial :
    (∃ (s : Machine.State) (p : Peer) (sid : Nat) (force : Byte) (x : Byte) (y : Byte) (z : Byte), updHears s p ∧ sid < 2 ^ 32 ∧
      s.flag R.UPD_CTRL 1 = true ∧ s.activateStatus (force != 0) = 0 ∧ s.upd.session = none) ∧
    (∃ (s : Machine.State) (p : Peer) (sid : Nat) (force : Byte) (x : Byte) (y : Byte) (z : Byte), updHears s p ∧ sid < 2 ^ 32 ∧
      s.flag R.UPD_CTRL 1 = false ∧ s.upd.session = none) ∧
    (∃ (s : Machine.State) (r : Nat) (c : Cmd), s.mainOn = true ∧ readyCmd s r 81 c ∧ s.activateStatus (bit (State.arg c 0) 0) = 0) ∧
    (∃ (s : Machine.State) (r : Nat) (c : Cmd), s.mainOn = true ∧ readyCmd s r 81 c ∧ s.upd.state ≠ UpdState.ready) ∧
    (∃ (s : Machine.State) (r : Nat) (n : Nat) (c : Cmd) (x : ImageInfo), s.mainOn = true ∧ readyCmd s r 82 c ∧ s.coreOwned r = true ∧
      s.upd.trial = some n ∧ s.upd.run = some x ∧ s.mayConfirm = true ∧ ((List.all x.nextKey fun x => x == 0) = true)) ∧
    (∃ (s : Machine.State) (r : Nat) (n : Nat) (c : Cmd) (x : ImageInfo), s.mainOn = true ∧ readyCmd s r 82 c ∧ s.coreOwned r = true ∧
      s.upd.trial = some n ∧ s.upd.run = some x ∧ s.mayConfirm = true ∧ ((List.all x.nextKey fun x => x == 0) = false)) ∧
    (∃ (s : Machine.State) (r : Nat) (n : Nat) (c : Cmd), s.mainOn = true ∧ readyCmd s r 82 c ∧ s.coreOwned r = false ∧ s.upd.trial = some n) ∧
    (∃ (s : Machine.State) (r : Nat) (c : Cmd), s.mainOn = true ∧ readyCmd s r 82 c ∧ s.upd.trial = none) ∧
    (∃ (s : Machine.State) (r : Nat) (c : Cmd), s.mainOn = true ∧ readyCmd s r 83 c ∧ s.upd.trial = none) ∧
    (∃ (s : Machine.State) (r : Nat) (n : Nat) (c : Cmd), s.mainOn = true ∧ readyCmd s r 83 c ∧ s.upd.trial = some n ∧ s.upd.fell = none) ∧
    (∃ (s : Machine.State) (n : Nat), s.mainOn = true ∧ s.upd.trial = some n ∧ s.upd.fell = none) ∧
    (∃ (s : Machine.State) (p : Peer) (sid : Nat), updHears s p ∧ sid < 2 ^ 32 ∧ s.upd.recovery = true ∧ s.secState = 3 ∧ s.upd.session = none) ∧
    (∃ (s : Machine.State) (p : Peer) (sid : Nat), updHears s p ∧ sid < 2 ^ 32 ∧ s.upd.recovery = false ∧ s.upd.session = none) :=
  ⟨⟨us rdy [(R.UPD_CTRL, 3)], pk, 0xFFFFFFFF, 0, 1, 1, 1, by decide +kernel⟩,
    ⟨us rdy [], pk, 0xFFFFFFFF, 0, 1, 1, 1, by decide +kernel⟩,
    ⟨onRing (us rdy []) ac, 63, ac, by decide +kernel⟩,
    ⟨onRing (us { rdy with state := .writing } []) ac, 63, ac, by decide +kernel⟩,
    ⟨conf img true, 63, 100, co, img, by decide +kernel⟩,
    ⟨conf { img with nextKey := List.replicate 48 1 } true, 63, 100, co, { img with nextKey := List.replicate 48 1 }, by decide +kernel⟩,
    ⟨conf img false, 63, 100, co, by decide +kernel⟩,
    ⟨noTrial co, 63, co, by decide +kernel⟩,
    ⟨noTrial rj, 63, rj, by decide +kernel⟩,
    ⟨{ noTrial rj with upd := { rdy with trial := some 100 } }, 63, 100, rj, by decide +kernel⟩,
    ⟨us { trial := some 100 } [], 100, by decide +kernel⟩,
    ⟨{ us { recovery := true, run := none } [(R.UPD_CTRL, 0)] with sec := { s0.sec with state := .nokey, slots := [(9, { engine := 7, key := [1, 2], origin := 2 })], stored := [(9, { slot := { engine := 7, key := [1, 2], origin := 2 }, wrapped := [4] })] } }, pk, 0, by decide +kernel⟩,
    ⟨us {} [], pk, 0, by decide +kernel⟩⟩

end K2

namespace K4

def s0 : State := State.reset
def pw (p : PowerSt) (l : List (Nat × Word)) : State := { st l with power := p, freeCtr := 7, dram := [(9, 9)], host := { s0.host with mem := [(3, 3)] } }
def idleP : PowerSt := { s0.power with ready := true, bootDue := false, pllUp := true }
def busy : State := { pw { idleP with inShow := true } [(R.DRAM_CHc_TRAIN0 3, 0x1234), (R.UPD_CTRL, 3), (R.SBY_ALARM, 77), (R.SEC_TAMPER_CTRL, 3)] with
   time := { s0.time with frc := 12345, offset := 4, rate := 5 }, sec := { s0.sec with state := .ready, slots := [(9, { engine := 7, key := [1, 2], origin := 2 })], stored := [(9, { slot := { engine := 7, key := [1, 2], origin := 2 }, wrapped := [4] })], secret := some 2 } }
def boot : State := { busy with power := { s0.power with overruns := 1 } }
def slp : State := { busy with power := { idleP with entering := true } }.setReg R.SBY_CTRL 0x1F07
def stby : State := { pw { idleP with state := .standby, wakeOnly := [32, 36], wakeAddr := [(32, 0x010203040506), (36, 0x112233445566)] } [(R.SBY_CTRL, 0x1F06), (R.SBY_ALARM, 100)] with
   sec := busy.sec, dram := [] }
def ad : Bytes := [0x11, 0x22, 0x33, 0x44, 0x55, 0x66]
def off : State := { stby with power := { stby.power with state := .off, v33 := false } }.setReg R.SBY_CTRL 1
def bk (k : ResetKind) (u : UpdSt) (l : List (Nat × Word)) : State := { pw { s0.power with kind := k, overruns := 1 } l with upd := u, sec := { s0.sec with enrolled := true, secret := some 1, signer := List.replicate 48 7 } }
def im : ImageInfo := { compat := 0x01020304, secVersion := 5 }
def kept : State := { bk .warm { slotA := some im } [] with winnow := { s0.winnow with flash := [(0x20200000, 5), (0x20200001, 6)] } }
def lk : State := { (pw idleP []).setReg (R.MACn_CTRL 31) 1 with mac := { s0.mac with port := [(31, { up := true })] } }
def lost31 : State := { (pw { idleP with lost := [(.lane 31, [31])] } []).setReg (R.MACn_CTRL 31) 1 with mac := { s0.mac with port := [(31, { up := false })] } }
def rec31 : State := { lk with power := { lk.power with recovered := [31] } }
def wn (l : List (Nat × Word)) : State := pw idleP ([(R.WIN_CTRL, 1)] ++ l)

theorem witness_PowerCommandsAndResets :
    (∃ (s : Machine.State), s.mainOn = true ∧ s.power.ready = true ∧ s.power.request = none ∧ s.power.entering = false ∧ s.power.inShow = false) ∧
    (∃ (s : Machine.State), s.mainOn = true ∧ (s.power.ready = false ∨ s.power.request ≠ none)) ∧
    (∃ (s : Machine.State), s.mainOn = true ∧ (s.power.ready = false ∨ s.power.request ≠ none)) ∧
    (∃ (s : Machine.State), s.mainOn = true ∧ s.power.inShow = true) ∧
    (∃ (s : Machine.State), s.mainOn = true ∧ s.power.inShow = true) ∧
    (∃ (s : Machine.State), s.mainOn = true ∧ s.power.inShow = false ∧ (s.upd.state = UpdState.idle ∨ s.upd.state = UpdState.ready)) ∧
    (∃ (s : Machine.State), s.mainOn = true ∧
      (s.power.inShow = true ∨ s.upd.state = UpdState.receiving ∨ s.upd.state = UpdState.verifying ∨ s.upd.state = UpdState.writing)) ∧
    (∃ (s : Machine.State), s.mainOn = true ∧
      (s.power.inShow = true ∨ s.upd.state = UpdState.receiving ∨ s.upd.state = UpdState.verifying ∨ s.upd.state = UpdState.writing)) ∧
    (∃ (s : Machine.State), s.mainOn = true) ∧
    (∃ (s : Machine.State), s.mainOn = true) ∧
    (∃ (s : Machine.State), s.mainRuns = true) ∧
    (∃ (s : Machine.State), s.power.state = PowerState.up) ∧
    (∃ (s : Machine.State) (n : Nat), s.mainOn = true ∧ s.power.bootDue = true ∧ 2 ≤ s.power.overruns ∧ n < 8) :=
  ⟨⟨pw idleP [], by decide +kernel⟩,
    ⟨pw { idleP with ready := false } [], by decide +kernel⟩,
    ⟨pw { idleP with request := some false } [], by decide +kernel⟩,
    ⟨pw { idleP with inShow := true } [], by decide +kernel⟩,
    ⟨pw { idleP with inShow := true, request := some false } [], by decide +kernel⟩,
    ⟨pw idleP [], by decide +kernel⟩,
    ⟨pw { idleP with inShow := true } [], by decide +kernel⟩,
    ⟨{ pw idleP [] with upd := { s0.upd with state := .writing } }, by decide +kernel⟩,
    ⟨busy, by decide +kernel⟩,
    ⟨busy, by decide +kernel⟩,
    ⟨busy, by decide +kernel⟩,
    ⟨busy, by decide +kernel⟩,
    ⟨{ busy with power := { s0.power with overruns := 2 } }, 7, by decide +kernel⟩⟩

theorem witness_SleepAndSupplies :
    (∃ (s : Machine.State), s.mainOn = true ∧ s.power.entering = true ∧ s.power.wake = false) ∧
    (∃ (s : Machine.State), s.mainOn = true ∧ s.power.entering = true ∧ s.power.wake = true) ∧
    (∃ (s : Machine.State), s.power.state = PowerState.standby ∧ s.power.v12 = true ∧ s.flag R.SBY_CTRL 1 = true) ∧
    (∃ (s : Machine.State), s.power.state = PowerState.standby ∧ s.power.v12 = true ∧ s.flag R.SBY_CTRL 2 = true ∧
      s.rtcNow ≤ BitVec.toNat (s.reg R.SBY_ALARM)) ∧
    (∃ (s : Machine.State) (n : Nat) (l : Bytes) (pre : Bytes) (post : Bytes) (addr : Bytes), s.power.state = PowerState.standby ∧
      s.power.v12 = true ∧ 32 ≤ n ∧ n < 37 ∧ s.isWakeOnly n = true ∧ addr = beBytes 6 (Sparse.get 0 s.power.wakeAddr n) ∧
      List.take 6 l = addr ∧ List.drop 12 l = pre ++ (List.replicate 6 255 ++ (List.replicate 16 addr).flatten) ++ post) ∧
    (∃ (s : Machine.State), s.power.state = PowerState.standby ∧ s.flag R.SBY_CTRL 0 = true) ∧
    (∃ (s : Machine.State), s.power.state = PowerState.standby ∧ s.flag R.SBY_CTRL 0 = true) ∧
    (∃ (s : Machine.State), s.power.state = PowerState.standby ∧ s.flag R.SBY_CTRL 0 = false ∧ s.power.wake = false) ∧
    (∃ (s : Machine.State), s.power.state = PowerState.up) ∧
    (∃ (s : Machine.State), s.power.state = PowerState.up) ∧
    (∃ (s : Machine.State), s.power.state = PowerState.off ∧ s.power.v12 = true ∧ s.flag R.SBY_CTRL 0 = true) ∧
    (∃ (s : Machine.State), s.power.state = PowerState.off ∧ s.power.v12 = false) :=
  ⟨⟨slp, by decide +kernel⟩,
    ⟨{ slp with power := { slp.power with wake := true } }, by decide +kernel⟩,
    ⟨stby, by decide +kernel⟩,
    ⟨stby, by decide +kernel⟩,
    ⟨stby, 36, ad ++ [1, 2, 3, 4, 5, 6] ++ ([8, 0xFF] ++ (List.replicate 6 0xFF ++ (List.replicate 16 ad).flatten) ++ [1]), [8, 0xFF], [1], ad, by decide +kernel⟩,
    ⟨{ stby with power := { stby.power with v12 := false } }.setReg R.SBY_CTRL 1, by decide +kernel⟩,
    ⟨stby.setReg R.SBY_CTRL 1, by decide +kernel⟩,
    ⟨{ stby with power := { stby.power with v12 := false } }, by decide +kernel⟩,
    ⟨busy, by decide +kernel⟩,
    ⟨busy, by decide +kernel⟩,
    ⟨off, by decide +kernel⟩,
    ⟨{ off with power := { off.power with v12 := false } }, by decide +kernel⟩⟩

theorem witness_BootOutcomes :
    (∃ (s : Machine.State) (r : BootReport) (x : ImageInfo), bootSound s r ∧ nothingKept r ∧ keptTraining s ∧ s.upd.fell = none ∧
      s.upd.request = none ∧ s.upd.bootB = false ∧ s.upd.slotA = some x ∧ r.slotAOk = true) ∧
    (∃ (s : Machine.State) (r : BootReport) (x : ImageInfo), bootSound s r ∧ nothingKept r ∧ keptTraining s ∧ s.upd.fell = none ∧
      s.upd.request = none ∧ s.upd.bootB = false ∧ s.upd.slotA = some x ∧ r.slotAOk = true) ∧
    (∃ (s : Machine.State) (r : BootReport) (x : ImageInfo), bootSound s r ∧ nothingKept r ∧ keptTraining s ∧ s.upd.fell = none ∧
      s.upd.request = none ∧ s.upd.bootB = false ∧ (s.upd.slotA = none ∨ r.slotAOk = false) ∧ s.upd.slotB = some x ∧ r.slotBOk = true) ∧
    (∃ (s : Machine.State) (r : BootReport) (x : ImageInfo), bootSound s r ∧ nothingKept r ∧ keptTraining s ∧ s.upd.fell = none ∧
      s.upd.request = none ∧ s.upd.bootB = false ∧ (s.upd.slotA = none ∨ r.slotAOk = false) ∧ s.upd.slotB = some x ∧ r.slotBOk = true) ∧
    (∃ (s : Machine.State) (r : BootReport), bootSound s r ∧ nothingKept r ∧ keptTraining s ∧ s.upd.fell = none ∧ s.upd.request = none ∧
      s.upd.slotA = none ∧ s.upd.slotB = none) ∧
    (∃ (s : Machine.State) (r : BootReport), s.mainOn = true ∧ s.power.bootDue = true ∧ s.sec.eraseDue = false ∧ s.sec.enrolled = true ∧
      s.sec.secret ≠ none ∧ (r.pufOk = false ∨ 250 < r.ber) ∧ s.flag R.SEC_TAMPER_LATCH 31 = false) ∧
    (∃ (s : Machine.State) (r : BootReport), s.mainOn = true ∧ s.power.bootDue = true ∧ r.firmwareOk = false) ∧
    (∃ (s : Machine.State) (r : BootReport) (x : ImageInfo) (q : TrialReq), bootSound s r ∧ nothingKept r ∧ keptTraining s ∧
      s.upd.fell = none ∧ s.upd.request = some q ∧ s.sec.inPlace = false ∧ s.upd.runB = false ∧ s.upd.slotB = some x ∧ r.slotBOk = true) ∧
    (∃ (s : Machine.State) (r : BootReport) (x : ImageInfo), bootSound s r ∧ nothingKept r ∧ keptTraining s ∧ s.upd.fell = some true ∧
      s.sec.inPlace = false ∧ s.upd.bootB = false ∧ s.upd.slotA = some x ∧ r.slotAOk = true) ∧
    (∃ (s : Machine.State) (r : BootReport) (x : ImageInfo), bootSound s r ∧ nothingKept r ∧ s.power.kind = ResetKind.powerOn ∧
      s.winnow.train = none ∧ s.upd.fell = none ∧ s.upd.request = none ∧ s.upd.bootB = false ∧ s.upd.slotA = some x ∧ r.slotAOk = true) ∧
    (∃ (s : Machine.State) (r : BootReport) (x : ImageInfo) (a : Nat) (o : Nat) (n : Nat), bootSound s r ∧
      r.restored = [Restore.table a o n] ∧ keptTraining s ∧ s.upd.fell = none ∧ s.upd.request = none ∧ s.upd.bootB = false ∧
      s.upd.slotA = some x ∧ r.slotAOk = true ∧ (∀ (i : Nat), i < n → State.flashArea (o + i) = some State.FlashArea.config) ∧
      (∀ (i : Nat), i < n → s.protectedAt (a + i) = false)) ∧
    (∃ (s : Machine.State) (r : BootReport), s.mainOn = true ∧ s.power.bootDue = true ∧ s.sec.enrolled = true ∧ s.sec.eraseDue = true ∧
      s.flag R.SEC_TAMPER_LATCH 31 = true ∧ s.upd.request = none) ∧
    (∃ (s : Machine.State) (r : BootReport), s.mainOn = true ∧ s.power.bootDue = true ∧ s.sec.enrolled = true ∧ s.sec.eraseDue = false ∧
      s.sec.secret ≠ none ∧ r.pufOk = true ∧ r.ber ≤ 250 ∧ s.sec.struck = true ∧ s.tamperHeld = true) :=
  ⟨⟨bk .warm { slotA := some im, trial := some 4 } [], { ms := 65537 }, im, by decide +kernel⟩,
    ⟨bk .update { slotA := some im } [], { ms := 65537, slotBOk := false }, im, by decide +kernel⟩,
    ⟨bk .warm { slotA := none, slotB := some im } [], { ms := 65537 }, im, by and_intros <;> decide +kernel⟩,
    ⟨bk .warm { slotA := some im, slotB := some im } [], { slotAOk := false }, im, by and_intros <;> decide +kernel⟩,
    ⟨bk .warm { slotA := none, slotB := none } [], {}, by decide +kernel⟩,
    ⟨bk .powerOn {} [], { pufOk := false }, by decide +kernel⟩,
    ⟨bk .pin {} [], { firmwareOk := false }, by decide +kernel⟩,
    ⟨bk .update { slotB := some im, request := some { window := 3, base := 4, released := 5 } } [], {}, im, { window := 3, base := 4, released := 5 }, by and_intros <;> decide +kernel⟩,
    ⟨bk .update { slotA := some im, slotB := some {}, fell := some true, runB := true } [], {}, im, by decide +kernel⟩,
    ⟨bk .powerOn { slotA := some im } [(R.PWR_BOOT_STAGE, 0xFFFF)], { train := [(R.DRAM_CHc_TRAIN0 3, 0x1234)] }, im, by and_intros <;> decide +kernel⟩,
    ⟨kept, { restored := [.table 0x100 0x20200000 2] }, im, 0x100, 0x20200000, 2, by and_intros <;> decide +kernel⟩,
    ⟨{ bk .powerOn { slotA := some im } [(R.SEC_TAMPER_LATCH, 0xC0000001)] with sec := { (bk .powerOn {} []).sec with eraseDue := true } }, {}, by decide +kernel⟩,
    ⟨{ bk .powerOn { slotA := some im } [(R.SEC_TAMPER_LATCH, 0x40000001)] with sec := { (bk .powerOn {} []).sec with struck := true } }, {}, by and_intros <;> decide +kernel⟩⟩

theorem witness_ClocksAndPins :
    (∃ (s : Machine.State), s.mainRuns = true ∧ s.power.pllUp = true ∧ List.lookup ClockUnit.main s.power.lost = none ∧ s.frameRuns = false) ∧
    (∃ (s : Machine.State) (l : Nat), s.mainRuns = true ∧ s.power.pllUp = true ∧ l < 32 ∧ List.lookup (ClockUnit.lane l) s.power.lost = none ∧
      (s.macOf l).up = true ∧ (s.macOf l).verify = 0) ∧
    (∃ (s : Machine.State) (l : Nat), s.mainRuns = true ∧ l < 32 ∧ s.power.lost = [(ClockUnit.lane l, [l])] ∧ s.macEn l = true) ∧
    (∃ (s : Machine.State) (l : Nat), s.mainRuns = true ∧ s.power.pllUp = true ∧ l < 32 ∧ l ∈ s.power.recovered ∧
      List.lookup (ClockUnit.recovery l) s.power.lost = none ∧ (s.macOf l).up = true ∧ (s.macOf l).verify = 0) ∧
    (∃ (s : Machine.State) (l : Nat), s.mainRuns = true ∧ l < 32 ∧ ¬l ∈ s.power.recovered) ∧
    (∃ (s : Machine.State) (l : Nat), s.mainRuns = true ∧ s.power.pllUp = true ∧ l < 32 ∧ s.power.lost = [] ∧ ¬l ∈ s.power.recovered) ∧
    (∃ (s : Machine.State) (e : Int), s.mainOn = true ∧ s.winOn = true ∧ -10000 ≤ e ∧ e ≤ 10000) ∧
    (∃ (s : Machine.State) (e : Int), s.mainOn = true ∧ s.winOn = true ∧ -10000 ≤ e ∧ e ≤ 10000) ∧
    (∃ (s : Machine.State) (e : Int), s.mainOn = true ∧ s.winOn = true ∧ 10000 < e) ∧
    (∃ (s : Machine.State) (high : Bool) (v : Word), s.mainOn = true) ∧
    (∃ (s : Machine.State) (high : Bool) (v : Word), s.mainOn = true) :=
  ⟨⟨pw idleP [], by decide +kernel⟩,
    ⟨lk, 31, by decide +kernel⟩,
    ⟨lost31, 31, by decide +kernel⟩,
    ⟨rec31, 31, by decide +kernel⟩,
    ⟨lk, 31, by decide +kernel⟩,
    ⟨lk, 31, by decide +kernel⟩,
    ⟨wn [], -10000, by decide +kernel⟩,
    ⟨wn [], 10000, by decide +kernel⟩,
    ⟨wn [], 10001, by decide +kernel⟩,
    ⟨wn [(R.GPIO_OUT_HI, 0xFF)], true, 0x80000001, by decide +kernel⟩,
    ⟨wn [(R.GPIO_OUT_LO, 0xFF)], false, 0x80000001, by decide +kernel⟩⟩

end K4

namespace K5

def s0 : State := State.reset
def pw (p : PowerSt) (l : List (Nat × Word)) : State := { st l with power := p, freeCtr := 7, dram := [(9, 9)], host := { s0.host with mem := [(3, 3)] } }
def idleP : PowerSt := { s0.power with ready := true, bootDue := false, pllUp := true }
def z5 : State := { pw idleP [] with intc := { s0.intc with src := [(1669, 0x80000000)] } }
def z5e : State := { pw idleP [] with intc := { s0.intc with src := [(1669, 0xA0000000)] } }
def z6 : State := { pw idleP [] with pins := { ball := [63, 2], filt := [63, 2] } }

theorem witness_ClocksAndPins_2 :
    (∃ (s : Machine.State) (i : Nat) (held : Nat), s.mainOn = true ∧ i < 64 ∧ s.pinDrive i = none ∧ ¬i ∈ s.pins.filt ∧
      s.srcEn (1664 + i) = true ∧ s.filtCycles i ≤ held) ∧
    (∃ (s : Machine.State) (i : Nat) (held : Nat), s.mainOn = true ∧ i < 64 ∧ s.pinDrive i = none ∧ ¬i ∈ s.pins.filt ∧
      s.srcEn (1664 + i) = true ∧ s.filtCycles i ≤ held) ∧
    (∃ (s : Machine.State) (i : Nat) (held : Nat), s.mainOn = true ∧ i < 64 ∧ s.pinDrive i = none ∧ s.filtCycles i ≤ held) ∧
    (∃ (s : Machine.State) (i : Nat) (held : Nat) (level : Bool), s.mainOn = true ∧ i < 64 ∧ s.pinDrive i = none ∧ held < s.filtCycles i) :=
  ⟨⟨z5, 5, 255, by decide +kernel⟩,
    ⟨z5e, 5, 9, by decide +kernel⟩,
    ⟨z6, 63, 255, by decide +kernel⟩,
    ⟨z5.setReg (R.INTC_FILTi 5) 9, 5, 8, true, by decide +kernel⟩⟩

end K5

namespace K6

def s0 : State := State.reset
def pw (p : PowerSt) (l : List (Nat × Word)) : State := { st l with power := p, freeCtr := 7, dram := [(9, 9)], host := { s0.host with mem := [(3, 3)] } }
def idleP : PowerSt := { s0.power with ready := true, bootDue := false, pllUp := true }
def wn (l : List (Nat × Word)) : State := pw idleP ([(R.WIN_CTRL, 1)] ++ l)
def keyedW : State := { wn [] with sec := { s0.sec with slots := [(0, { engine := 0, key := [9], origin := 1 })] } }
def boot1 : State := { pw { s0.power with overruns := 1 } [] with freeCtr := 2 }

theorem witness_PowerCommandsAndResets_2 :
    (∃ (s : Machine.State) (n : Nat), s.mainOn = true ∧ s.power.bootDue = true ∧ s.power.overruns < 2 ∧ n < 8) :=
  ⟨boot1, 7, by decide +kernel⟩

theorem witness_BackgroundWork :
    (∃ (s : Machine.State), s.mainOn = true ∧ s.winOn = true ∧ s.field R.WIN_SCRUB_POS 27 0 ≠ 0) ∧
    (∃ (s : Machine.State), s.mainOn = true ∧ s.winOn = true ∧ s.field R.WIN_SCRUB_POS 27 0 ≠ 0) ∧
    (∃ (s : Machine.State) (a : Nat), s.mainOn = true ∧ a < State.dramSize ∧ s.frameRuns = false ∧ s.brace.state = BraceState.active) ∧
    (∃ (s : Machine.State) (n : Nat), s.mainOn = true ∧ s.winOn = true) ∧
    (∃ (s : Machine.State) (o : Nat) (b : Nat), s.mainOn = true ∧ s.winOn = true ∧ 2097152 ≤ o ∧ o < 270532608 ∧ flashKeyHeld s = true) ∧
    (∃ (s : Machine.State) (o : Nat) (b : Nat), s.mainOn = true ∧ s.winOn = true ∧ 2097152 ≤ o ∧ o < 270532608 ∧ flashKeyHeld s = true) ∧
    (∃ (s : Machine.State) (o : Nat) (b : Nat), s.mainOn = true ∧ s.winOn = true ∧ o ≠ 0 ∧ (o < 2097152 ∨ flashKeyHeld s = true) ∧
      s.field R.WIN_FLASH_THR 7 0 < b) ∧
    (∃ (s : Machine.State) (o : Nat) (b : Nat), s.mainOn = true ∧ s.winOn = true ∧ o ≠ 0 ∧ (o < 2097152 ∨ flashKeyHeld s = true) ∧
      s.field R.WIN_FLASH_THR 7 0 < b) ∧
    (∃ (s : Machine.State) (o : Nat) (b : Nat) (u : Bool), s.mainOn = true ∧ s.winOn = true ∧ 2097152 ≤ o ∧ s.slotAt 0 = none) ∧
    (∃ (s : Machine.State) (x : Int), s.mainOn = true ∧ s.winOn = true ∧ -32768 ≤ x ∧ x ≤ 32767) ∧
    (∃ (s : Machine.State) (x : Int), s.mainOn = true ∧ s.winOn = true ∧ -32768 ≤ x ∧ x ≤ 32767) ∧
    (∃ (s : Machine.State) (x : Nat) (y : Nat) (v : Nat), s.mainOn = true ∧ s.winOn = true ∧ x < 65536 ∧ y < 65536 ∧ v < 65536) ∧
    (∃ (s : Machine.State) (c : Nat) (v : Word), s.mainOn = true ∧ s.winOn = true ∧ s.inShow = false ∧ c < 32 ∧ s.flag R.CALIB_SC_CTRL 2 = false) ∧
    (∃ (s : Machine.State) (c : Nat) (v : Word), s.mainOn = true ∧ s.winOn = true ∧ s.inShow = true ∧ s.frameRuns = false ∧
      (s.braceOn = false ∨ s.brace.katRan = true) ∧ c < 32 ∧ s.flag R.CALIB_SC_CTRL 2 = false) ∧
    (∃ (s : Machine.State) (l : List (Nat × Word)) (o : Nat) (b : Nat) (u : Bool) (e : EccResult) (f : List EccResult) (x : List Int) (y : List Nat) (c : Instr),
      s.mainOn = true ∧
      s.winOn = false ∧
      c ∈ [Instr.dramScrub e, Instr.sramScrub f, Instr.flashRefresh o b u, Instr.telemetrySample x y, Instr.selfCalMeasure l]) ∧
    (∃ (s : Machine.State) (l : List (Nat × Word)) (o : Nat) (b : Nat) (u : Bool) (e : EccResult) (f : List EccResult) (x : List Int) (y : List Nat) (c : Instr),
      s.mainOn = true ∧
      s.winOn = false ∧
      c ∈ [Instr.dramScrub e, Instr.sramScrub f, Instr.flashRefresh o b u, Instr.telemetrySample x y, Instr.selfCalMeasure l]) :=
  ⟨⟨wn [(R.WIN_SCRUB_POS, 0x0FFFFFFF)], by decide +kernel⟩,
    ⟨wn [(R.WIN_SCRUB_POS, 0x0FFFFFFF)], by decide +kernel⟩,
    ⟨{ wn [] with brace := { s0.brace with state := .active } }, 2 ^ 34 - 1, by decide +kernel⟩,
    ⟨wn [], 3, by decide +kernel⟩,
    ⟨keyedW, 0x200000, 4, by decide +kernel⟩,
    ⟨keyedW, 0x101FFFFF, 4, by decide +kernel⟩,
    ⟨wn [], 0x1000, 300, by decide +kernel⟩,
    ⟨keyedW, 0x200000, 300, by decide +kernel⟩,
    ⟨wn [], 0x200000, 300, true, by decide +kernel⟩,
    ⟨wn [(R.WIN_TEMPi_MM 0, 0x00010001), (R.WIN_TEMP_LIM, 0x00640050)], 32767, by decide +kernel⟩,
    ⟨wn [(R.WIN_TEMPi_MM 0, 0x00010001), (R.WIN_TEMP_LIM, 0x00640050)], -32768, by decide +kernel⟩,
    ⟨wn [], 65535, 0, 3, by decide +kernel⟩,
    ⟨wn [], 31, 0xFFFFFFFF, by decide +kernel⟩,
    ⟨{ wn [] with power := { idleP with inShow := true } }, 31, 0xFFFFFFFF, by decide +kernel⟩,
    ⟨pw idleP [(R.WIN_CTRL, 0)], [(4, 4)], 0, 0, true, .corrected, [.corrected], [3], [4], .telemetrySample [3] [4], by decide +kernel⟩,
    ⟨pw idleP [(R.WIN_CTRL, 0)], [(4, 4)], 0, 0, true, .uncorrectable, [.clean], [3], [4], .dramScrub .uncorrectable, by decide +kernel⟩⟩

end K6

namespace L

def s0 : State := State.reset
theorem witness_StepRunsFront :
    (∃ (c : Instr) (s : Machine.State) (rest : List Instr), s.pending = c :: rest) ∧
    (∃ (s : Machine.State), s.pending = [] ∧ s.mainOn = true) :=
  ⟨⟨.maintEnd, { s0 with pending := [.maintEnd, .boot {}] }, [.boot {}], rfl⟩, s0, rfl, by decide +kernel⟩

theorem witness_StepKeepsInterruptRules : ∃ (s t : Machine.State), step s = .next t := ⟨s0, _, rfl⟩

theorem witness_Memories_2 :
    ∃ (s t : Machine.State) (r i o n : Nat) (f : Bool) (w : Option Bytes) (p : Peer) (m : Bytes) (c : Instr), s.MemRule ∧
      c ∈ [Instr.nop r, Instr.dmaComplete r i f, Instr.bar4Access o w n, Instr.updBlock p m, Instr.intcModRelease i] ∧
      exec c s = .next t :=
  ⟨s0, _, 63, 0, 5, 3, false, some [1, 2, 3], { mac := [], ip := 0, port := 0 }, [], .bar4Access 5 (some [1, 2, 3]) 3,
    ⟨by decide +kernel, by decide +kernel⟩, by simp, rfl⟩

def digestCmd : Cmd :=
  { idx := 65535, desc := { opcode := 50, atEpoch := false, irq := true, fence := true, tag := 0xBEEF, len := 0, epoch := 0, addr := 0, addr2 := 0, args := [] }, started := false, work := .idle }
def sheafS : State := { st [(R.SHEAF_CTRL, 1)] with host := { s0.host with up := true, ring := [(63, { state := .running, cmds := [digestCmd] })] } }
theorem witness_SheafDigests_2 :
    (∃ (s : Machine.State), s.mainOn = true ∧ s.sheafEn = true) ∧
    (∃ (s : Machine.State) (r : Nat) (c : Cmd), s.mainOn = true ∧ readyCmd s r 50 c ∧ s.sheafEn = true) :=
  ⟨⟨sheafS, by decide +kernel⟩, sheafS, 63, digestCmd, by decide +kernel⟩

end L

end Sys2Proof.Tests
end

section
/-! The PCIe link and BAR4 (R26, R392–R395): what a failed link makes of a ring, what the end of a ring's commands under error 0x03
leaves alone, and which bytes a BAR4 access moves. -/

namespace Sys2Proof.Machine

namespace Sparse

variable {α : Type}

/-- A key whose entries a filter keeps reads as before. -/
theorem get_filter_kept (d : α) (m : List (Nat × α)) {p : Nat × α → Bool} {a : Nat} (h : ∀ v, p (a, v) = true) :
    get d (m.filter p) a = get d m a := by
  induction m with
  | nil => rfl
  | cons e t ih =>
    obtain ⟨k, v⟩ := e
    by_cases hk : k = a
    · subst hk; simp [h v, get]
    · by_cases hp : p (k, v) = true <;> simp [hp, get, hk, ih]

/-- A key whose entries a filter takes out reads as the default. -/
theorem get_filter_dropped (d : α) (m : List (Nat × α)) {p : Nat × α → Bool} {a : Nat} (h : ∀ v, p (a, v) = false) :
    get d (m.filter p) a = d := by
  induction m with
  | nil => rfl
  | cons e t ih =>
    obtain ⟨k, v⟩ := e
    by_cases hk : k = a
    · subst hk; simp [h v, ih]
    · by_cases hp : p (k, v) = true <;> simp [hp, get, hk, ih]

end Sparse

namespace State

/-! ## Rings -/

theorem ringOf_of_host {s t : State} (h : t.host = s.host) (r : Nat) : t.ringOf r = s.ringOf r := by unfold ringOf; rw [h]

@[simp] theorem settle_ringOf (s : State) (r : Nat) : s.settle.ringOf r = s.ringOf r := ringOf_of_host (settle_host s) r
@[simp] theorem raise_ringOf (s : State) (a b r : Nat) : (s.raise a b).ringOf r = s.ringOf r := rfl
@[simp] theorem lower_ringOf (s : State) (a b r : Nat) : (s.lower a b).ringOf r = s.ringOf r := rfl
@[simp] theorem raiseIf_ringOf (s : State) (c : Bool) (a b r : Nat) : (s.raiseIf c a b).ringOf r = s.ringOf r := by cases c <;> rfl
@[simp] theorem setRing_ringOf (s : State) (r : Nat) (x : Ring) : (s.setRing r x).ringOf r = x := Sparse.get_put_same _ _ _ _
theorem setRing_ringOf_ne (s : State) {q r : Nat} (x : Ring) (h : q ≠ r) : (s.setRing r x).ringOf q = s.ringOf q :=
  Sparse.get_put_ne _ _ _ x h

/-- The rings visited one after the other, where a visit changes no other ring and keeps to K: so does the whole round, and it leaves
each visited ring as its own visit made it. -/
theorem foldl_rings {K : State → State → Prop} (refl : ∀ s, K s s) (trans : ∀ {s t u}, K s t → K t u → K s u)
    {f : State → Nat → State} {s : State} {n : Nat}
    (visit : ∀ t r, r < n → K s t → t.ringOf r = s.ringOf r → K t (f t r) ∧ ∀ q, q ≠ r → (f t r).ringOf q = t.ringOf q) :
    K s ((List.range n).foldl f s) ∧ (∀ r, n ≤ r → ((List.range n).foldl f s).ringOf r = s.ringOf r)
      ∧ ∀ r, r < n → ∃ t, K s t ∧ t.ringOf r = s.ringOf r ∧ ((List.range n).foldl f s).ringOf r = (f t r).ringOf r := by
  induction n with
  | zero => exact ⟨refl s, fun _ _ => rfl, fun _ h => absurd h (Nat.not_lt_zero _)⟩
  | succ n ih =>
    obtain ⟨hK, hrest, hvisited⟩ := ih (fun t r hr => visit t r (Nat.lt_succ_of_lt hr))
    obtain ⟨hstep, hother⟩ := visit _ n (Nat.lt_succ_self n) hK (hrest n (Nat.le_refl n))
    simp only [List.range_succ, List.foldl_append, List.foldl_cons, List.foldl_nil]
    refine ⟨trans hK hstep, fun r hr => ?_, fun r hr => ?_⟩
    · rw [hother r (by omega), hrest r (by omega)]
    · by_cases h : r = n
      · subst h; exact ⟨_, hK, hrest r (Nat.le_refl r), rfl⟩
      · obtain ⟨t, ht, hring, heq⟩ := hvisited r (by omega)
        exact ⟨t, ht, hring, (hother r h).trans heq⟩

/-! ## A lost link (R395) -/

theorem Differs.host {l : List Nat} {u t : State} (h : Differs l u t) : t.host = u.host := by rw [h.2.2]
theorem Differs.calib {l : List Nat} {u t : State} (h : Differs l u t) : t.calib = u.calib := by rw [h.2.2]

/-- A frame stands with any state of the host interface put into both of its states. -/
theorem Differs.withHost {l : List Nat} {u t : State} (h : Differs l u t) (x : HostSt) :
    Differs l { u with host := x } { t with host := x } := by
  obtain ⟨hreg, hsrc, hblocks⟩ := h
  refine ⟨hreg, hsrc, ?_⟩
  rw [hblocks]

theorem ringCtrl_ne_hostStatus (r : Nat) : R.HOST_RINGr_CTRL r ≠ R.HOST_STATUS := by
  simp only [R.HOST_RINGr_CTRL, R.HOST_STATUS]; omega
theorem ringCtrl_ne_rerouteCnt (r : Nat) : R.HOST_RINGr_CTRL r ≠ R.INTC_REROUTE_CNT := by
  simp only [R.HOST_RINGr_CTRL, R.INTC_REROUTE_CNT]; omega
theorem ringCtrl_ne {q r : Nat} (h : q ≠ r) : R.HOST_RINGr_CTRL q ≠ R.HOST_RINGr_CTRL r := by
  simp only [R.HOST_RINGr_CTRL]; omega
/-- The registers of the rings lie below the MSI-X table. -/
theorem ringCtrl_lt {r : Nat} (h : r < 64) : R.HOST_RINGr_CTRL r < 0x31000 := by
  simp only [R.HOST_RINGr_CTRL]; omega

/-- R396: whose a ring is stands in its own register. -/
theorem Differs.coreOwned {u t : State} (h : Differs [R.HOST_STATUS] u t) (r : Nat) : t.coreOwned r = u.coreOwned r := by
  unfold State.coreOwned flag
  rw [h.1 _ (by simpa using ringCtrl_ne_hostStatus r) (ringCtrl_ne_rerouteCnt r)]

/-- What a transfer that fails over PCIe makes of a ring (R402, R395, R403). -/
def failedRing (x : Ring) : Ring := match x.state with
  | .disabled => x
  | .draining => { x with err := 3 }
  | _ => { x with state := .stopped, err := 3 }

theorem failedRing_of_disabled {x : Ring} (h : x.state = .disabled) : failedRing x = x := by simp [failedRing, h]
theorem failedRing_of_draining {x : Ring} (h : x.state = .draining) : failedRing x = { x with err := 3 } := by simp [failedRing, h]
theorem failedRing_of_enabled {x : Ring} (h : x.state = .running ∨ x.state = .stopped) :
    failedRing x = { x with state := .stopped, err := 3 } := by
  rcases h with h | h <;> simp [failedRing, h]

/-- A ring that has failed is disabled, or ends under error 0x03. -/
theorem failedRing_disabled_or_err (x : Ring) : (failedRing x).state = .disabled ∨ (failedRing x).err = 3 := by
  unfold failedRing
  split
  · exact .inl ‹_›
  · exact .inr rfl
  · exact .inr rfl

theorem pcieFail_ringOf (s : State) (r : Nat) : (s.pcieFail r).ringOf r = failedRing (s.ringOf r) := by
  cases h : (s.ringOf r).state <;> simp [pcieFail, failedRing, stopRing, h]

theorem pcieFail_ringOf_ne (s : State) {q r : Nat} (h : q ≠ r) : (s.pcieFail r).ringOf q = s.ringOf q := by
  unfold pcieFail
  split
  · rfl
  · exact setRing_ringOf_ne s _ h
  · exact setRing_ringOf_ne s _ h

/-- What stopping rings leaves of s: all but the rings and HOST_STATUS, whose set bits stay set. -/
structure StopsRings (s t : State) : Prop where
  frame : Differs [R.HOST_STATUS] { s with host := t.host } t
  host : t.host = { s.host with ring := t.host.ring }
  sticky : ∀ b, s.flag R.HOST_STATUS b = true → t.flag R.HOST_STATUS b = true

theorem StopsRings.refl (s : State) : StopsRings s s := ⟨Differs.refl _ s, rfl, fun _ h => h⟩

theorem StopsRings.trans {s t u : State} (h : StopsRings s t) (g : StopsRings t u) : StopsRings s u where
  frame := (h.frame.withHost u.host).trans g.frame
  host := by rw [g.host, h.host]
  sticky b hb := g.sticky b (h.sticky b hb)

theorem StopsRings.coreOwned {s t : State} (h : StopsRings s t) (r : Nat) : t.coreOwned r = s.coreOwned r := h.frame.coreOwned r

theorem stopsRings_setRing (s : State) (r : Nat) (x : Ring) : StopsRings s (s.setRing r x) := ⟨Differs.refl _ _, rfl, fun _ h => h⟩

theorem stopsRings_stopRing (s : State) (r err : Nat) : StopsRings s (s.stopRing r err) where
  frame := differs_raise (s.setRing r _) 0 (by simp)
  host := rfl
  sticky _ hb := raise_flag_mono (s.setRing r _) _ (by decide) hb

theorem stopsRings_pcieFail (s : State) (r : Nat) : StopsRings s (s.pcieFail r) := by
  unfold pcieFail
  split
  · exact StopsRings.refl s
  · exact stopsRings_setRing s r _
  · exact stopsRings_stopRing s r 3

/-- R395: the visits of `hostStop`, by the lemma about a round of rings. -/
theorem hostStop_visits (s : State) :
    StopsRings s s.hostStop ∧ (∀ r, 64 ≤ r → s.hostStop.ringOf r = s.ringOf r)
      ∧ ∀ r, r < 64 → ∃ t, StopsRings s t ∧ t.ringOf r = s.ringOf r
          ∧ s.hostStop.ringOf r = (if t.coreOwned r then t else t.pcieFail r).ringOf r := by
  refine foldl_rings StopsRings.refl StopsRings.trans (fun t r _ _ _ => ?_)
  split
  · exact ⟨StopsRings.refl t, fun _ _ => rfl⟩
  · exact ⟨stopsRings_pcieFail t r, fun _ h => pcieFail_ringOf_ne t h⟩

theorem stopsRings_hostStop (s : State) : StopsRings s s.hostStop := (hostStop_visits s).1

/-- R395: a ring of the PCIe host fails. -/
theorem hostStop_ringOf (s : State) {r : Nat} (hr : r < 64) (ho : s.coreOwned r = false) :
    s.hostStop.ringOf r = failedRing (s.ringOf r) := by
  obtain ⟨t, ht, hring, heq⟩ := (hostStop_visits s).2.2 r hr
  rw [heq, if_neg (by simp [ht.coreOwned, ho]), pcieFail_ringOf, hring]

/-- R395: a ring of the control cores, and one that is disabled, stays as it is. -/
theorem hostStop_ringOf_kept (s : State) {r : Nat} (h : s.coreOwned r = true ∨ (s.ringOf r).state = .disabled) :
    s.hostStop.ringOf r = s.ringOf r := by
  by_cases hr : r < 64
  · cases ho : s.coreOwned r with
    | true =>
      obtain ⟨t, ht, hring, heq⟩ := (hostStop_visits s).2.2 r hr
      rw [heq, if_pos (by simp [ht.coreOwned, ho]), hring]
    | false => rw [hostStop_ringOf s hr ho, failedRing_of_disabled (h.resolve_left (by simp [ho]))]
  · exact (hostStop_visits s).2.1 r (by omega)

/-! ## Commands that end under error 0x03 (R402, R403) -/

/-- Commands of ring r end without a completion: nothing changes but that ring's commands and the staged updates. -/
structure EndsUnwritten (r : Nat) (s t : State) : Prop where
  rest : t = { s with staged := t.staged, host := { s.host with ring := t.host.ring } }
  ring : t.ringOf r = { s.ringOf r with cmds := (t.ringOf r).cmds }
  others : ∀ q, q ≠ r → t.ringOf q = s.ringOf q

theorem EndsUnwritten.refl (r : Nat) (s : State) : EndsUnwritten r s s := ⟨rfl, rfl, fun _ _ => rfl⟩

theorem EndsUnwritten.trans {r : Nat} {s t u : State} (h : EndsUnwritten r s t) (g : EndsUnwritten r t u) : EndsUnwritten r s u where
  rest := by rw [g.rest, h.rest]
  ring := by rw [g.ring, h.ring]
  others q hq := (g.others q hq).trans (h.others q hq)

theorem EndsUnwritten.err {r : Nat} {s t : State} (h : EndsUnwritten r s t) : (t.ringOf r).err = (s.ringOf r).err := by rw [h.ring]
theorem EndsUnwritten.calib {r : Nat} {s t : State} (h : EndsUnwritten r s t) : t.calib = s.calib := by rw [h.rest]

theorem endsUnwritten_setCmds (s : State) (r : Nat) (l : List Cmd) : EndsUnwritten r s (s.setRing r { s.ringOf r with cmds := l }) where
  rest := rfl
  ring := by simp
  others _ hq := setRing_ringOf_ne s _ hq

theorem endsUnwritten_withdrawUpdate (s : State) (r g : Nat) : EndsUnwritten r s (s.withdrawUpdate g) := ⟨rfl, rfl, fun _ _ => rfl⟩

theorem endsUnwritten_completeOne {s : State} {r : Nat} (h : (s.ringOf r).err = 3) (i st r0 r1 d : Nat) :
    EndsUnwritten r s (s.completeOne r i st r0 r1 d) := by
  unfold completeOne
  simp only
  split
  · exact EndsUnwritten.refl r s
  · simpa [h] using endsUnwritten_setCmds s r ((s.ringOf r).cmds.filter (fun c => c.idx != i))

theorem endsUnwritten_reap {s : State} {r : Nat} (h : (s.ringOf r).err = 3) (n : Nat) : EndsUnwritten r s (s.reap r n) := by
  induction n generalizing s with
  | zero => exact EndsUnwritten.refl r s
  | succ n ih =>
    rw [reap]
    split
    · exact EndsUnwritten.refl r s
    · rename_i c _
      split
      · exact EndsUnwritten.refl r s
      · have hone := endsUnwritten_completeOne h c.idx stBadOpcode 0 0 0
        exact hone.trans (ih (hone.err.trans h))

theorem endsUnwritten_complete {s : State} {r : Nat} (h : (s.ringOf r).err = 3) (i st r0 r1 d : Nat) :
    EndsUnwritten r s (s.complete r i st r0 r1 d) := by
  have hone := endsUnwritten_completeOne h i st r0 r1 d
  exact hone.trans (endsUnwritten_reap (hone.err.trans h) _)

/-- R403: a waiting command that is aborted under error 0x03, where no CALIB command runs. -/
theorem endsUnwritten_abortWait {s : State} {r : Nat} (h : (s.ringOf r).err = 3) (hc : s.calib.run = none) (c : Cmd) :
    EndsUnwritten r s (abortWait r s c) := by
  unfold abortWait
  split
  · exact endsUnwritten_complete h _ _ _ _ _
  · exact endsUnwritten_complete h _ _ _ _ _
  · split
    · exact (endsUnwritten_withdrawUpdate s r _).trans (endsUnwritten_complete (s := s.withdrawUpdate _) h _ _ _ _ _)
    · exact EndsUnwritten.refl r s
  · simp only [hc]
    exact EndsUnwritten.refl r s
  · exact EndsUnwritten.refl r s

theorem endsUnwritten_abortWaits {s : State} {r : Nat} (h : (s.ringOf r).err = 3) (hc : s.calib.run = none) (l : List Cmd) :
    EndsUnwritten r s (l.foldl (abortWait r) s) := by
  induction l generalizing s with
  | nil => exact EndsUnwritten.refl r s
  | cons c l ih =>
    have hone := endsUnwritten_abortWait h hc c
    exact hone.trans (ih (hone.err.trans h) (by rw [hone.calib, hc]))

/-! ## A function-level reset (R395) -/

/-- What disabling host rings leaves of s: the function's MSI-X state, whose each ring is, CALIB, and every register but those of the
rings. -/
structure DisablesRings (s t : State) : Prop where
  msixEn : t.host.msixEn = s.host.msixEn
  funcMask : t.host.funcMask = s.host.funcMask
  pba : t.host.pba = s.host.pba
  calib : t.calib = s.calib
  owner : ∀ r, t.coreOwned r = s.coreOwned r
  regs : ∀ a, 0x31000 ≤ a → t.reg a = s.reg a

theorem DisablesRings.refl (s : State) : DisablesRings s s := ⟨rfl, rfl, rfl, rfl, fun _ => rfl, fun _ _ => rfl⟩

theorem DisablesRings.trans {s t u : State} (h : DisablesRings s t) (g : DisablesRings t u) : DisablesRings s u where
  msixEn := g.msixEn.trans h.msixEn
  funcMask := g.funcMask.trans h.funcMask
  pba := g.pba.trans h.pba
  calib := g.calib.trans h.calib
  owner r := (g.owner r).trans (h.owner r)
  regs a ha := (g.regs a ha).trans (h.regs a ha)

theorem EndsUnwritten.disablesRings {r : Nat} {s t : State} (h : EndsUnwritten r s t) : DisablesRings s t where
  msixEn := by rw [h.rest]
  funcMask := by rw [h.rest]
  pba := by rw [h.rest]
  calib := h.calib
  owner q := by rw [h.rest]; rfl
  regs a _ := by rw [h.rest]; rfl

/-- EN of ring r reads 0: OWNER of every ring is another bit or another register. -/
theorem lowerEn_coreOwned (s : State) (q r : Nat) : (s.lower (R.HOST_RINGr_CTRL r) 0).coreOwned q = s.coreOwned q := by
  unfold coreOwned
  by_cases h : q = r
  · subst h; exact lower_flag_ne s _ (by decide) (by decide)
  · exact lower_flag_other s _ _ (ringCtrl_ne h)

theorem disablesRings_startDrain (s : State) {r : Nat} (hr : r < 64) (x : Ring) :
    DisablesRings s ((s.setRing r x).lower (R.HOST_RINGr_CTRL r) 0) where
  msixEn := rfl
  funcMask := rfl
  pba := rfl
  calib := rfl
  owner q := lowerEn_coreOwned (s.setRing r x) q r
  regs a ha := lower_reg_ne (s.setRing r x) 0 (by have := ringCtrl_lt hr; omega)

/-- EN = 0 on a ring that is disabled or under error 0x03, where no CALIB command runs. -/
theorem ringDisable_visit {s : State} {r : Nat} (hc : s.calib.run = none) (h : (s.ringOf r).state = .disabled ∨ (s.ringOf r).err = 3) :
    DisablesRings s (s.ringDisable r) ∧ ∀ q, q ≠ r → (s.ringDisable r).ringOf q = s.ringOf q := by
  unfold ringDisable
  simp only
  split
  · rename_i hen
    obtain ⟨hr, hstate⟩ := hen
    have herr : (s.ringOf r).err = 3 := h.resolve_left (fun hd => by simp [hd] at hstate)
    have hends := endsUnwritten_abortWaits (s := (s.setRing r { s.ringOf r with state := .draining }).lower (R.HOST_RINGr_CTRL r) 0)
      (r := r) (by simp [herr]) hc ((s.ringOf r).cmds.filter (·.started))
    exact ⟨(disablesRings_startDrain s hr _).trans hends.disablesRings,
      fun q hq => (hends.others q hq).trans (setRing_ringOf_ne s _ hq)⟩
  · exact ⟨DisablesRings.refl s, fun _ _ => rfl⟩

/-- R403: EN = 0 on an enabled ring without commands drains it. -/
theorem ringDisable_ringOf_empty {s : State} {r : Nat} (hr : r < 64) (hstate : (s.ringOf r).state = .stopped)
    (hcmds : (s.ringOf r).cmds = []) :
    (s.ringDisable r).ringOf r = { s.ringOf r with state := .draining } := by
  simp [ringDisable, hr, hstate, hcmds]

/-- The state of a function-level reset before its rings are disabled: they have stopped, and the MSI-X table and its enables are clear. -/
def flrStopped (s : State) : State :=
  { s.hostStop with regs := s.hostStop.regs.filter (fun x => !(decide (0x31000 ≤ x.1) && decide (x.1 < 0x32000)))
                    host := { s.hostStop.host with msixEn := false, funcMask := false, pba := [] } }

theorem flr_eq (s : State) :
    s.flr = (List.range 64).foldl (fun s r => if s.coreOwned r then s else s.ringDisable r) s.flrStopped := rfl

@[simp] theorem flrStopped_ringOf (s : State) (r : Nat) : s.flrStopped.ringOf r = s.hostStop.ringOf r := rfl

theorem flrStopped_calib (s : State) : s.flrStopped.calib = s.calib := (stopsRings_hostStop s).frame.calib

theorem flrStopped_reg (s : State) {a : Nat} (h : 0x31000 ≤ a) (h' : a < 0x32000) : s.flrStopped.reg a = resetOf a :=
  Sparse.get_filter_dropped _ _ (fun _ => by simp [h, h'])

theorem flrStopped_coreOwned (s : State) {r : Nat} (hr : r < 64) : s.flrStopped.coreOwned r = s.coreOwned r := by
  have hctrl : s.flrStopped.reg (R.HOST_RINGr_CTRL r) = s.hostStop.reg (R.HOST_RINGr_CTRL r) :=
    Sparse.get_filter_kept _ _ (fun _ => by simp [ringCtrl_lt hr])
  rw [← (stopsRings_hostStop s).coreOwned r]
  unfold coreOwned flag
  rw [hctrl]

/-- R395: the visits of `flr`, by the lemma about a round of rings: every host ring it meets is disabled or has failed. -/
theorem flr_visits {s : State} (hc : s.calib.run = none) :
    DisablesRings s.flrStopped s.flr ∧ (∀ r, 64 ≤ r → s.flr.ringOf r = s.flrStopped.ringOf r)
      ∧ ∀ r, r < 64 → ∃ t, DisablesRings s.flrStopped t ∧ t.ringOf r = s.flrStopped.ringOf r
          ∧ s.flr.ringOf r = (if t.coreOwned r then t else t.ringDisable r).ringOf r := by
  rw [flr_eq]
  refine foldl_rings DisablesRings.refl DisablesRings.trans (fun t r hr ht hring => ?_)
  split
  · exact ⟨DisablesRings.refl t, fun _ _ => rfl⟩
  · rename_i ho
    rw [ht.owner, flrStopped_coreOwned s hr] at ho
    refine ringDisable_visit (by rw [ht.calib, flrStopped_calib, hc]) ?_
    rw [hring, flrStopped_ringOf, hostStop_ringOf s hr (by simpa using ho)]
    exact failedRing_disabled_or_err _

theorem flr_ringOf_coreOwned {s : State} (hc : s.calib.run = none) {r : Nat} (hr : r < 64) (ho : s.coreOwned r = true) :
    s.flr.ringOf r = s.ringOf r := by
  obtain ⟨t, ht, hring, heq⟩ := (flr_visits hc).2.2 r hr
  rw [heq, if_pos (by rw [ht.owner, flrStopped_coreOwned s hr, ho]), hring, flrStopped_ringOf, hostStop_ringOf_kept s (.inl ho)]

theorem flr_ringOf_empty {s : State} (hc : s.calib.run = none) {r : Nat} (hr : r < 64) (ho : s.coreOwned r = false)
    (hstate : (s.ringOf r).state = .running) (hcmds : (s.ringOf r).cmds = []) :
    s.flr.ringOf r = { s.ringOf r with state := .draining, err := 3 } := by
  obtain ⟨t, ht, hring, heq⟩ := (flr_visits hc).2.2 r hr
  rw [flrStopped_ringOf, hostStop_ringOf s hr ho, failedRing_of_enabled (.inl hstate)] at hring
  rw [heq, if_neg (by simp [ht.owner, flrStopped_coreOwned s hr, ho]),
    ringDisable_ringOf_empty hr (by rw [hring]) (by rw [hring]; exact hcmds), hring]

/-! ## Bytes that land (R199) -/

/-- Protection depends on the registers and on CALIB's state alone. -/
theorem protectedAt_of_regs {s t : State} (hr : t.regs = s.regs) (hc : t.calib = s.calib) (a : Nat) :
    t.protectedAt a = s.protectedAt a := by
  have hreg : t.reg = s.reg := funext (reg_of_regs hr)
  unfold protectedAt bankBase bankSize field flag
  rw [hreg, hc]

@[simp] theorem wr8_protectedAt (s : State) (a b : Nat) (v : Byte) : (s.wr8 b v).protectedAt a = s.protectedAt a :=
  protectedAt_of_regs (wr8_regs s b v) (wr8_calib s b v) a

theorem landBytes_unprotected (s : State) (a : Nat) (l : Bytes) (h : ∀ k, k < l.length → s.protectedAt (a + k) = false) :
    s.landBytes a l = (0, s.wrBytes a l) := by
  induction l generalizing s a with
  | nil => rfl
  | cons b t ih =>
    have hhead : s.protectedAt a = false := h 0 (by simp)
    have htail : ∀ k, k < t.length → (s.wr8 a b).protectedAt (a + 1 + k) = false := fun k hk => by
      rw [wr8_protectedAt, Nat.add_assoc, Nat.add_comm 1 k]
      exact h (k + 1) (by simpa using hk)
    simp [landBytes, hhead, ih _ _ htail, wrBytes]

theorem wrBytes_eq (s : State) (a : Nat) (l : Bytes) : s.wrBytes a l = { s with dram := (s.wrBytes a l).dram } := by
  induction l generalizing s a with
  | nil => rfl
  | cons b t ih =>
    have hbyte : s.wr8 a b = { s with dram := (s.wr8 a b).dram } := by unfold wr8; split <;> rfl
    rw [wrBytes, ih, hbyte]

theorem rdBytes_eq_map (s : State) (a n : Nat) : s.rdBytes a n = (List.range n).map (fun i => s.rd8 (a + i)) := by
  induction n generalizing a with
  | zero => rfl
  | succ n ih =>
    rw [rdBytes, ih, List.range_succ_eq_map, List.map_cons, List.map_map]
    congr 1
    exact List.map_congr_left (fun i _ => by simp only [Function.comp, Nat.succ_eq_add_one]; congr 1; omega)

theorem wrBytes_rdBytes (s : State) (a : Nat) (l : Bytes) (h : a + l.length ≤ dramSize) : (s.wrBytes a l).rdBytes a l.length = l := by
  rw [rdBytes_eq_map]
  refine List.ext_getElem (by simp) (fun i _ hi => ?_)
  simp [wrBytes_rd8_inside s a l hi h]

/-! ## BAR4 (R26, R394) -/

/-- R394: the window is open at offset o while the link is up. -/
theorem bar4_open {s : State} {o : Nat} (hup : s.host.up = true) (ho : o < 2 ^ s.host.bar4) :
    (!s.host.up || decide (2 ^ s.host.bar4 ≤ o)) = false := by
  rw [hup, decide_eq_false (Nat.not_le.mpr ho)]; rfl

theorem bar4_write {s : State} {o : Nat} (hup : s.host.up = true) (ho : o < 2 ^ s.host.bar4) (l : Bytes) (n : Nat) :
    s.bar4 o (some l) n = s.barWrite (s.bar4Addr o) l := by
  simp only [bar4, bar4_open hup ho, Bool.false_eq_true, if_false]

theorem barWrite_dram {s : State} {a : Nat} {l : Bytes} (ha : a + l.length ≤ fwBase)
    (h : ∀ k, k < l.length → s.protectedAt (a + k) = false) :
    s.barWrite a l = s.wrBytes a l := by
  simp [barWrite, Nat.not_lt.mpr ha, List.take_of_length_le (show l.length ≤ fwBase - a by omega), landBytes_unprotected s a l h]

theorem barWrite_fwRegion {s : State} {a : Nat} {l : Bytes} (hl : 0 < l.length) (ha : fwBase ≤ a) : s.barWrite a l = s.fwRegion := by
  simp [barWrite, show fwBase < a + l.length by omega, Nat.sub_eq_zero_of_le ha, landBytes]

/-- A read through the window of DRAM below the firmware's region. -/
theorem bar4_read_dram {s : State} {o : Nat} (hup : s.host.up = true) (ho : o < 2 ^ s.host.bar4) (ha : s.bar4Addr o + 4 ≤ fwBase) :
    s.bar4 o none 4 = { s with bus := w32 (s.rdLE (s.bar4Addr o) 4) } := by
  have hbytes : (List.range 4).map (fun i => if s.bar4Addr o + i < fwBase then s.rd8 (s.bar4Addr o + i) else 0)
      = s.rdBytes (s.bar4Addr o) 4 := by
    rw [rdBytes_eq_map]
    exact List.map_congr_left (fun i hi => if_pos (by rw [List.mem_range] at hi; omega))
  simp only [bar4, bar4_open hup ho, Bool.false_eq_true, Nat.not_lt.mpr ha, if_false, Nat.min_self, hbytes, rdLE]

theorem leNat_zeros (n : Nat) : leNat (List.replicate n 0) = 0 := by
  induction n with
  | zero => rfl
  | succ n ih => rw [List.replicate_succ, leNat, ih]; rfl

/-- R26: a read of the firmware's region returns 0. -/
theorem bar4_read_fwRegion {s : State} {o n : Nat} (hup : s.host.up = true) (ho : o < 2 ^ s.host.bar4) (hn : 0 < n)
    (ha : fwBase ≤ s.bar4Addr o) : s.bar4 o none n = { s.fwRegion with bus := 0 } := by
  have hzeros : (List.range (min 4 n)).map (fun i => if s.bar4Addr o + i < fwBase then s.rd8 (s.bar4Addr o + i) else 0)
      = List.replicate (min 4 n) 0 := by
    rw [List.map_congr_left (g := fun _ => (0 : Byte)) (fun i _ => if_neg (by omega)), List.map_const', List.length_range]
  have hpast : fwBase < s.bar4Addr o + n := by omega
  simp only [bar4, bar4_open hup ho, Bool.false_eq_true, hpast, if_true, if_false, hzeros, leNat_zeros]
  rfl

@[simp] theorem fwRegion_count (s : State) : s.fwRegion.reg R.HOST_FWREGION_CNT = s.reg R.HOST_FWREGION_CNT + 1 := by
  rw [fwRegion, raise_reg_ne _ _ (by decide), bump_reg]

@[simp] theorem fwRegion_flag (s : State) : s.fwRegion.flag R.HOST_STATUS 1 = true := raise_flag _ _ (by decide)

theorem differs_fwRegion (s : State) : Differs [R.HOST_FWREGION_CNT, R.HOST_STATUS] s s.fwRegion :=
  (differs_bump s (by simp)).trans (differs_raise _ 1 (by simp))

end State

/-! ## HOST_LINK (R395) -/

open State

theorem clampNat_eq_self {lo hi n : Nat} (h : lo ≤ n) (h' : n ≤ hi) : clampNat lo hi n = n := by
  simp [clampNat, Nat.not_lt.mpr h, Nat.not_lt.mpr h']

/-- R395: HOST_LINK.UP changes where c holds, and the host interface is h from then on. -/
def linkChange (s : State) (h : HostSt) (c : Bool) : State := ({ s with host := h }).raiseIf c R.HOST_STATUS 2

theorem linkUp_eq {s : State} {gen width b : Nat} (m f : Bool) (hlock : s.unitLost .pcie = false) (hgen : gen ∈ [3, 4, 5])
    (hwidth : width ∈ [1, 2, 4, 8]) (hb : 28 ≤ b) (hb' : b ≤ 34) :
    s.linkUp gen width b m f
      = linkChange s { s.host with up := true, gen := gen, width := width, bar4 := b, msixEn := m, funcMask := f } (!s.host.up) := by
  have hg : clampNat 3 5 gen = gen := by
    simp only [List.mem_cons, List.not_mem_nil, or_false] at hgen
    rcases hgen with rfl | rfl | rfl <;> rfl
  have hw : (if 8 ≤ width then 8 else if 4 ≤ width then 4 else if 2 ≤ width then 2 else 1) = width := by
    simp only [List.mem_cons, List.not_mem_nil, or_false] at hwidth
    rcases hwidth with rfl | rfl | rfl | rfl <;> rfl
  simp only [linkUp, hlock, hg, hw, clampNat_eq_self hb hb', Bool.false_eq_true, if_false, linkChange]

theorem differs_linkChange (s : State) (h : HostSt) (c : Bool) :
    Differs [R.HOST_STATUS] { s with host := h } (linkChange s.begun h c) :=
  (differs_begin _).trans (differs_raiseIf _ c 2 (by simp))

theorem linkChange_flag (s : State) (h : HostSt) (c : Bool) :
    (linkChange s h c).flag R.HOST_STATUS 2 = (s.flag R.HOST_STATUS 2 || c) := by
  cases c
  · exact (Bool.or_false _).symm
  · rw [Bool.or_true]; exact raise_flag _ _ (by decide)

theorem linkChange_ringOf (s : State) {h : HostSt} (hring : h.ring = s.host.ring) (c : Bool) (r : Nat) :
    (linkChange s h c).ringOf r = s.ringOf r := by
  rw [linkChange, raiseIf_ringOf, ringOf, ringOf, ← hring]

/-- A lost link before its rings stop. -/
def linkDown (s : State) : State := linkChange s { s.host with up := false, gen := 0, width := 0 } s.host.up

theorem linkLoss_eq (s : State) : s.linkLoss = (linkDown s).hostStop := rfl

theorem differs_linkDown (s : State) :
    Differs [R.HOST_STATUS] { s with host := { s.host with up := false, gen := 0, width := 0 } } (linkDown s.begun) :=
  differs_linkChange s _ s.host.up

theorem linkDown_ringOf (s : State) (r : Nat) : (linkDown s.begun).ringOf r = s.ringOf r :=
  linkChange_ringOf s.begun (h := { s.host with up := false, gen := 0, width := 0 }) rfl s.host.up r

/-! ## The clauses of HostLink -/

/-- A link that comes up (R393, R395). -/
theorem exec_pcieLinkUp_next (s : State) (gen width b : Nat) (m f : Bool) (hmain : s.mainOn = true) (hlock : s.unitLost .pcie = false)
    (hgen : gen ∈ [3, 4, 5]) (hwidth : width ∈ [1, 2, 4, 8]) (hb : 28 ≤ b) (hb' : b ≤ 34) :
    ∃ t, exec (.pcieLinkUp gen width b m f) s = .next t
      ∧ t.host = { s.host with up := true, gen := gen, width := width, bar4 := b, msixEn := m, funcMask := f }
      ∧ t.flag R.HOST_STATUS 2 = (s.flag R.HOST_STATUS 2 || !s.host.up) ∧ State.Differs [R.HOST_STATUS] { s with host := t.host } t := by
  have hrun : exec (.pcieLinkUp gen width b m f) s = .next (linkChange s.begun
      { s.host with up := true, gen := gen, width := width, bar4 := b, msixEn := m, funcMask := f } (!s.host.up)).settle := by
    rw [exec_pcieLinkUp, execPcieLinkUp, onMain_on _ hmain, linkUp_eq (s := s.begun) m f hlock hgen hwidth hb hb']
    rfl
  have hframe := differs_linkChange s
    { s.host with up := true, gen := gen, width := width, bar4 := b, msixEn := m, funcMask := f } (!s.host.up)
  have hhost := hframe.settled.host
  refine ⟨_, hrun, hhost, ?_, ?_⟩
  · rw [settle_flag _ _ (by decide), linkChange_flag, begun_flag]
  · rw [hhost]; exact hframe.settled

/-- A link that is lost (R395). -/
theorem exec_pcieLinkLoss_next (s : State) (hmain : s.mainOn = true) (hup : s.host.up = true) :
    ∃ t, exec .pcieLinkLoss s = .next t ∧ t.host.up = false ∧ t.flag R.HOST_STATUS 2 = true
      ∧ (∀ r, r < 64 → s.coreOwned r = false → (s.ringOf r).state = .running ∨ (s.ringOf r).state = .stopped →
          t.ringOf r = { s.ringOf r with state := .stopped, err := 3 })
      ∧ (∀ r, r < 64 → s.coreOwned r = false → (s.ringOf r).state = .draining → t.ringOf r = { s.ringOf r with err := 3 })
      ∧ (∀ r, s.coreOwned r = true ∨ (s.ringOf r).state = .disabled → t.ringOf r = s.ringOf r)
      ∧ State.Differs [R.HOST_STATUS] { s with host := t.host } t := by
  have hframe := differs_linkDown s
  have hstops := stopsRings_hostStop (linkDown s.begun)
  have howner := hframe.coreOwned
  have hring := linkDown_ringOf s
  rw [exec_pcieLinkLoss, execPcieLinkLoss, onMain_on _ hmain, linkLoss_eq]
  refine ⟨_, rfl, ?_, ?_, fun r hr ho hstate => ?_, fun r hr ho hstate => ?_, fun r h => ?_, ?_⟩
  · rw [settle_host, hstops.host, hframe.host]
  · rw [settle_flag _ _ (by decide)]
    refine hstops.sticky 2 ?_
    rw [linkDown, linkChange_flag, begun_host, hup, Bool.or_true]
  · rw [settle_ringOf, hostStop_ringOf _ hr ((howner r).trans ho), hring, failedRing_of_enabled hstate]
  · rw [settle_ringOf, hostStop_ringOf _ hr ((howner r).trans ho), hring, failedRing_of_draining hstate]
  · rw [settle_ringOf, hostStop_ringOf_kept _ (by rw [howner, hring]; exact h), hring]
  · rw [settle_host]
    exact ((hframe.withHost _).trans hstops.frame).settled

/-- A function-level reset (R395, R403). -/
theorem exec_functionLevelReset_next (s : State) (hmain : s.mainOn = true) (hc : s.calib.run = none) :
    ∃ t, exec .functionLevelReset s = .next t ∧ t.host.msixEn = false ∧ t.host.funcMask = false ∧ t.host.pba = []
      ∧ (∀ a, 0x31000 ≤ a → a < 0x32000 → t.reg a = resetOf a)
      ∧ (∀ r, r < 64 → s.coreOwned r = false → (s.ringOf r).state = .running → (s.ringOf r).cmds = [] →
          t.ringOf r = { s.ringOf r with state := .draining, err := 3 })
      ∧ (∀ r, r < 64 → s.coreOwned r = true → t.ringOf r = s.ringOf r) := by
  have hc' : s.begun.calib.run = none := hc
  have hkeeps := (flr_visits hc').1
  rw [exec_functionLevelReset, execFunctionLevelReset, onMain_on _ hmain]
  refine ⟨_, rfl, ?_, ?_, ?_, fun a h h' => ?_, fun r hr ho hstate hcmds => ?_, fun r hr ho => ?_⟩
  · rw [settle_host, hkeeps.msixEn]; rfl
  · rw [settle_host, hkeeps.funcMask]; rfl
  · rw [settle_host, hkeeps.pba]; rfl
  · rw [settle_reg _ (by simp only [R.INTC_REROUTE_CNT]; omega), hkeeps.regs a h, flrStopped_reg _ h h']
  · rw [settle_ringOf]; exact flr_ringOf_empty hc' hr ho hstate hcmds
  · rw [settle_ringOf]; exact flr_ringOf_coreOwned hc' hr ho

/-- A BAR4 write of unprotected DRAM (R394). -/
theorem exec_bar4Access_write_dram (s : State) (o : Nat) (l : Bytes) (hmain : s.mainOn = true) (hup : s.host.up = true)
    (ho : o + l.length ≤ 2 ^ s.host.bar4) (hl : 0 < l.length) (ha : s.bar4Addr o + l.length ≤ State.fwBase)
    (hprot : ∀ k, k < l.length → s.protectedAt (s.bar4Addr o + k) = false) :
    ∃ t, exec (.bar4Access o (some l) 0) s = .next t ∧ t.rdBytes (s.bar4Addr o) l.length = l
      ∧ (∀ a, a < s.bar4Addr o ∨ s.bar4Addr o + l.length ≤ a → t.rd8 a = s.rd8 a) ∧ State.Differs [] { s with dram := t.dram } t := by
  have heq : s.begun.bar4 o (some l) 0 = s.begun.wrBytes (s.bar4Addr o) l := by
    rw [bar4_write (s := s.begun) hup (by rw [begun_host]; omega)]
    exact barWrite_dram (s := s.begun) ha hprot
  rw [exec_bar4Access, execBar4Access, onMain_on _ hmain, heq]
  refine ⟨_, rfl, ?_, fun a h => ?_, ?_⟩
  · have hspace : s.bar4Addr o + l.length ≤ dramSize := Nat.le_trans ha (by decide)
    rw [rdBytes_eq_map]
    simp only [settle_rd8]
    rw [← rdBytes_eq_map, wrBytes_rdBytes _ _ _ hspace]
  · rw [settle_rd8, wrBytes_rd8_outside _ _ _ h]; rfl
  · rw [settle_dram, wrBytes_eq]
    exact Differs.settled (differs_begin { s with dram := (s.begun.wrBytes (s.bar4Addr o) l).dram })

/-- A BAR4 read of DRAM (R394). -/
theorem exec_bar4Access_read_dram (s : State) (o : Nat) (hmain : s.mainOn = true) (hup : s.host.up = true) (ho : o < 2 ^ s.host.bar4)
    (ha : s.bar4Addr o + 4 ≤ State.fwBase) :
    ∃ t, exec (.bar4Access o none 4) s = .next t ∧ t.bus = w32 (s.rdLE (s.bar4Addr o) 4) ∧ State.Differs [] { s with bus := t.bus } t := by
  have heq : s.begun.bar4 o none 4 = { s.begun with bus := w32 (s.begun.rdLE (s.bar4Addr o) 4) } :=
    bar4_read_dram (s := s.begun) hup ho ha
  have hbytes : s.begun.rdLE (s.bar4Addr o) 4 = s.rdLE (s.bar4Addr o) 4 := rfl
  rw [exec_bar4Access, execBar4Access, onMain_on _ hmain, heq, hbytes]
  refine ⟨_, rfl, settle_bus _, ?_⟩
  rw [settle_bus]
  exact Differs.settled (differs_begin { s with bus := w32 (s.rdLE (s.bar4Addr o) 4) })

/-- A BAR4 write to the firmware's region (R26). -/
theorem exec_bar4Access_write_fwRegion (s : State) (o : Nat) (l : Bytes) (hmain : s.mainOn = true) (hup : s.host.up = true)
    (ho : o < 2 ^ s.host.bar4) (hl : 0 < l.length) (ha : State.fwBase ≤ s.bar4Addr o) :
    ∃ t, exec (.bar4Access o (some l) 0) s = .next t ∧ t.reg R.HOST_FWREGION_CNT = s.reg R.HOST_FWREGION_CNT + 1
      ∧ t.flag R.HOST_STATUS 1 = true ∧ State.Differs [R.HOST_FWREGION_CNT, R.HOST_STATUS] s t := by
  have heq : s.begun.bar4 o (some l) 0 = s.begun.fwRegion := by
    rw [bar4_write (s := s.begun) hup ho]
    exact barWrite_fwRegion hl ha
  rw [exec_bar4Access, execBar4Access, onMain_on _ hmain, heq]
  refine ⟨_, rfl, ?_, ?_, ((differs_begin s).trans (differs_fwRegion _)).settled⟩
  · rw [settle_reg _ (by decide), fwRegion_count, begun_reg]
  · rw [settle_flag _ _ (by decide), fwRegion_flag]

/-- A BAR4 read of the firmware's region (R26). -/
theorem exec_bar4Access_read_fwRegion (s : State) (o n : Nat) (hmain : s.mainOn = true) (hup : s.host.up = true)
    (ho : o < 2 ^ s.host.bar4) (hn : 0 < n) (ha : State.fwBase ≤ s.bar4Addr o) :
    ∃ t, exec (.bar4Access o none n) s = .next t ∧ t.bus = 0 ∧ t.reg R.HOST_FWREGION_CNT = s.reg R.HOST_FWREGION_CNT + 1
      ∧ t.flag R.HOST_STATUS 1 = true ∧ State.Differs [R.HOST_FWREGION_CNT, R.HOST_STATUS] { s with bus := 0 } t := by
  have heq : s.begun.bar4 o none n = ({ s with bus := 0 } : State).begun.fwRegion := bar4_read_fwRegion (s := s.begun) hup ho hn ha
  rw [exec_bar4Access, execBar4Access, onMain_on _ hmain, heq]
  refine ⟨_, rfl, settle_bus _, ?_, ?_, ((differs_begin _).trans (differs_fwRegion _)).settled⟩
  · rw [settle_reg _ (by decide), fwRegion_count, begun_reg]; rfl
  · rw [settle_flag _ _ (by decide), fwRegion_flag]

/-- Settles O36: each command by the lemma about it, R392's identity and R26's bounds by definition. -/
theorem hostLink : Obligations.HostLink :=
  ⟨exec_pcieLinkUp_next, exec_pcieLinkLoss_next, exec_functionLevelReset_next, exec_bar4Access_write_dram, exec_bar4Access_read_dram,
    exec_bar4Access_write_fwRegion, exec_bar4Access_read_fwRegion, fun _ => ⟨rfl, rfl, rfl, rfl⟩, rfl, rfl⟩

end Sys2Proof.Machine

end

section
/-! The register bus (R41–R45, R55, R56, R60, R61): which offsets of a window reach one register, and what becomes of a write that lacks
byte enables, of one to a repeated offset, to a hole or to no block, of a posted write, and of an upset of a configuration word. -/

namespace Sys2Proof.Machine

/-! ## Windows and aliases (R43–R45) -/

theorem resolve_global {o : Nat} (h : o < 0x1000) : resolve o = .at .global 0 (o / 4 * 4 % 0x100) := by
  simp only [resolve, locRep]
  rw [if_pos (by omega)]

theorem resolve_time {l : Nat} (h : l < 0x10000) : resolve (0x20000 + l) = .at .time 0 (l / 4 * 4 % 0x1000) := by
  have hw : (0x20000 + l) / 4 * 4 / 0x10000 = 0x02 := by omega
  have hl : (0x20000 + l) / 4 * 4 % 0x10000 = l / 4 * 4 := by omega
  simp only [resolve, hw, hl, locRep]
  rw [if_neg (by omega), if_neg (by omega), if_neg (by omega)]

/-- The MACs take up four windows and the low part of a fifth. -/
theorem resolve_mac {l : Nat} (h : l < 0x4A000) :
    resolve (0x100000 + l) = .at .mac (l / 4 * 4 / 0x2000) (l / 4 * 4 % 0x2000 % 0x1000) := by
  have hl : (0x100000 + l) / 4 * 4 - 0x100000 = l / 4 * 4 := by omega
  have hw : (0x100000 + l) / 4 * 4 / 0x10000 ∈ [0x10, 0x11, 0x12, 0x13, 0x14] := by simp; omega
  have hin : (decide (0x100000 ≤ (0x100000 + l) / 4 * 4) && decide ((0x100000 + l) / 4 * 4 < 0x14A000)) = true := by simp; omega
  simp only [List.mem_cons, List.not_mem_nil, or_false] at hw
  simp only [resolve]
  rw [if_neg (by omega), if_neg (by omega), if_neg (by omega)]
  rcases hw with hw | hw | hw | hw | hw <;> simp only [hw, hin, hl, if_true, locInst]

/-- R44: GLOBAL repeats within its page. -/
theorem resolve_global_alias {k l : Nat} (hk : k < 16) (hl : l < 0x100) : resolve (0x100 * k + l) = resolve l := by
  rw [resolve_global (by omega), resolve_global (by omega)]
  congr 1
  omega

/-- R44: TIME repeats within its window. -/
theorem resolve_time_alias {k l : Nat} (hk : k < 16) (hl : l < 0x1000) : resolve (0x20000 + 0x1000 * k + l) = resolve (0x20000 + l) := by
  rw [Nat.add_assoc, resolve_time (by omega), resolve_time (by omega)]
  congr 1
  omega

/-- R44: a MAC repeats once within its window. -/
theorem resolve_mac_alias {n l : Nat} (hn : n < 37) (hl : l < 0x1000) :
    resolve (0x100000 + 0x2000 * n + 0x1000 + l) = resolve (0x100000 + 0x2000 * n + l) := by
  rw [show 0x100000 + 0x2000 * n + 0x1000 + l = 0x100000 + (0x2000 * n + 0x1000 + l) by omega, Nat.add_assoc 0x100000,
    resolve_mac (by omega), resolve_mac (by omega)]
  congr 1 <;> omega

theorem resolve_beyond {a : Nat} (h : 0x250000 ≤ a) : resolve a = .unmapped := by
  have hw : 0x25 ≤ a / 4 * 4 / 0x10000 := by omega
  have hmac : (decide (0x100000 ≤ a / 4 * 4) && decide (a / 4 * 4 < 0x14A000)) = false := by simp; omega
  simp only [resolve, hmac]
  rw [if_neg (by omega), if_neg (by omega), if_neg (by omega)]
  generalize a / 4 * 4 / 0x10000 = w at hw
  split
  case h_29 => rfl
  all_goals omega

theorem resolve_gap {a : Nat} (hw : a / 4 * 4 / 0x10000 ∈ [0x0D, 0x0E, 0x0F, 0x19]) : resolve a = .unmapped := by
  simp only [List.mem_cons, List.not_mem_nil, or_false] at hw
  simp only [resolve]
  rw [if_neg (by omega), if_neg (by omega), if_neg (by omega)]
  rcases hw with hw | hw | hw | hw <;> simp only [hw]

theorem resolve_gap_after_mac {a : Nat} (h : 0x14A000 ≤ a) (h' : a < 0x180000) : resolve a = .unmapped := by
  have hw : a / 4 * 4 / 0x10000 ∈ [0x14, 0x15, 0x16, 0x17] := by simp; omega
  have hmac : (decide (0x100000 ≤ a / 4 * 4) && decide (a / 4 * 4 < 0x14A000)) = false := by simp; omega
  simp only [List.mem_cons, List.not_mem_nil, or_false] at hw
  simp only [resolve]
  rw [if_neg (by omega), if_neg (by omega), if_neg (by omega)]
  rcases hw with hw | hw | hw | hw <;> simp only [hw, hmac, Bool.false_eq_true, if_false]

theorem resolve_gap_after_check {a : Nat} (h : 0x1F0800 ≤ a) (h' : a < 0x200000) : resolve a = .unmapped := by
  have hw : a / 4 * 4 / 0x10000 = 0x1F := by omega
  simp only [resolve, hw]
  rw [if_neg (by omega), if_neg (by omega), if_neg (by omega), if_neg (by omega)]

/-- R45: the ranges of no block. -/
theorem resolve_noBlock {a : Nat} (h : 0x250000 ≤ a ∨ 0xD0000 ≤ a ∧ a < 0x100000 ∨ 0x14A000 ≤ a ∧ a < 0x180000
    ∨ 0x190000 ≤ a ∧ a < 0x1A0000 ∨ 0x1F0800 ≤ a ∧ a < 0x200000) : resolve a = .unmapped := by
  obtain h | ⟨h, h'⟩ | ⟨h, h'⟩ | ⟨h, h'⟩ | ⟨h, h'⟩ := h
  · exact resolve_beyond h
  · exact resolve_gap (by simp; omega)
  · exact resolve_gap_after_mac h h'
  · exact resolve_gap (by simp; omega)
  · exact resolve_gap_after_check h h'

/-- R43: SEC, INTC and HOST decode their window once, so a place of theirs has one word offset. -/
theorem offset_of_resolve {b : Block} {x i l : Nat} (hb : b ∈ [.sec, .intc, .host]) (h : resolve x = .at b i l) :
    x / 4 * 4 = b.base.1 + l := by
  simp only [List.mem_cons, List.not_mem_nil, or_false] at hb
  simp only [resolve, locRep, locInst, locOnly] at h
  rcases hb with rfl | rfl | rfl
  all_goals
    repeat' split at h
    all_goals simp only [Loc.at.injEq, reduceCtorEq, false_and, true_and] at h
    simp only [Block.base]
    omega

theorem isCfg_ne {a c : Nat} (ha : isCfg a = true) (hc : isCfg c = false) : a ≠ c := fun h => by simp [h, hc] at ha

/-! ## Rows with one field -/

theorem RegRow.mask_of_single {r : RegRow} {x : Acc} {m : Nat} (h : r.fields = [(x, m)]) (y : Acc) :
    r.mask y = if x = y then BitVec.ofNat 32 m else 0 := by
  simp [RegRow.mask, h]

theorem blend_zero (a b : Word) : blend a b 0#32 = a := by
  rw [blend, BitVec.and_zero, BitVec.or_zero, BitVec.not_zero, BitVec.and_allOnes]

namespace State

theorem wo1Write_none (used : Bool) (cur reset v : Word) : wo1Write used 0#32 cur reset v = (0#32, used, false) := by
  simp [wo1Write]

/-- R6 (RW): the RW bits take the written value, and the word's parity is computed anew. -/
theorem writeRow_rw (s : State) {b : Block} (i a : Nat) {r : RegRow} {m : Nat} (v : Word) (hr : r.fields = [(.rw, m)])
    (hout : r.out = 0) (hb : s.locked b = false) :
    ∃ l, s.writeRow b i a r v = { s.setReg a (blend (s.reg a) v (BitVec.ofNat 32 m)) with badLive := l } := by
  have hall (x : Word) : x &&& 4294967295#32 = x := BitVec.and_allOnes
  by_cases hm : BitVec.ofNat 32 m = 0#32
  · exact ⟨s.badLive, by simp [writeRow, RegRow.mask_of_single hr, hout, hb, wo1Write_none, blend_zero, hall, hm]; rfl⟩
  · exact ⟨_, by simp [writeRow, RegRow.mask_of_single hr, hout, hb, wo1Write_none, blend_zero, hall, hm]; rfl⟩

/-! ## WDROP (R69) -/

theorem status_ne_rerouteCnt (b : Block) (i : Nat) : (b.status i).1 ≠ R.INTC_REROUTE_CNT := by
  cases b <;> simp only [Block.status, R.INTC_REROUTE_CNT] <;> omega

theorem status_wdrop_lt (b : Block) (i : Nat) : (b.status i).2.1 < 32 := by cases b <;> simp [Block.status]

/-- A command that only sets a block's WDROP bit. -/
theorem wdrop_settled (s : State) (b : Block) (i : Nat) :
    (s.begun.wdrop b i).settle.flag (b.status i).1 (b.status i).2.1 = true
      ∧ Differs [(b.status i).1] s (s.begun.wdrop b i).settle :=
  ⟨by rw [settle_flag _ _ (status_ne_rerouteCnt b i)]; exact raise_flag _ _ (status_wdrop_lt b i),
    ((differs_begin s).trans (differs_raise _ _ (by simp))).settled⟩

theorem begun_reachUart (s : State) (b : Block) (i : Nat) : s.begun.reachUart b i = (s.reachUart b i).begun := by
  unfold reachUart; split <;> rfl

/-! ## Unmapped accesses (R45) -/

theorem unmapped_flag (s : State) (o : Nat) : (s.unmapped o).flag R.GLOBAL_STATUS 1 = true := raise_flag _ _ (by decide)

theorem unmapped_addr (s : State) (o : Nat) : (s.unmapped o).reg R.GLOBAL_UNMAPPED_ADDR
    = if s.flag R.GLOBAL_STATUS 1 = true then s.reg R.GLOBAL_UNMAPPED_ADDR else w32 o := by
  rw [unmapped, raise_reg_ne _ _ (by decide)]
  split
  · rfl
  · exact setReg_reg _ _ _

theorem unmapped_bus (s : State) (o : Nat) : (s.unmapped o).bus = s.bus := by
  rw [unmapped, raise_bus]; split <;> rfl

theorem differs_unmapped (s : State) (o : Nat) : Differs [R.GLOBAL_STATUS, R.GLOBAL_UNMAPPED_ADDR] s (s.unmapped o) := by
  refine Differs.trans ?_ (differs_raise _ _ (by simp))
  split
  · exact Differs.refl _ _
  · exact differs_setReg _ _ (by simp)

/-- Writes and reads of no block differ in what they leave on the bus alone. -/
theorem unmapped_access (s : State) {o : Nat} (h : resolve o = .unmapped) (w : Bool) :
    (if w then s.unmapped o else s.busRead o) = { s.unmapped o with bus := if w = true then s.bus else 0 } := by
  cases w with
  | true => simp [← unmapped_bus s o]
  | false => simp [busRead, h]

theorem Differs.withBus {l : List Nat} {u t : State} (h : Differs l u t) (x : Word) : Differs l { u with bus := x } { t with bus := x } :=
  ⟨h.1, h.2.1, by rw [h.2.2]⟩

/-! ## Writes on the bus (R42, R44) -/

section
variable {init : Initiator} {a o : Nat}

theorem exec_registerWrite_on {s : State} (hmain : s.mainOn = true) (be : Nat) (v : Word) :
    exec (.registerWrite init a v be) s = .next (s.begun.registerWrite init a v be).settle := by
  rw [exec_registerWrite, execRegisterWrite, onMain_on _ hmain]

theorem registerWrite_whole (s : State) (v : Word) (h : toRegister init a o) :
    s.registerWrite init a v 15 = s.busWrite init o v := by
  obtain ⟨rfl, hcore⟩ := h
  simp [registerWrite, hcore]

theorem registerWrite_part_at (s : State) {be i l : Nat} {b : Block} (v : Word) (h : toRegister init a o)
    (hloc : resolve o = .at b i l) (hbe : be ≠ 15) : s.registerWrite init a v be = (s.reachUart b i).wdrop b i := by
  obtain ⟨rfl, hcore⟩ := h
  simp [registerWrite, hcore, hbe, hloc]

theorem registerWrite_part_reads0 (s : State) {be : Nat} {b : Block} (v : Word) (h : toRegister init a o)
    (hloc : resolve o = .reads0 b) (hbe : be ≠ 15) : s.registerWrite init a v be = s.wdrop b 0 := by
  obtain ⟨rfl, hcore⟩ := h
  simp [registerWrite, hcore, hbe, hloc]

theorem registerWrite_unmapped (s : State) (be : Nat) (v : Word) (h : toRegister init a o) (hloc : resolve o = .unmapped) :
    s.registerWrite init a v be = s.unmapped o := by
  by_cases hbe : be = 15
  · rw [hbe, registerWrite_whole s v h, busWrite, hloc]
  · obtain ⟨rfl, hcore⟩ := h
    simp [registerWrite, hcore, hbe, hloc]

end

theorem busWrite_reads0 (s : State) (init : Initiator) {o : Nat} {b : Block} (v : Word) (h : resolve o = .reads0 b) :
    s.busWrite init o v = s := by
  rw [busWrite, h]

/-- R60: a write to a register of a slow block that is not busy waits. -/
theorem busWrite_hub_waits {s : State} (init : Initiator) {o l k : Nat} {r : RegRow} (v : Word) (hloc : resolve o = .at .hub 0 l)
    (hrow : rowAt .hub 0 l = some r) (hkey : busyKey (canon .hub 0 l) = some k) (hfree : s.posted.lookup k = none) :
    s.busWrite init o v = { s with posted := (k, (canon .hub 0 l, v)) :: s.posted } := by
  simp [busWrite, hloc, hrow, hkey, hfree, reachUart, ifFree]

/-- R61: while one waits, every other is dropped, whether the offset holds a register or not. -/
theorem busWrite_hub_busy {s : State} (init : Initiator) {o l k : Nat} {w : Nat × Word} (v : Word) (hloc : resolve o = .at .hub 0 l)
    (hkey : busyKey (canon .hub 0 l) = some k) (hbusy : s.posted.lookup k = some w) : s.busWrite init o v = s.wdrop .hub 0 := by
  cases hrow : rowAt .hub 0 l <;> simp [busWrite, hloc, hrow, hkey, hbusy, reachUart, ifFree]

theorem busWrite_alias (s : State) (init : Initiator) {x y : Nat} (v : Word) (h : resolve x = resolve y) (hx : resolve x ≠ .unmapped) :
    s.busWrite init x v = s.busWrite init y v := by
  unfold busWrite
  rw [← h]
  rcases hloc : resolve x with _ | b | ⟨b, i, l⟩
  · exact absurd hloc hx
  · rfl
  · rfl

theorem registerWrite_alias (s : State) {init : Initiator} {a b x y : Nat} (be : Nat) (v : Word) (ha : toRegister init a x)
    (hb : toRegister init b y) (h : resolve x = resolve y) (hx : resolve x ≠ .unmapped) :
    s.registerWrite init a v be = s.registerWrite init b v be := by
  by_cases hbe : be = 15
  · rw [hbe, registerWrite_whole s v ha, registerWrite_whole s v hb, busWrite_alias s init v h hx]
  · rcases hloc : resolve x with _ | c | ⟨c, i, l⟩
    · exact absurd hloc hx
    · rw [registerWrite_part_reads0 s v ha hloc hbe, registerWrite_part_reads0 s v hb (h ▸ hloc) hbe]
    · rw [registerWrite_part_at s v ha hloc hbe, registerWrite_part_at s v hb (h ▸ hloc) hbe]

theorem readWord_alias (s : State) {x y : Nat} (h : resolve x = resolve y) : s.readWord x = s.readWord y := by
  unfold readWord; rw [h]

theorem readWord_reads0 (s : State) {o : Nat} {b : Block} (h : resolve o = .reads0 b) : s.readWord o = 0 := by
  rw [readWord, h]

theorem busRead_alias (s : State) {x y : Nat} (h : resolve x = resolve y) (hx : resolve x ≠ .unmapped) :
    s.busRead x = s.busRead y := by
  unfold busRead
  simp only [readWord_alias _ h]
  rw [h]
  rcases hloc : resolve y with _ | b | ⟨b, i, l⟩
  · exact absurd (h.trans hloc) hx
  · rfl
  · split <;> simp_all

/-! ## A control core's store (R26, R41) -/

/-- The bytes of word v whose numbers l lists, stored each at its place from address a up. -/
def storeBytes (s : State) (a : Nat) (v : Word) (l : List Nat) : State :=
  l.foldl (fun s i => s.wr8 (a + i) (BitVec.ofNat 8 (v.toNat / 256 ^ i))) s

theorem storeBytes_cons (s : State) (a : Nat) (v : Word) (i : Nat) (l : List Nat) :
    s.storeBytes a v (i :: l) = (s.wr8 (a + i) (BitVec.ofNat 8 (v.toNat / 256 ^ i))).storeBytes a v l := rfl

theorem storeBytes_eq (s : State) (a : Nat) (v : Word) (l : List Nat) :
    s.storeBytes a v l = { s with dram := (s.storeBytes a v l).dram } := by
  induction l generalizing s with
  | nil => rfl
  | cons i t ih =>
    rw [storeBytes_cons, ih]
    unfold wr8; split <;> rfl

theorem storeBytes_rd8_outside (s : State) (a : Nat) (v : Word) {l : List Nat} {x : Nat} (h : ∀ j ∈ l, x ≠ a + j) :
    (s.storeBytes a v l).rd8 x = s.rd8 x := by
  induction l generalizing s with
  | nil => rfl
  | cons j t ih =>
    rw [storeBytes_cons, ih _ (fun k hk => h k (List.mem_cons_of_mem _ hk)), wr8_rd8_ne _ _ (h j List.mem_cons_self)]

theorem storeBytes_rd8_inside (s : State) (a : Nat) (v : Word) {l : List Nat} {i : Nat} (hi : i ∈ l) (ha : a + i < dramSize) :
    (s.storeBytes a v l).rd8 (a + i) = BitVec.ofNat 8 (v.toNat / 256 ^ i) := by
  induction l generalizing s with
  | nil => exact absurd hi List.not_mem_nil
  | cons j t ih =>
    rw [storeBytes_cons]
    by_cases ht : i ∈ t
    · exact ih _ ht
    · obtain rfl : i = j := (List.mem_cons.mp hi).resolve_right ht
      rw [storeBytes_rd8_outside _ _ _ (fun k hk hik => ht (by rwa [Nat.add_left_cancel hik])), wr8_rd8 _ _ ha]

/-- Where no byte meets a protected bank all of them land, and none is counted as dropped. -/
theorem landBytes_each_unprotected (s : State) (a : Nat) (v : Word) {l : List Nat} (h : ∀ i ∈ l, s.protectedAt (a + i) = false) :
    l.foldl (fun (x : Nat × State) i =>
      let (n, s) := x.2.landBytes (a + i) [BitVec.ofNat 8 (v.toNat / 256 ^ i)]
      (x.1 + n, s)) (0, s) = (0, s.storeBytes a v l) := by
  induction l generalizing s with
  | nil => rfl
  | cons i t ih =>
    have hi : s.landBytes (a + i) [BitVec.ofNat 8 (v.toNat / 256 ^ i)] = (0, s.wr8 (a + i) (BitVec.ofNat 8 (v.toNat / 256 ^ i))) :=
      landBytes_unprotected s _ _ (by simpa using h i List.mem_cons_self)
    rw [List.foldl_cons, hi, storeBytes_cons]
    exact ih _ (fun k hk => by rw [wr8_protectedAt]; exact h k (List.mem_cons_of_mem _ hk))

/-- The bytes of a word that its byte enables name. -/
def enabledBytes (be : Nat) : List Nat := (List.range 4).filter (fun i => be.testBit i)

theorem mem_enabledBytes {be i : Nat} : i ∈ enabledBytes be ↔ i < 4 ∧ be.testBit i = true := by simp [enabledBytes]

theorem registerWrite_core_dram (s : State) {a : Nat} (be : Nat) (v : Word) (ha : a < dramSize)
    (h : ∀ i, i < 4 → s.protectedAt (a + i) = false) :
    s.registerWrite .core a v be = s.storeBytes a v (enabledBytes be) := by
  have hland := landBytes_each_unprotected s a v (l := enabledBytes be) (fun i hi => h i (mem_enabledBytes.mp hi).1)
  rw [registerWrite, if_pos ⟨rfl, ha⟩, coreStore, ← enabledBytes, hland]
  rfl

/-! ## Posted writes (R60) -/

theorem postedDone_single {s : State} {k a i l : Nat} {v : Word} {b : Block} {r : RegRow} (hposted : s.posted = [(k, (a, v))])
    (hloc : resolve a = .at b i l) (hrow : rowAt b i l = some r) :
    s.postedDone k = ({ s with posted := [] } : State).writeAt .core b i l r v := by
  simp [postedDone, hposted, hloc, hrow]

/-- R64: a register that is no part of a wide value is written at once. -/
theorem writeAt_narrow (s : State) (init : Initiator) {b : Block} (i : Nat) {l : Nat} (r : RegRow) (v : Word)
    (hlow : isWideLow b l = false) (hhigh : wideLow b l = none) : s.writeAt init b i l r v = s.writeWord init b i l r v := by
  simp [writeAt, hlow, hhigh]

theorem writeWord_hub (s : State) (init : Initiator) {i l : Nat} (r : RegRow) (v : Word) (hsc : scClass (canon .hub i l) = none) :
    s.writeWord init .hub i l r v = s.writeRow .hub 0 (canon .hub i l) r v := by
  simp [writeWord, hsc]

/-! ## The parity sweep (R55, R56) -/

theorem upset_live (s : State) {a n : Nat} (hcanon : canonOf a = a) (hcfg : isCfg a = true) (hn : n < 32)
    (hsrc : ¬ (0x10000 ≤ a ∧ a < 0x12000)) :
    s.upset { copy := .live, offset := a, bitNo := n }
      = { s.setReg a (s.reg a ^^^ BitVec.ofNat 32 (2 ^ n)) with badLive := toggleBad s.badLive a } := by
  simp [upset, hcanon, hcfg, hn, Nat.not_lt.mpr (Nat.le_of_lt hn), hsrc]

/-- R56: what a failed check records. -/
def parityRecord (s : State) (a : Nat) : State :=
  ((if s.flag R.GLOBAL_STATUS 0 then s else s.setReg R.GLOBAL_PARITY_ADDR (w32 a)).raise R.GLOBAL_STATUS 0).bump R.GLOBAL_PARITY_CNT

theorem parityRecord_reg_ne (s : State) (a : Nat) {c : Nat} (hc : c ∉ [R.GLOBAL_STATUS, R.GLOBAL_PARITY_ADDR, R.GLOBAL_PARITY_CNT]) :
    (s.parityRecord a).reg c = s.reg c := by
  simp only [List.mem_cons, List.not_mem_nil, or_false, not_or] at hc
  obtain ⟨hstatus, haddr, hcnt⟩ := hc
  rw [parityRecord, bump_reg_ne _ hcnt, raise_reg_ne _ _ hstatus]
  split
  · rfl
  · exact setReg_reg_ne _ _ haddr

theorem parityRecord_status (s : State) (a : Nat) : (s.parityRecord a).flag R.GLOBAL_STATUS 0 = true := by
  rw [parityRecord, bump_flag_other _ _ (by decide)]
  exact raise_flag _ _ (by decide)

theorem parityRecord_cnt (s : State) (a : Nat) : (s.parityRecord a).reg R.GLOBAL_PARITY_CNT = s.reg R.GLOBAL_PARITY_CNT + 1 := by
  rw [parityRecord, bump_reg, raise_reg_ne _ _ (by decide)]
  split
  · rfl
  · rw [setReg_reg_ne _ _ (by decide)]

theorem parityRecord_addr {s : State} (h : s.flag R.GLOBAL_STATUS 0 = false) (a : Nat) :
    (s.parityRecord a).reg R.GLOBAL_PARITY_ADDR = w32 a := by
  rw [parityRecord, bump_reg_ne _ (by decide), raise_reg_ne _ _ (by decide), h]
  exact setReg_reg _ _ _

theorem parityRecord_badLive (s : State) (a : Nat) : (s.parityRecord a).badLive = s.badLive := by
  rw [parityRecord, bump_badLive, raise_badLive]; split <;> rfl

theorem unmaskable_eq (s : State) (cause : Nat) : ∃ b, s.unmaskable cause = { s with brace := b } := by
  unfold unmaskable; split <;> exact ⟨_, rfl⟩

/-- R58: the fault action concerns the brace alone. -/
theorem parityFail_eq (s : State) (a : Nat) : ∃ b, s.parityFail a = { s.parityRecord a with brace := b } := by
  have act (t : State) (n : Nat) :
      ∃ b, (if n = 0 then t else (t.setBrace { t.brace with parity := true }).unmaskable 2) = { t with brace := b } := by
    split
    · exact ⟨_, rfl⟩
    · exact unmaskable_eq _ 2
  exact act (s.parityRecord a) _

theorem paritySweep_single {s : State} {u : Upset} {a : Nat} (hlive : (s.upset u).badLive = [a]) (hshadow : (s.upset u).badShadow = []) :
    s.paritySweep [u] = (s.upset u).parityFail a := by
  simp [paritySweep, hlive, hshadow, Sparse.put, Sparse.erase, Sparse.insertAt]

end State

/-! ## The clauses of BusAccesses -/

open State

/-- R42, R328. -/
theorem exec_registerWrite_part (s : State) (init : Initiator) (a o : Nat) (b : Block) (i l : Nat) (v : Word) (be : Nat)
    (hmain : s.mainOn = true) (hreg : toRegister init a o) (hloc : resolve o = .at b i l) (hbe : be ≠ 15) :
    ∃ t, exec (.registerWrite init a v be) s = .next t ∧ t.flag (b.status i).1 (b.status i).2.1 = true
      ∧ Differs [(b.status i).1] (s.reachUart b i) t := by
  rw [exec_registerWrite_on hmain, registerWrite_part_at _ v hreg hloc hbe, begun_reachUart]
  exact ⟨_, rfl, wdrop_settled (s.reachUart b i) b i⟩

/-- R26, R41. -/
theorem exec_registerWrite_core_dram (s : State) (a be : Nat) (v : Word) (hmain : s.mainOn = true) (ha : a + 4 ≤ dramSize)
    (hfree : ∀ i, i < 4 → s.protectedAt (a + i) = false) :
    ∃ t, exec (.registerWrite .core a v be) s = .next t
      ∧ (∀ i, i < 4 → t.rd8 (a + i) = if be.testBit i then BitVec.ofNat 8 (v.toNat / 256 ^ i) else s.rd8 (a + i))
      ∧ (∀ x, x < a ∨ a + 4 ≤ x → t.rd8 x = s.rd8 x) ∧ Differs [] { s with dram := t.dram } t := by
  rw [exec_registerWrite_on hmain, registerWrite_core_dram s.begun be v (by omega) hfree]
  refine ⟨_, rfl, fun i hi => ?_, fun x hx => ?_, ?_⟩
  · rw [settle_rd8]
    by_cases hb : be.testBit i = true
    · rw [if_pos hb, storeBytes_rd8_inside _ _ _ (mem_enabledBytes.mpr ⟨hi, hb⟩) (by omega)]
    · rw [if_neg hb, storeBytes_rd8_outside _ _ _ (fun j hj hij => by
        obtain rfl := Nat.add_left_cancel hij
        exact hb (mem_enabledBytes.mp hj).2)]
      rfl
  · rw [settle_rd8, storeBytes_rd8_outside _ _ _ (fun j hj => by have := (mem_enabledBytes.mp hj).1; omega)]
    rfl
  · rw [settle_dram, storeBytes_eq]
    exact (differs_begin _).settled

/-- R45. -/
theorem exec_unmappedAccess_unmapped (s : State) (a : Nat) (w : Bool) (hmain : s.mainOn = true) (hloc : resolve a = .unmapped) :
    ∃ t, exec (.unmappedAccess a w) s = .next t ∧ t.flag R.GLOBAL_STATUS 1 = true
      ∧ t.reg R.GLOBAL_UNMAPPED_ADDR = (if s.flag R.GLOBAL_STATUS 1 = true then s.reg R.GLOBAL_UNMAPPED_ADDR else w32 a)
      ∧ t.bus = (if w = true then s.bus else 0)
      ∧ Differs [R.GLOBAL_STATUS, R.GLOBAL_UNMAPPED_ADDR] { s with bus := t.bus } t := by
  rw [exec_unmappedAccess, execUnmappedAccess, onMain_on _ hmain, if_pos hloc, unmapped_access _ hloc]
  refine ⟨_, rfl, ?_, ?_, settle_bus _, ?_⟩
  · rw [settle_flag _ _ (by decide)]; exact unmapped_flag s.begun a
  · rw [settle_reg _ (by decide)]; exact unmapped_addr s.begun a
  · rw [settle_bus]; exact (((differs_begin s).trans (differs_unmapped _ a)).withBus _).settled

/-- R45: a write of no block is the unmapped access, whatever its byte enables. -/
theorem exec_registerWrite_unmapped (s : State) (init : Initiator) (a o be : Nat) (v : Word) (hreg : toRegister init a o)
    (hloc : resolve o = .unmapped) : exec (.registerWrite init a v be) s = exec (.unmappedAccess o true) s := by
  rw [exec_registerWrite, exec_unmappedAccess, execRegisterWrite, execUnmappedAccess]
  congr 1
  funext u
  rw [registerWrite_unmapped u be v hreg hloc, if_pos hloc, if_pos rfl]

/-- R4, R43. -/
theorem exec_registerWrite_reads0 (s : State) (init : Initiator) (a o : Nat) (b : Block) (v : Word) (hmain : s.mainOn = true)
    (hreg : toRegister init a o) (hloc : resolve o = .reads0 b) :
    ∃ t, exec (.registerWrite init a v 15) s = .next t ∧ Differs [] s t ∧ s.readWord o = 0 := by
  rw [exec_registerWrite_on hmain, registerWrite_whole _ v hreg, busWrite_reads0 _ _ v hloc]
  exact ⟨_, rfl, (differs_begin s).settled, readWord_reads0 s hloc⟩

/-- R42 (log entry 10). -/
theorem exec_registerWrite_part_reads0 (s : State) (init : Initiator) (a o be : Nat) (b : Block) (v : Word) (hmain : s.mainOn = true)
    (hreg : toRegister init a o) (hloc : resolve o = .reads0 b) (hbe : be ≠ 15) :
    ∃ t, exec (.registerWrite init a v be) s = .next t ∧ t.flag (b.status 0).1 (b.status 0).2.1 = true
      ∧ Differs [(b.status 0).1] s t := by
  rw [exec_registerWrite_on hmain, registerWrite_part_reads0 _ v hreg hloc hbe]
  exact ⟨_, rfl, wdrop_settled s b 0⟩

/-- R60. -/
theorem exec_registerWrite_hub_waits (s : State) (init : Initiator) (a o l k : Nat) (v : Word) (r : RegRow) (hmain : s.mainOn = true)
    (hreg : toRegister init a o) (hloc : resolve o = .at .hub 0 l) (hrow : rowAt .hub 0 l = some r)
    (hkey : busyKey (canon .hub 0 l) = some k) (hfree : s.posted.lookup k = none) :
    ∃ t, exec (.registerWrite init a v 15) s = .next t ∧ t.posted = (k, (canon .hub 0 l, v)) :: s.posted
      ∧ Differs [] { s with posted := t.posted } t := by
  rw [exec_registerWrite_on hmain, registerWrite_whole _ v hreg, busWrite_hub_waits (s := s.begun) init v hloc hrow hkey hfree]
  refine ⟨_, rfl, settle_posted _, ?_⟩
  rw [settle_posted]
  exact (differs_begin _).settled

/-- R61. -/
theorem exec_registerWrite_hub_busy (s : State) (init : Initiator) (a o l k : Nat) (v : Word) (w : Nat × Word) (hmain : s.mainOn = true)
    (hreg : toRegister init a o) (hloc : resolve o = .at .hub 0 l) (hkey : busyKey (canon .hub 0 l) = some k)
    (hbusy : s.posted.lookup k = some w) :
    ∃ t, exec (.registerWrite init a v 15) s = .next t ∧ t.flag (Block.hub.status 0).1 (Block.hub.status 0).2.1 = true
      ∧ Differs [(Block.hub.status 0).1] s t := by
  rw [exec_registerWrite_on hmain, registerWrite_whole _ v hreg, busWrite_hub_busy (s := s.begun) init v hloc hkey hbusy]
  exact ⟨_, rfl, wdrop_settled s .hub 0⟩

/-- R60: the effect of a posted write comes with its completion. -/
theorem exec_postedWriteComplete_hub (s : State) (k i l : Nat) (v : Word) (r : RegRow) (m : Nat) (hmain : s.mainOn = true)
    (hposted : s.posted = [(k, (canon .hub i l, v))]) (hloc : resolve (canon .hub i l) = .at .hub i l) (hrow : rowAt .hub i l = some r)
    (hrw : r.fields = [(.rw, m)]) (hout : r.out = 0) (hsc : scClass (canon .hub i l) = none) (hlow : isWideLow .hub l = false)
    (hhigh : wideLow .hub l = none) :
    ∃ t, exec (.postedWriteComplete k) s = .next t ∧ t.posted = []
      ∧ t.reg (canon .hub i l) = blend (s.reg (canon .hub i l)) v (BitVec.ofNat 32 m)
      ∧ Differs [canon .hub i l] { s with posted := [], badLive := t.badLive } t := by
  have hne : canon .hub i l ≠ R.INTC_REROUTE_CNT := by simp only [canon, Block.base, R.INTC_REROUTE_CNT]; omega
  obtain ⟨bad, hbad⟩ := writeRow_rw { s.begun with posted := [] } (b := .hub) 0 (canon .hub i l) v hrw hout rfl
  rw [exec_postedWriteComplete, execPostedWriteComplete, onMain_on _ hmain, postedDone_single (s := s.begun) hposted hloc hrow,
    writeAt_narrow _ _ i r v hlow hhigh, writeWord_hub _ _ r v hsc, hbad]
  refine ⟨_, rfl, settle_posted _, ?_, ?_⟩
  · rw [settle_reg _ hne]; exact setReg_reg s.begun _ _
  · rw [settle_badLive]
    exact ((differs_begin { s with posted := [], badLive := bad }).trans (differs_setReg _ _ (by simp))).settled

/-- R55, R56. -/
theorem exec_paritySweep_live (s : State) (a n : Nat) (hmain : s.mainOn = true) (hlive : s.badLive = []) (hshadow : s.badShadow = [])
    (hcanon : canonOf a = a) (hcfg : isCfg a = true) (hn : n < 32) (hsrc : ¬ (0x10000 ≤ a ∧ a < 0x12000))
    (hstatus : s.flag R.GLOBAL_STATUS 0 = false) :
    ∃ t, exec (.paritySweep [{ copy := .live, offset := a, bitNo := n }]) s = .next t ∧ t.badLive = [a]
      ∧ t.reg a = s.reg a ^^^ BitVec.ofNat 32 (2 ^ n) ∧ t.flag R.GLOBAL_STATUS 0 = true ∧ t.reg R.GLOBAL_PARITY_ADDR = w32 a
      ∧ t.reg R.GLOBAL_PARITY_CNT = s.reg R.GLOBAL_PARITY_CNT + 1 := by
  have hne_status : R.GLOBAL_STATUS ≠ a := (isCfg_ne hcfg (by decide)).symm
  have hne_addr : a ≠ R.GLOBAL_PARITY_ADDR := isCfg_ne hcfg (by decide)
  have hne_cnt : R.GLOBAL_PARITY_CNT ≠ a := (isCfg_ne hcfg (by decide)).symm
  have hne_reroute : a ≠ R.INTC_REROUTE_CNT := isCfg_ne hcfg (by decide)
  have hup := upset_live s.begun hcanon hcfg hn hsrc
  generalize hu : s.begun.upset { copy := .live, offset := a, bitNo := n } = u at hup
  have hbad : u.badLive = [a] := by
    rw [hup]
    show toggleBad s.badLive a = [a]
    rw [hlive]; rfl
  have hsame : u.badShadow = [] := by rw [hup]; exact hshadow
  have hself : u.reg a = s.reg a ^^^ BitVec.ofNat 32 (2 ^ n) := by rw [hup]; exact setReg_reg s.begun _ _
  have hother {c : Nat} (hc : c ≠ a) : u.reg c = s.reg c := by rw [hup]; exact setReg_reg_ne s.begun _ hc
  have hunset : u.flag R.GLOBAL_STATUS 0 = false := by rw [flag, hother hne_status]; exact hstatus
  obtain ⟨b, hfail⟩ := parityFail_eq u a
  rw [exec_paritySweep, execParitySweep, onMain_on _ hmain, paritySweep_single (by rw [hu, hbad]) (by rw [hu, hsame]), hu, hfail]
  refine ⟨_, rfl, ?_, ?_, ?_, ?_, ?_⟩
  · rw [settle_badLive]; exact (parityRecord_badLive u a).trans hbad
  · rw [settle_reg _ hne_reroute]
    exact (parityRecord_reg_ne u a (by simp [hne_addr, hne_status.symm, hne_cnt.symm])).trans hself
  · rw [settle_flag _ _ (by decide)]; exact parityRecord_status u a
  · rw [settle_reg _ (by decide)]; exact parityRecord_addr hunset a
  · rw [settle_reg _ (by decide), ← hother hne_cnt]; exact parityRecord_cnt u a

/-- R42, R328. -/
theorem partialWriteDropped_holds : partialWriteDropped := ⟨exec_registerWrite_part, exec_registerWrite_core_dram⟩

/-- R43–R45. -/
theorem aliasWrites_hold : aliasWrites := by
  refine ⟨fun s init a b x y be v ha hb h hx => ?_, fun s a b h ha => ⟨busRead_alias s h ha, readWord_alias s h⟩,
    fun _ _ => resolve_global_alias, fun _ _ => resolve_time_alias, fun _ _ => resolve_mac_alias, fun _ _ => resolve_noBlock⟩
  rw [exec_registerWrite, exec_registerWrite, execRegisterWrite, execRegisterWrite]
  congr 1
  funext u
  exact registerWrite_alias u be v ha hb h hx

/-- R42, R45, R55, R56, R60, R61. -/
theorem busEvents_hold : busEvents :=
  ⟨exec_unmappedAccess_unmapped, exec_registerWrite_unmapped, exec_registerWrite_reads0, exec_registerWrite_part_reads0,
    exec_registerWrite_hub_waits, exec_registerWrite_hub_busy,
    fun _ _ _ _ _ hb hx hy => by have := offset_of_resolve hb hx; have := offset_of_resolve hb hy; omega,
    exec_postedWriteComplete_hub, exec_paritySweep_live⟩

/-- Settles O6: what the bus does with a part of a word, with repeated offsets, and at each of its events, by the lemmas above. -/
theorem busAccesses : Obligations.BusAccesses := ⟨partialWriteDropped_holds, aliasWrites_hold, busEvents_hold⟩

end Sys2Proof.Machine

end

section
/-! Check units (R505–R511): what a feed, INIT, APPEND and the end of a received frame make of a unit's registers, and the check values
of the fixed algorithms, from one pure step per byte. -/

namespace Sys2Proof.Machine

/-! ## Algorithms (R505, R506) -/

/-- R506: VALUE after one more byte, under the algorithm a of number no. -/
def checkNext (no : Nat) (a : CheckAlg) (v : Word) (b : Nat) : Word :=
  let r := v.toNat % 2 ^ a.w
  w32 (match no with
    | 4 => r ^^^ b
    | 5 => (r + b) % 65536
    | _ => checkByte a r b)

/-- R506: RESULT of a VALUE. -/
def checkOut (a : CheckAlg) (v : Word) : Nat :=
  let r := v.toNat % 2 ^ a.w
  (if a.refout then reverseBits a.w r else r) ^^^ a.xorout

/-- R505: the nine ASCII bytes "123456789". -/
def checkDigits : List Nat := [0x31, 0x32, 0x33, 0x34, 0x35, 0x36, 0x37, 0x38, 0x39]

/-- R505: the table's fixed algorithms by ALG, and their check values. -/
def fixedAlgs : List (Nat × CheckAlg) :=
  [(0, ⟨32, 0x04C11DB7, 0xFFFFFFFF, true, true, 0xFFFFFFFF⟩), (1, ⟨32, 0x1EDC6F41, 0xFFFFFFFF, true, true, 0xFFFFFFFF⟩),
    (2, ⟨16, 0x1021, 0xFFFF, false, false, 0⟩), (3, ⟨8, 0x07, 0, false, false, 0⟩), (4, ⟨8, 0, 0, false, false, 0⟩),
    (5, ⟨16, 0, 0, false, false, 0⟩), (7, ⟨32, 0x1EDC6F41, 0xFFFFFFFF, true, true, 0xFFFFFFFF⟩)]

def fixedValues : List (Nat × Nat) :=
  [(0, 0xCBF43926), (1, 0xE3069283), (2, 0x29B1), (3, 0xF4), (4, 0x31), (5, 0x01DD), (7, 0xE3069283)]

/-- The registers of unit n that its own work changes; none of them sets its algorithm. -/
def checkWork (n : Nat) : List Nat := [R.CHECKn_STATUS n, R.CHECKn_VALUE n, R.CHECKn_BYTES n, R.CHECKn_MATCH_CNT n, R.CHECKn_FAIL_CNT n]

/-- Two registers of one unit. -/
theorem checkReg_ne (n : Nat) {c d : Nat} (h : c ≠ d) : c + 0x100 * n ≠ d + 0x100 * n := by omega

/-- The units' registers lie above the interrupt controller's. -/
theorem checkReg_ne_rerouteCnt (n : Nat) {c : Nat} (h : 0x1F0000 ≤ c) : c + 0x100 * n ≠ R.INTC_REROUTE_CNT := by
  simp only [R.INTC_REROUTE_CNT]; omega

/-- R505: the registers that set the algorithm lie outside those that the unit's work changes. -/
theorem checkParam_not_mem_work (n : Nat) {c : Nat} (h : c = 0x1F0000 ∨ 0x1F0020 ≤ c ∧ c ≤ 0x1F0028) : c + 0x100 * n ∉ checkWork n := by
  simp only [checkWork, List.mem_cons, List.not_mem_nil, or_false, not_or, R.CHECKn_STATUS, R.CHECKn_VALUE, R.CHECKn_BYTES,
    R.CHECKn_MATCH_CNT, R.CHECKn_FAIL_CNT]
  omega

theorem leBytes_length (k v : Nat) : (leBytes k v).length = k := by
  induction k generalizing v with
  | zero => rfl
  | succ k ih => simp [leBytes, ih]

theorem atLeast1_eq_max (n : Nat) : atLeast1 n = max 1 n := by unfold atLeast1; split <;> omega

namespace State

theorem Differs.checkReg {l : List Nat} {s t : State} {n c : Nat} (h : Differs l s t) (hl : l ⊆ checkWork n)
    (hc : c = 0x1F0000 ∨ 0x1F0020 ≤ c ∧ c ≤ 0x1F0028) : t.reg (c + 0x100 * n) = s.reg (c + 0x100 * n) :=
  h.1 _ (fun hm => checkParam_not_mem_work n hc (hl hm)) (checkReg_ne_rerouteCnt n (by omega))

/-- A unit's work leaves its algorithm as it is. -/
theorem Differs.checkAlgNo {l : List Nat} {s t : State} {n : Nat} (h : Differs l s t) (hl : l ⊆ checkWork n) :
    t.checkAlgNo n = s.checkAlgNo n := by
  have hctrl : t.reg (R.CHECKn_CTRL n) = s.reg (R.CHECKn_CTRL n) := h.checkReg hl (by decide)
  rw [State.checkAlgNo, State.checkAlgNo, field, field, hctrl]

theorem Differs.checkAlg {l : List Nat} {s t : State} {n : Nat} (h : Differs l s t) (hl : l ⊆ checkWork n) :
    t.checkAlg n = s.checkAlg n := by
  have hctrl : t.reg (R.CHECKn_CTRL n) = s.reg (R.CHECKn_CTRL n) := h.checkReg hl (by decide)
  have hpoly : t.reg (R.CHECKn_POLY n) = s.reg (R.CHECKn_POLY n) := h.checkReg hl (by decide)
  have hinit : t.reg (R.CHECKn_INIT n) = s.reg (R.CHECKn_INIT n) := h.checkReg hl (by decide)
  have hxor : t.reg (R.CHECKn_XOROUT n) = s.reg (R.CHECKn_XOROUT n) := h.checkReg hl (by decide)
  rw [State.checkAlg, State.checkAlg, h.checkAlgNo hl, field, field, flag, flag, flag, flag, hctrl, hpoly, hinit, hxor]

theorem checkAlgNo_of_field {s : State} {n a : Nat} (h : s.field (R.CHECKn_CTRL n) 2 0 = a) :
    s.checkAlgNo n = if a = 7 then 1 else a := by
  rw [checkAlgNo, h]

theorem checkResult_eq (s : State) (n : Nat) : s.checkResult n = checkOut (s.checkAlg n) (s.reg (R.CHECKn_VALUE n)) := rfl

theorem checkOrder_length (s : State) (n v : Nat) : (s.checkOrder n v).length = s.checkK n := by
  unfold checkOrder; split <;> simp [beBytes, leBytes_length]

/-! ## Feeds (R506, R508) -/

theorem checkFeed_value (s : State) (n b : Nat) :
    (s.checkFeed n b).reg (R.CHECKn_VALUE n) = checkNext (s.checkAlgNo n) (s.checkAlg n) (s.reg (R.CHECKn_VALUE n)) b := by
  rw [checkFeed, bump_reg_ne _ (checkReg_ne n (by decide)), setReg_reg]
  rfl

theorem checkFeed_bytes (s : State) (n b : Nat) : (s.checkFeed n b).reg (R.CHECKn_BYTES n) = s.reg (R.CHECKn_BYTES n) + 1 := by
  rw [checkFeed, bump_reg, setReg_reg_ne _ _ (checkReg_ne n (by decide))]

theorem differs_checkFeed (s : State) (n b : Nat) : Differs [R.CHECKn_VALUE n, R.CHECKn_BYTES n] s (s.checkFeed n b) :=
  (differs_setReg s _ (by simp)).trans (differs_bump _ (by simp))

theorem work_of_feed (n : Nat) : [R.CHECKn_VALUE n, R.CHECKn_BYTES n] ⊆ checkWork n := by simp [checkWork]

/-- R508: bytes fed one after the other. -/
def checkFeeds (s : State) (n : Nat) (l : List Nat) : State := l.foldl (fun u b => u.checkFeed n b) s

theorem checkFeeds_nil (s : State) (n : Nat) : s.checkFeeds n [] = s := rfl
theorem checkFeeds_cons (s : State) (n b : Nat) (l : List Nat) : s.checkFeeds n (b :: l) = (s.checkFeed n b).checkFeeds n l := rfl

theorem checkFeeds_value (s : State) (n : Nat) (l : List Nat) :
    (s.checkFeeds n l).reg (R.CHECKn_VALUE n) = l.foldl (checkNext (s.checkAlgNo n) (s.checkAlg n)) (s.reg (R.CHECKn_VALUE n)) := by
  induction l generalizing s with
  | nil => rfl
  | cons b l ih =>
    have hfeed := differs_checkFeed s n b
    rw [checkFeeds_cons, ih, hfeed.checkAlgNo (work_of_feed n), hfeed.checkAlg (work_of_feed n), checkFeed_value, List.foldl_cons]

theorem checkFeeds_bytes (s : State) (n : Nat) (l : List Nat) :
    (s.checkFeeds n l).reg (R.CHECKn_BYTES n) = s.reg (R.CHECKn_BYTES n) + w32 l.length := by
  induction l generalizing s with
  | nil => exact (BitVec.add_zero _).symm
  | cons b l ih =>
    rw [checkFeeds_cons, ih, checkFeed_bytes, BitVec.add_assoc, List.length_cons, Nat.add_comm, w32, w32, BitVec.ofNat_add]
    rfl

theorem differs_checkFeeds (s : State) (n : Nat) (l : List Nat) : Differs [R.CHECKn_VALUE n, R.CHECKn_BYTES n] s (s.checkFeeds n l) := by
  induction l generalizing s with
  | nil => exact Differs.refl _ s
  | cons b l ih => exact (differs_checkFeed s n b).trans (ih _)

theorem checkFeedWord_runs {s : State} {n : Nat} (k : Nat) (v : Word) (hen : s.flag (R.CHECKn_CTRL n) 31 = true)
    (hdir : (s.unitOf n).dir = 0) : s.checkFeedWord n k v = s.checkFeeds n ((leBytes k v.toNat).map (·.toNat)) := by
  simp [checkFeedWord, hen, hdir, checkFeeds, List.foldl_map]

theorem checkFeedWord_off {s : State} {n : Nat} (k : Nat) (v : Word) (hen : s.flag (R.CHECKn_CTRL n) 31 = false) :
    s.checkFeedWord n k v = s.wdrop .check n := by
  simp [checkFeedWord, hen]

/-- R508: a feed of k bytes to a unit that runs and serves no port, to the end of its command. -/
theorem checkFeedWord_settled {s : State} {n : Nat} (k : Nat) (v : Word) (hen : s.flag (R.CHECKn_CTRL n) 31 = true)
    (hdir : (s.unitOf n).dir = 0) :
    (s.begun.checkFeedWord n k v).settle.reg (R.CHECKn_VALUE n)
        = ((leBytes k v.toNat).map (·.toNat)).foldl (checkNext (s.checkAlgNo n) (s.checkAlg n)) (s.reg (R.CHECKn_VALUE n))
      ∧ (s.begun.checkFeedWord n k v).settle.reg (R.CHECKn_BYTES n) = s.reg (R.CHECKn_BYTES n) + w32 k
      ∧ Differs [R.CHECKn_VALUE n, R.CHECKn_BYTES n] s (s.begun.checkFeedWord n k v).settle := by
  rw [checkFeedWord_runs (s := s.begun) k v hen hdir]
  refine ⟨?_, ?_, ((differs_begin s).trans (differs_checkFeeds _ _ _)).settled⟩
  · rw [settle_reg _ (checkReg_ne_rerouteCnt n (by decide))]
    exact checkFeeds_value s.begun n _
  · rw [settle_reg _ (checkReg_ne_rerouteCnt n (by decide)), checkFeeds_bytes, List.length_map, leBytes_length]
    rfl

/-! ## INIT (R506) -/

theorem checkInit_value (s : State) (n : Nat) : (s.checkInit n).reg (R.CHECKn_VALUE n) = w32 (s.checkAlg n).init := by
  rw [checkInit, setReg_reg_ne _ _ (checkReg_ne n (by decide)), setReg_reg]

theorem checkInit_bytes (s : State) (n : Nat) : (s.checkInit n).reg (R.CHECKn_BYTES n) = 0 := setReg_reg _ _ _

theorem checkInit_reg_ne (s : State) {n c : Nat} (hvalue : c ≠ R.CHECKn_VALUE n) (hbytes : c ≠ R.CHECKn_BYTES n) :
    (s.checkInit n).reg c = s.reg c := by
  rw [checkInit, setReg_reg_ne _ _ hbytes, setReg_reg_ne _ _ hvalue]

theorem differs_checkInit (s : State) (n : Nat) : Differs [R.CHECKn_VALUE n, R.CHECKn_BYTES n] s (s.checkInit n) :=
  (differs_setReg s _ (by simp)).trans (differs_setReg _ _ (by simp))

theorem checkInit_check (s : State) (n : Nat) : (s.checkInit n).check = s.check := rfl

/-- A command that ends in INIT leaves the initial value in VALUE, and no byte counted. -/
theorem checkInit_settled (s : State) (n : Nat) :
    (s.checkInit n).settle.reg (R.CHECKn_VALUE n) = w32 (s.checkAlg n).init ∧ (s.checkInit n).settle.reg (R.CHECKn_BYTES n) = 0 := by
  rw [settle_reg _ (checkReg_ne_rerouteCnt n (by decide)), settle_reg _ (checkReg_ne_rerouteCnt n (by decide))]
  exact ⟨checkInit_value s n, checkInit_bytes s n⟩

/-- A command that is INIT alone. -/
theorem checkInit_only (s : State) (n : Nat) :
    (s.begun.checkInit n).settle.reg (R.CHECKn_VALUE n) = w32 (s.checkAlg n).init ∧ (s.begun.checkInit n).settle.reg (R.CHECKn_BYTES n) = 0
      ∧ Differs [R.CHECKn_VALUE n, R.CHECKn_BYTES n] s (s.begun.checkInit n).settle := by
  obtain ⟨hvalue, hbytes⟩ := checkInit_settled s.begun n
  exact ⟨hvalue, hbytes, ((differs_begin s).trans (differs_checkInit _ n)).settled⟩

/-- R505: feeding the nine digits from INIT gives RESULT by the pure step. -/
theorem checkResult_digits (s : State) (n : Nat) :
    ((s.checkInit n).checkFeeds n checkDigits).checkResult n
      = checkOut (s.checkAlg n) (checkDigits.foldl (checkNext (s.checkAlgNo n) (s.checkAlg n)) (w32 (s.checkAlg n).init)) := by
  have hinit := differs_checkInit s n
  have hfeeds := differs_checkFeeds (s.checkInit n) n checkDigits
  rw [checkResult_eq, checkFeeds_value, checkInit_value, hfeeds.checkAlg (work_of_feed n), hinit.checkAlg (work_of_feed n),
    hinit.checkAlgNo (work_of_feed n)]

/-! ## Serial ports -/

theorem uartOf_of_uart {s t : State} (h : t.uart = s.uart) (p : Nat) : t.uartOf p = s.uartOf p := by unfold uartOf; rw [h]
theorem setUart_uartOf (s : State) (p : Nat) (u : Uart) : (s.setUart p u).uartOf p = u := Sparse.get_put_same _ _ _ _
theorem setUart_uartOf_ne (s : State) {p q : Nat} (u : Uart) (h : q ≠ p) : (s.setUart p u).uartOf q = s.uartOf q :=
  Sparse.get_put_ne _ _ _ u h

/-! ## APPEND (R511) -/

section
variable {s : State} {n p : Nat}

theorem checkAppend_inert (hdir : (s.unitOf n).dir = 1) (hport : (s.unitOf n).port = p) (hinert : s.uartInert p = true) :
    s.checkAppend n = s.checkInit n := by
  simp [checkAppend, hdir, hport, hinert]

theorem checkAppend_full (hdir : (s.unitOf n).dir = 1) (hport : (s.unitOf n).port = p) (hinert : s.uartInert p = false)
    (hfull : 256 < (s.uartOf p).tx.length + s.checkK n) : s.checkAppend n = s.raise (R.CHECKn_STATUS n) 2 := by
  simp [checkAppend, hdir, hport, hinert, checkOrder_length, hfull]

theorem checkAppend_room (hdir : (s.unitOf n).dir = 1) (hport : (s.unitOf n).port = p) (hinert : s.uartInert p = false)
    (hroom : (s.uartOf p).tx.length + s.checkK n ≤ 256) :
    s.checkAppend n = (s.setUart p { s.uartOf p with
      tx := (s.uartOf p).tx ++ (s.checkOrder n (s.checkResult n)).map (·.toNat), idleSeen := false }).checkInit n := by
  simp [checkAppend, hdir, hport, hinert, checkOrder_length, Nat.not_lt.mpr hroom]

end

/-! ## The end of a received frame (R511) -/

@[simp] theorem setUnit_unitOf (s : State) (n : Nat) (u : CheckUnit) : (s.setUnit n u).unitOf n = u := Sparse.get_put_same _ _ _ _
theorem unitOf_of_check {s t : State} (h : t.check = s.check) (n : Nat) : t.unitOf n = s.unitOf n := by unfold unitOf; rw [h]

/-- R511: a frame ends: the counter c counts it, bit b of STATUS tells, the unit holds nothing any more and starts anew. -/
def endFrame (s : State) (n c b : Nat) : State :=
  (((s.bump c).raise (R.CHECKn_STATUS n) b).setUnit n { s.unitOf n with held := [], chars := 0, bad := false }).checkInit n

theorem checkFrameEnd_match {s : State} {n : Nat} (hdir : (s.unitOf n).dir = 2) (hlong : s.checkK n < (s.unitOf n).chars)
    (hgood : (s.unitOf n).bad = false)
    (heq : (s.unitOf n).held.map (fun x => BitVec.ofNat 8 x.1) = s.checkOrder n (s.checkResult n)) :
    s.checkFrameEnd n = s.endFrame n (R.CHECKn_MATCH_CNT n) 0 := by
  have hchars : (s.unitOf n).chars ≠ 0 := by omega
  simp [checkFrameEnd, endFrame, hdir, hchars, hlong, hgood, heq]

theorem checkFrameEnd_fail {s : State} {n : Nat} (hdir : (s.unitOf n).dir = 2) (hchars : 0 < (s.unitOf n).chars)
    (hfail : (s.unitOf n).chars ≤ s.checkK n ∨ (s.unitOf n).bad = true
      ∨ (s.unitOf n).held.map (fun x => BitVec.ofNat 8 x.1) ≠ s.checkOrder n (s.checkResult n)) :
    s.checkFrameEnd n = s.endFrame n (R.CHECKn_FAIL_CNT n) 1 := by
  have hchars : (s.unitOf n).chars ≠ 0 := by omega
  have hok : (decide (s.checkK n < (s.unitOf n).chars) && !(s.unitOf n).bad
      && (s.unitOf n).held.map (fun x => BitVec.ofNat 8 x.1) == s.checkOrder n (s.checkResult n)) = false := by
    rcases hfail with hshort | hbad | hne
    · simp [Nat.not_lt.mpr hshort]
    · simp [hbad]
    · simp [hne]
  simp [checkFrameEnd, endFrame, hdir, hchars, hok]

theorem checkGap_runs {s : State} {n : Nat} (hn : n < 8) (hdir : (s.unitOf n).dir = 2) (hchars : 0 < (s.unitOf n).chars) :
    s.checkGap n = (s.waitFrc (checkEnd s n (s.unitOf n))).checkFrameEnd n := by
  have hruns : ¬ (8 ≤ n ∨ (s.unitOf n).dir ≠ 2 ∨ (s.unitOf n).chars = 0) := by omega
  rw [checkGap, if_neg hruns, atLeast1_eq_max]
  rfl

/-- A frame that ends at FRC f, to the end of its command. -/
theorem endFrame_settled (s : State) {n c b : Nat} (f : Nat) (hc : c = R.CHECKn_MATCH_CNT n ∨ c = R.CHECKn_FAIL_CNT n) (hb : b < 32) :
    ∃ t, ((s.begun.waitFrc f).endFrame n c b).settle = t ∧ t.reg c = s.reg c + 1 ∧ t.flag (R.CHECKn_STATUS n) b = true
      ∧ t.unitOf n = { s.unitOf n with held := [], chars := 0, bad := false }
      ∧ t.reg (R.CHECKn_VALUE n) = w32 (s.checkAlg n).init ∧ t.time.frc = max s.time.frc f
      ∧ Differs [c, R.CHECKn_STATUS n, R.CHECKn_VALUE n, R.CHECKn_BYTES n] { s with check := t.check, time := t.time } t := by
  have hreg : c ≠ R.INTC_REROUTE_CNT ∧ c ≠ R.CHECKn_VALUE n ∧ c ≠ R.CHECKn_BYTES n ∧ c ≠ R.CHECKn_STATUS n := by
    rcases hc with rfl | rfl <;>
      exact ⟨checkReg_ne_rerouteCnt n (by decide), checkReg_ne n (by decide), checkReg_ne n (by decide), checkReg_ne n (by decide)⟩
  obtain ⟨hreroute, hvalue, hbytes, hstatus⟩ := hreg
  refine ⟨_, rfl, ?_, ?_, ?_, ?_, ?_, ?_⟩
  · rw [settle_reg _ hreroute, endFrame, checkInit_reg_ne _ hvalue hbytes]
    exact (raise_reg_ne _ _ hstatus).trans (bump_reg _ _)
  · rw [settle_flag _ _ (checkReg_ne_rerouteCnt n (by decide)), flag, endFrame,
      checkInit_reg_ne _ (checkReg_ne n (by decide)) (checkReg_ne n (by decide))]
    exact raise_flag ((s.begun.waitFrc f).bump c) _ hb
  · rw [unitOf_of_check (settle_check _), endFrame, unitOf_of_check (checkInit_check _ n), setUnit_unitOf]
    rfl
  · have hwork : [c, R.CHECKn_STATUS n] ⊆ checkWork n := by rcases hc with rfl | rfl <;> simp [checkWork]
    have hcounted : Differs [c, R.CHECKn_STATUS n] (s.begun.waitFrc f) (((s.begun.waitFrc f).bump c).raise (R.CHECKn_STATUS n) b) :=
      (differs_bump _ (by simp)).trans (differs_raise _ _ (by simp))
    exact (checkInit_settled _ n).1.trans (congrArg (fun a => w32 a.init) (hcounted.checkAlg hwork))
  · rw [settle_time]; rfl
  · rw [settle_check, settle_time]
    exact ((((differs_begin _).trans (differs_bump _ (by simp))).trans (differs_raise _ _ (by simp))).trans
      ((differs_checkInit _ n).mono (by simp))).settled

/-! ## Who reaches a unit (R510) -/

theorem checkBy_reaches {i : Initiator} {n : Nat} (s : State) (f : State → State) (h : checkReaches i n) : s.checkBy i n f = f s := by
  obtain ⟨hn, hforeign⟩ := h
  rw [checkBy, if_neg (by omega), if_neg]
  rintro ⟨hi, hlow⟩
  have := hforeign hi
  omega

theorem checkBy_foreign {i : Initiator} {n : Nat} (s : State) (f : State → State) (hi : i = .host ∨ i = .partner) (hn : n < 4) :
    s.checkBy i n f = s.wdrop .check n := by
  rw [checkBy, if_neg (by omega), if_pos ⟨hi, hn⟩]

end State

/-! ## The clauses of CheckUnits -/

open State

/-- R505: a fixed algorithm is set by ALG alone. -/
theorem checkAlg_fixed (s : State) (n a : Nat) (x : CheckAlg) (ha : s.field (R.CHECKn_CTRL n) 2 0 = a) (hx : (a, x) ∈ fixedAlgs) :
    s.checkAlg n = x := by
  rw [checkAlg, checkAlgNo_of_field ha]
  simp only [fixedAlgs, List.mem_cons, List.not_mem_nil, or_false, Prod.mk.injEq] at hx
  rcases hx with ⟨rfl, rfl⟩ | ⟨rfl, rfl⟩ | ⟨rfl, rfl⟩ | ⟨rfl, rfl⟩ | ⟨rfl, rfl⟩ | ⟨rfl, rfl⟩ | ⟨rfl, rfl⟩ <;> rfl

/-- R505: the check values, in R506's arithmetic alone. -/
theorem fixedValues_of_fixedAlgs : ∀ q ∈ fixedValues, ∃ p ∈ fixedAlgs, p.1 = q.1
    ∧ checkOut p.2 (checkDigits.foldl (checkNext (if p.1 = 7 then 1 else p.1) p.2) (w32 p.2.init)) = q.2 := by
  decide +kernel

/-- R505. -/
theorem checkResult_fixed (s : State) (n a r : Nat) (ha : s.field (R.CHECKn_CTRL n) 2 0 = a) (hr : (a, r) ∈ fixedValues) :
    ((s.checkInit n).checkFeeds n checkDigits).checkResult n = r := by
  obtain ⟨⟨b, x⟩, hx, hb, hvalue⟩ := fixedValues_of_fixedAlgs (a, r) hr
  have hfield : s.field (R.CHECKn_CTRL n) 2 0 = b := ha.trans hb.symm
  rw [checkResult_digits, checkAlg_fixed s n b x hfield hx, checkAlgNo_of_field hfield]
  exact hvalue

/-- R505: the programmable algorithm. -/
theorem checkAlg_programmable (s : State) (n w : Nat) (ha : s.field (R.CHECKn_CTRL n) 2 0 = 6) (hw : s.field (R.CHECKn_CTRL n) 21 16 = w)
    (hpos : 0 < w) (hle : w ≤ 32) :
    s.checkAlg n = ⟨w, (s.reg (R.CHECKn_POLY n)).toNat % 2 ^ w, (s.reg (R.CHECKn_INIT n)).toNat % 2 ^ w, s.flag (R.CHECKn_CTRL n) 8,
      s.flag (R.CHECKn_CTRL n) 9, (s.reg (R.CHECKn_XOROUT n)).toNat % 2 ^ w⟩ := by
  have hwidth : ¬ (w = 0 ∨ 32 < w) := by omega
  simp [checkAlg, checkAlgNo_of_field ha, hw, hwidth]

/-- R506: XOR8. -/
theorem checkFeed_value_xor8 (s : State) (n b : Nat) (ha : s.field (R.CHECKn_CTRL n) 2 0 = 4) :
    (s.checkFeed n b).reg (R.CHECKn_VALUE n) = w32 ((s.reg (R.CHECKn_VALUE n)).toNat % 2 ^ 8 ^^^ b) := by
  rw [checkFeed_value, checkAlgNo_of_field ha, checkAlg_fixed s n 4 ⟨8, 0, 0, false, false, 0⟩ ha (by decide)]
  rfl

/-- R506: SUM16. -/
theorem checkFeed_value_sum16 (s : State) (n b : Nat) (ha : s.field (R.CHECKn_CTRL n) 2 0 = 5) :
    (s.checkFeed n b).reg (R.CHECKn_VALUE n) = w32 (((s.reg (R.CHECKn_VALUE n)).toNat + b) % 2 ^ 16) := by
  rw [checkFeed_value, checkAlgNo_of_field ha, checkAlg_fixed s n 5 ⟨16, 0, 0, false, false, 0⟩ ha (by decide), ← Nat.mod_add_mod]
  rfl

section
variable (s : State) (i : Initiator) (n : Nat) (v : Word)

theorem exec_checkFeed8_runs (hmain : s.mainOn = true) (hreach : checkReaches i n) (hen : s.flag (R.CHECKn_CTRL n) 31 = true)
    (hdir : (s.unitOf n).dir = 0) :
    ∃ t, exec (.checkFeed8 i n v) s = .next t
      ∧ t.reg (R.CHECKn_VALUE n) = checkNext (s.checkAlgNo n) (s.checkAlg n) (s.reg (R.CHECKn_VALUE n)) (v.toNat % 256)
      ∧ t.reg (R.CHECKn_BYTES n) = s.reg (R.CHECKn_BYTES n) + 1 ∧ Differs [R.CHECKn_VALUE n, R.CHECKn_BYTES n] s t := by
  rw [exec_checkFeed8, execCheckFeed8, onMain_on _ hmain, checkBy_reaches _ _ hreach]
  exact ⟨_, rfl, checkFeedWord_settled 1 v hen hdir⟩

theorem exec_checkFeed16_runs (hmain : s.mainOn = true) (hreach : checkReaches i n) (hen : s.flag (R.CHECKn_CTRL n) 31 = true)
    (hdir : (s.unitOf n).dir = 0) :
    ∃ t, exec (.checkFeed16 i n v) s = .next t
      ∧ t.reg (R.CHECKn_VALUE n) = ((s.checkFeed n (v.toNat % 256)).checkFeed n (v.toNat / 256 % 256)).reg (R.CHECKn_VALUE n)
      ∧ t.reg (R.CHECKn_BYTES n) = s.reg (R.CHECKn_BYTES n) + 2 ∧ Differs [R.CHECKn_VALUE n, R.CHECKn_BYTES n] s t := by
  have hlist : (leBytes 2 v.toNat).map (·.toNat) = [v.toNat % 256, v.toNat / 256 % 256] := by simp [leBytes]
  obtain ⟨hvalue, hbytes, hframe⟩ := checkFeedWord_settled 2 v hen hdir
  rw [hlist, ← checkFeeds_value] at hvalue
  simp only [checkFeeds_cons, checkFeeds_nil] at hvalue
  rw [exec_checkFeed16, execCheckFeed16, onMain_on _ hmain, checkBy_reaches _ _ hreach]
  exact ⟨_, rfl, hvalue, hbytes, hframe⟩

theorem exec_checkFeed32_runs (hmain : s.mainOn = true) (hreach : checkReaches i n) (hen : s.flag (R.CHECKn_CTRL n) 31 = true)
    (hdir : (s.unitOf n).dir = 0) :
    ∃ t, exec (.checkFeed32 i n v) s = .next t
      ∧ t.reg (R.CHECKn_VALUE n) = ((((s.checkFeed n (v.toNat % 256)).checkFeed n (v.toNat / 256 % 256)).checkFeed n
          (v.toNat / 65536 % 256)).checkFeed n (v.toNat / 16777216)).reg (R.CHECKn_VALUE n)
      ∧ t.reg (R.CHECKn_BYTES n) = s.reg (R.CHECKn_BYTES n) + 4 ∧ Differs [R.CHECKn_VALUE n, R.CHECKn_BYTES n] s t := by
  have hlist : (leBytes 4 v.toNat).map (·.toNat)
      = [v.toNat % 256, v.toNat / 256 % 256, v.toNat / 65536 % 256, v.toNat / 16777216] := by
    have htop : v.toNat / 16777216 < 256 := by have := v.isLt; omega
    simp [leBytes, Nat.div_div_eq_div_mul, Nat.mod_eq_of_lt htop]
  obtain ⟨hvalue, hbytes, hframe⟩ := checkFeedWord_settled 4 v hen hdir
  rw [hlist, ← checkFeeds_value] at hvalue
  simp only [checkFeeds_cons, checkFeeds_nil] at hvalue
  rw [exec_checkFeed32, execCheckFeed32, onMain_on _ hmain, checkBy_reaches _ _ hreach]
  exact ⟨_, rfl, hvalue, hbytes, hframe⟩

/-- R510. -/
theorem exec_checkFeed8_foreign (hmain : s.mainOn = true) (hi : i = .host ∨ i = .partner) (hn : n < 4) :
    ∃ t, exec (.checkFeed8 i n v) s = .next t ∧ t.flag (R.CHECKn_STATUS n) 5 = true ∧ Differs [R.CHECKn_STATUS n] s t := by
  rw [exec_checkFeed8, execCheckFeed8, onMain_on _ hmain, checkBy_foreign _ _ hi hn]
  exact ⟨_, rfl, wdrop_settled s .check n⟩

/-- R508. -/
theorem exec_checkFeed32_off (hmain : s.mainOn = true) (hreach : checkReaches i n) (hen : s.flag (R.CHECKn_CTRL n) 31 = false) :
    ∃ t, exec (.checkFeed32 i n v) s = .next t ∧ t.flag (R.CHECKn_STATUS n) 5 = true ∧ Differs [R.CHECKn_STATUS n] s t := by
  rw [exec_checkFeed32, execCheckFeed32, onMain_on _ hmain, checkBy_reaches _ _ hreach, checkFeedWord_off (s := s.begun) 4 v hen]
  exact ⟨_, rfl, wdrop_settled s .check n⟩

/-- R506. -/
theorem exec_checkInit_runs (hmain : s.mainOn = true) (hreach : checkReaches i n) :
    ∃ t, exec (.checkInit i n) s = .next t ∧ t.reg (R.CHECKn_VALUE n) = w32 (s.checkAlg n).init ∧ t.reg (R.CHECKn_BYTES n) = 0
      ∧ Differs [R.CHECKn_VALUE n, R.CHECKn_BYTES n] s t := by
  rw [exec_checkInit, execCheckInit, onMain_on _ hmain, checkBy_reaches _ _ hreach]
  exact ⟨_, rfl, checkInit_only s n⟩

end

section
variable (s : State) (i : Initiator) (n p : Nat)

theorem exec_checkAppend_on (hmain : s.mainOn = true) (hreach : checkReaches i n) :
    exec (.checkAppend i n) s = .next (s.begun.checkAppend n).settle := by
  rw [exec_checkAppend, execCheckAppend, onMain_on _ hmain, checkBy_reaches _ _ hreach]

theorem exec_checkAppend_room (hmain : s.mainOn = true) (hreach : checkReaches i n)
    (hserves : s.unitOf n = { s.unitOf n with dir := 1, port := p }) (hinert : s.uartInert p = false)
    (hroom : (s.uartOf p).tx.length + s.checkK n ≤ 256) :
    ∃ t, exec (.checkAppend i n) s = .next t ∧ t.reg (R.CHECKn_VALUE n) = w32 (s.checkAlg n).init ∧ t.reg (R.CHECKn_BYTES n) = 0
      ∧ portOnly s p { s.uartOf p with
          tx := (s.uartOf p).tx ++ (s.checkOrder n (s.checkResult n)).map (·.toNat), idleSeen := false }
          [R.CHECKn_VALUE n, R.CHECKn_BYTES n] t := by
  have hdir : (s.begun.unitOf n).dir = 1 := congrArg CheckUnit.dir hserves
  have hport : (s.begun.unitOf n).port = p := congrArg CheckUnit.port hserves
  rw [exec_checkAppend_on s i n hmain hreach, checkAppend_room hdir hport hinert hroom]
  generalize hx : ({ s.begun.uartOf p with
    tx := (s.begun.uartOf p).tx ++ (s.begun.checkOrder n (s.begun.checkResult n)).map (·.toNat), idleSeen := false } : Uart) = x
  obtain ⟨hvalue, hbytes⟩ := checkInit_settled (s.begun.setUart p x) n
  have huart : ((s.begun.setUart p x).checkInit n).settle.uart = (s.begun.setUart p x).uart := settle_uart _
  refine ⟨_, rfl, hvalue, hbytes, ?_, fun q hq => ⟨?_, ?_⟩, ?_⟩
  · rw [uartOf_of_uart huart, setUart_uartOf, ← hx]; rfl
  · rw [uartOf_of_uart huart, setUart_uartOf_ne _ _ hq]; rfl
  · rw [huart]; rfl
  · rw [huart]
    exact ((differs_begin _).trans (differs_checkInit _ n)).settled

theorem exec_checkAppend_inert (hmain : s.mainOn = true) (hreach : checkReaches i n)
    (hserves : s.unitOf n = { s.unitOf n with dir := 1, port := p }) (hinert : s.uartInert p = true) :
    ∃ t, exec (.checkAppend i n) s = .next t ∧ t.reg (R.CHECKn_VALUE n) = w32 (s.checkAlg n).init ∧ t.reg (R.CHECKn_BYTES n) = 0
      ∧ Differs [R.CHECKn_VALUE n, R.CHECKn_BYTES n] s t := by
  have hdir : (s.begun.unitOf n).dir = 1 := congrArg CheckUnit.dir hserves
  have hport : (s.begun.unitOf n).port = p := congrArg CheckUnit.port hserves
  rw [exec_checkAppend_on s i n hmain hreach, checkAppend_inert hdir hport hinert]
  exact ⟨_, rfl, checkInit_only s n⟩

theorem exec_checkAppend_full (hmain : s.mainOn = true) (hreach : checkReaches i n)
    (hserves : s.unitOf n = { s.unitOf n with dir := 1, port := p }) (hinert : s.uartInert p = false)
    (hfull : 256 < (s.uartOf p).tx.length + s.checkK n) :
    ∃ t, exec (.checkAppend i n) s = .next t ∧ t.flag (R.CHECKn_STATUS n) 2 = true ∧ Differs [R.CHECKn_STATUS n] s t := by
  have hdir : (s.begun.unitOf n).dir = 1 := congrArg CheckUnit.dir hserves
  have hport : (s.begun.unitOf n).port = p := congrArg CheckUnit.port hserves
  rw [exec_checkAppend_on s i n hmain hreach, checkAppend_full hdir hport hinert hfull]
  refine ⟨_, rfl, ?_, ((differs_begin s).trans (differs_raise _ _ (by simp))).settled⟩
  rw [settle_flag _ _ (checkReg_ne_rerouteCnt n (by decide))]
  exact raise_flag _ _ (by decide)

end

section
variable (s : State) (n : Nat) (u : CheckUnit)

/-- R511: the line has been mark for the gap, behind a character. -/
theorem exec_checkFrameEnd_runs (hmain : s.mainOn = true) (hn : n < 8) (hu : s.unitOf n = u) (hdir : u.dir = 2) (hchars : 0 < u.chars) :
    exec (.checkFrameEnd n) s = .next ((s.begun.waitFrc (checkEnd s n u)).checkFrameEnd n).settle := by
  subst hu
  rw [exec_checkFrameEnd, execCheckFrameEnd, onMain_on _ hmain, checkGap_runs (s := s.begun) hn hdir hchars]
  rfl

theorem exec_checkFrameEnd_match (hmain : s.mainOn = true) (hn : n < 8) (hu : s.unitOf n = u) (hdir : u.dir = 2)
    (hlong : s.checkK n < u.chars) (hgood : u.bad = false)
    (heq : u.held.map (fun x => BitVec.ofNat 8 x.1) = s.checkOrder n (s.checkResult n)) :
    ∃ t, exec (.checkFrameEnd n) s = .next t ∧ t.reg (R.CHECKn_MATCH_CNT n) = s.reg (R.CHECKn_MATCH_CNT n) + 1
      ∧ t.flag (R.CHECKn_STATUS n) 0 = true ∧ t.unitOf n = { u with held := [], chars := 0 }
      ∧ t.reg (R.CHECKn_VALUE n) = w32 (s.checkAlg n).init ∧ t.time.frc = max s.time.frc (checkEnd s n u)
      ∧ Differs [R.CHECKn_MATCH_CNT n, R.CHECKn_STATUS n, R.CHECKn_VALUE n, R.CHECKn_BYTES n]
          { s with check := t.check, time := t.time } t := by
  obtain ⟨t, ht, hcnt, hstatus, hunit, hvalue, hfrc, hframe⟩ :=
    endFrame_settled s (b := 0) (checkEnd s n u) (.inl (Eq.refl (R.CHECKn_MATCH_CNT n))) (by decide)
  rw [exec_checkFrameEnd_runs s n u hmain hn hu hdir (by omega)]
  subst hu
  rw [checkFrameEnd_match (s := s.begun.waitFrc _) hdir hlong hgood heq, ht]
  exact ⟨t, rfl, hcnt, hstatus, by rw [hunit, hgood], hvalue, hfrc, hframe⟩

theorem exec_checkFrameEnd_fail (hmain : s.mainOn = true) (hn : n < 8) (hu : s.unitOf n = u) (hdir : u.dir = 2) (hchars : 0 < u.chars)
    (hfail : u.chars ≤ s.checkK n ∨ u.bad = true ∨ u.held.map (fun x => BitVec.ofNat 8 x.1) ≠ s.checkOrder n (s.checkResult n)) :
    ∃ t, exec (.checkFrameEnd n) s = .next t ∧ t.reg (R.CHECKn_FAIL_CNT n) = s.reg (R.CHECKn_FAIL_CNT n) + 1
      ∧ t.flag (R.CHECKn_STATUS n) 1 = true ∧ t.unitOf n = { u with held := [], chars := 0, bad := false }
      ∧ t.time.frc = max s.time.frc (checkEnd s n u)
      ∧ Differs [R.CHECKn_FAIL_CNT n, R.CHECKn_STATUS n, R.CHECKn_VALUE n, R.CHECKn_BYTES n]
          { s with check := t.check, time := t.time } t := by
  obtain ⟨t, ht, hcnt, hstatus, hunit, -, hfrc, hframe⟩ :=
    endFrame_settled s (b := 1) (checkEnd s n u) (.inr (Eq.refl (R.CHECKn_FAIL_CNT n))) (by decide)
  rw [exec_checkFrameEnd_runs s n u hmain hn hu hdir hchars]
  subst hu
  rw [checkFrameEnd_fail (s := s.begun.waitFrc _) hdir hchars hfail, ht]
  exact ⟨t, rfl, hcnt, hstatus, hunit, hfrc, hframe⟩

end

/-- R505, R506. -/
theorem checkValues_hold : checkValues :=
  ⟨checkResult_fixed, checkAlg_fixed, checkAlg_programmable, fun s n b _ => checkFeed_value_xor8 s n b,
    fun s n b _ => checkFeed_value_sum16 s n b⟩

/-- R506, R508, R510, R511. -/
theorem checkUnitCommands_hold : checkUnitCommands :=
  ⟨exec_checkFeed8_runs, exec_checkFeed16_runs, exec_checkFeed32_runs, exec_checkInit_runs, exec_checkAppend_room, exec_checkAppend_inert,
    exec_checkAppend_full, exec_checkFrameEnd_match, exec_checkFrameEnd_fail, exec_checkFeed8_foreign, exec_checkFeed32_off⟩

/-- Settles O31: the algorithms by the pure step of a byte, the commands by the lemma of each of them. -/
theorem checkUnits : Obligations.CheckUnits := ⟨checkValues_hold, checkUnitCommands_hold⟩

end Sys2Proof.Machine

end
